-- ==== Sys2Proof/Word.lean ====
section
/-!
DEFINITION. The word types of the panel and the sparse maps that hold its memories and register files.
-/
namespace Sys2Proof

/-- A byte. -/
abbrev Byte := BitVec 8
/-- A register or a half of a scratchpad word (R479). -/
abbrev W32 := BitVec 32
/-- A 64-bit scratchpad, header or Tally word (R121, R204, R351). -/
abbrev W64 := BitVec 64
/-- A word with its three check symbols, an SSC4-76 codeword (R128). -/
abbrev W76 := BitVec 76

/-- A sparse map: keys strictly rising, and no entry equal to what its unlisted key reads as. -/
abbrev SMap (α : Type) := List (Nat × α)

end Sys2Proof
end

