-- ==== Sys2Proof/Syntax.lean ====
section
/-!
DEFINITION. The commands of the panel: one constructor of Instr for each row of the opcode table, with its operands,
and the operand types. What an operand holds is what reaches the panel from outside the step (an address, a value, a
measured quantity, the identity of the unit that acts); everything else a step needs it takes from the state.
-/
namespace Sys2Proof

/-- A tile index t = 12y + x (R14). -/
abbrev Tile := Fin 144
/-- A core of the panel: tile t and core index c (R18). -/
structure Cid where
  t : Fin 144
  c : Fin 64
deriving DecidableEq, Repr

/-- A region of a tile: tile t and region code r (Table 1.3). -/
structure Rid where
  t : Fin 144
  r : Fin 4
deriving DecidableEq, Repr

/-- One end of a Frepor sub-link: sub-link block j = 8·port + k of a tile (R489), or sub-link k of a ring die (R19, R22). -/
inductive LinkEnd where
  | tile (t : Fin 144) (j : Fin 32)
  | die (d : Fin 22) (k : Fin 8)
deriving DecidableEq, Repr

/-- A router: the router of a core, or the router of a ring die (R19, R22). -/
inductive RouterId where
  | core (x : Cid)
  | die (d : Fin 22)
deriving DecidableEq, Repr

/-- A node of the time tree and of the membership epoch: a tile, or a ring die (R282, R405). -/
inductive Node where
  | tile (t : Fin 144)
  | die (d : Fin 22)
deriving DecidableEq, Repr

/-- The PLN slot's fields besides its operation (Table 6.1). -/
structure PlnSlot where
  src : Fin 4
  w : Bool
  fin : Fin 4
  ins : Fin 8
  auxs : Fin 8
  outs : Fin 8
  scs : Fin 8
  sds : Fin 8
  fe : Fin 8
  preg : Fin 16
  lreg : Fin 16
  func : Fin 16
  ocm : Bool
  fl : Bool
  row : Fin 8192
  rsv : BitVec 6
deriving DecidableEq, Repr

/-- A request that an asynchronous port (requesters 12 to 14) presents to a scratchpad bank in one region cycle
(Table 5.1, R124). -/
structure BankReq where
  q : Fin 15
  bank : Fin 32
  line : Fin 2048
  read : Bool
deriving DecidableEq, Repr

/-- A command in flight: the host port and the tag that name it (R432). -/
structure CmdId where
  port : Fin 4
  tag : BitVec 16
deriving DecidableEq, Repr

/-- The commands of the panel: one constructor for each row of the opcode table, in the table's order.  The docstring of
each names the rule the table gives it. -/
inductive Instr where
  /-- BUNDLE_ISSUE (R95). -/
  | bundleIssue (x : Cid) (req : List BankReq)
  /-- NOP (R88). -/
  | nop (x : Cid)
  /-- JMP (R90). -/
  | jmp (x : Cid) (target : Fin 2048)
  /-- BR (R90). -/
  | br (x : Cid) (cond : Fin 16) (reg : Fin 16) (target : Fin 2048)
  /-- LOOP (R524). -/
  | loop (x : Cid) (reg : Fin 16) (last : Fin 2048)
  /-- SETL (R90). -/
  | setl (x : Cid) (reg : Fin 16) (imm : BitVec 16)
  /-- SETH (R90). -/
  | seth (x : Cid) (reg : Fin 16) (imm : BitVec 16)
  /-- ADDI (R90). -/
  | addi (x : Cid) (reg : Fin 16) (imm : BitVec 16)
  /-- STRM (R91). -/
  | strm (x : Cid) (stream : Fin 8) (base stride count : Fin 16)
  /-- GMODE (R90). -/
  | gmode (x : Cid) (entry : Fin 8) (a b c : Fin 16)
  /-- DMAQ (R106). -/
  | dmaq (x : Cid) (addr : BitVec 19)
  /-- POSTR (R90). -/
  | postr (x : Cid) (token : Fin 64) (ep : Fin 16) (amount : BitVec 8)
  /-- WREG (R497). -/
  | wreg (x : Cid) (reg : Fin 16) (off : BitVec 12)
  /-- RREG (R497). -/
  | rreg (x : Cid) (reg : Fin 16) (off : BitVec 12)
  /-- RETI (R114). -/
  | reti (x : Cid)
  /-- HALT (R90). -/
  | halt (x : Cid)
  /-- VEC (R61). -/
  | vec (x : Cid) (mode : Fin 8) (row : Fin 512) (stream : Fin 8) (side : Bool) (sstream : Fin 8)
  /-- OPEN (R73). -/
  | open_ (x : Cid) (mode : Fin 8) (first groups : Fin 32) (anchor : BitVec 10) (chk : Bool)
  /-- READ (R74). -/
  | read (x : Cid) (mode : Fin 8) (row : Fin 512) (planer : Bool) (stream : Fin 8)
  /-- SWAP (R64). -/
  | swap (x : Cid)
  /-- LOAD (R94). -/
  | load (x : Cid) (mode : Fin 8) (chk : Bool) (addr : BitVec 19)
  /-- WEIGHT_LOAD_DONE (R94). -/
  | weightLoadDone (x : Cid)
  /-- HELD_WEIGHT_MISMATCH (R78). -/
  | heldWeightMismatch (x : Cid) (k : Fin 128) (col : Fin 128) (code : BitVec 16)
  /-- SRD (R93). -/
  | srd (x : Cid) (reg : Fin 16) (addr : BitVec 19)
  /-- SWR (R93). -/
  | swr (x : Cid) (reg : Fin 16) (addr : BitVec 19)
  /-- TRAP_ENTRY (R114). -/
  | trapEntry (x : Cid)
  /-- WATCHDOG_EXPIRY (R117). -/
  | watchdogExpiry (x : Cid)
  /-- DESCRIPTOR_START (R106). -/
  | descriptorStart (x : Cid)
  /-- COPY (R108). -/
  | copy (x : Cid) (k : Nat)
  /-- GATHER (R108). -/
  | gather (x : Cid) (k : Nat)
  /-- SCATTER (R108). -/
  | scatter (x : Cid) (k : Nat)
  /-- DISPATCH (R112). -/
  | dispatch (x : Cid) (k : Nat)
  /-- DESCRIPTOR_WRITEBACK (R110). -/
  | descriptorWriteback (x : Cid) (k : Nat)
  /-- SCRUB_WRITEBACK (R132). -/
  | scrubWriteback (x : Cid) (bank : Fin 32)
  /-- CORE_RETAIN_WRITE (R135). -/
  | coreRetainWrite (x : Cid) (v : BitVec 32)
  /-- LARDER_ENABLE (R139). -/
  | larderEnable (x : Cid) (v : BitVec 32)
  /-- LARDER_DISABLE (R140). -/
  | larderDisable (x : Cid) (v : BitVec 32)
  /-- LARDER_REL (R143). -/
  | larderRel (x : Cid) (v : BitVec 32)
  /-- LARDER_ARRIVAL (R142). -/
  | larderArrival (x : Cid) (id : Nat)
  /-- LARDER_REFILL (R142). -/
  | larderRefill (x : Cid)
  /-- LARDER_TIMEOUT (R144). -/
  | larderTimeout (x : Cid)
  /-- SMAX (R158). -/
  | smax (x : Cid) (sl : PlnSlot)
  /-- OFOLD (R159). -/
  | ofold (x : Cid) (sl : PlnSlot)
  /-- ODIV (R160). -/
  | odiv (x : Cid) (sl : PlnSlot)
  /-- LPACK (R161). -/
  | lpack (x : Cid) (sl : PlnSlot)
  /-- LMERGE (R162). -/
  | lmerge (x : Cid) (sl : PlnSlot)
  /-- STAT (R164). -/
  | stat (x : Cid) (sl : PlnSlot)
  /-- NORM (R164). -/
  | norm (x : Cid) (sl : PlnSlot)
  /-- ACT (R153). -/
  | act (x : Cid) (sl : PlnSlot)
  /-- QUANT (R152). -/
  | quant (x : Cid) (sl : PlnSlot)
  /-- SCAN (R165). -/
  | scan (x : Cid) (sl : PlnSlot)
  /-- LCLR (R156). -/
  | lclr (x : Cid) (sl : PlnSlot)
  /-- PLANER_INBOX_WRITE (R163). -/
  | planerInboxWrite (x : Cid) (id : Nat)
  /-- DRAM_ACCESS (R173). -/
  | dramAccess (x : Cid)
  /-- DRAM_READ_DONE (R180). -/
  | dramReadDone (x : Cid) (k : Nat)
  /-- REFRESH (R182). -/
  | refresh (x : Cid) (bank : Fin 64)
  /-- DRAM_SCRUB_WRITE (R184). -/
  | dramScrubWrite (x : Cid) (bank : Fin 64)
  /-- DRAM_RETIRE (R197). -/
  | dramRetire (x : Cid) (v : BitVec 32)
  /-- RETIREMENT_DONE (R197). -/
  | retirementDone (x : Cid)
  /-- DRAM_INIT_DONE (R193). -/
  | dramInitDone (x : Cid)
  /-- WARDEN_SAMPLE (R327). -/
  | wardenSample (t : Fin 144) (die dram : List (BitVec 16)) (pw : List (BitVec 32)) (draw : BitVec 32)
  /-- PACKET_INJECT (R209). -/
  | packetInject (r : RouterId) (h0 h1 h2 h3 : BitVec 64) (payload : List (BitVec 76))
  /-- PACKET_ROUTE (R220). -/
  | packetRoute (id : Nat)
  /-- PACKET_COMMIT (R210). -/
  | packetCommit (id : Nat)
  /-- WRITE (R205). -/
  | write (id : Nat)
  /-- READ_PACKET (R206). -/
  | readPacket (id : Nat)
  /-- RDATA (R520). -/
  | rdata (id : Nat)
  /-- POST (R206). -/
  | post (id : Nat)
  /-- STATUS (R207). -/
  | status (id : Nat)
  /-- RSP_TIMEOUT (R208). -/
  | rspTimeout (src : BitVec 29) (xfer : BitVec 8)
  /-- PORT_DOWN (R232). -/
  | portDown (x : Cid) (port : Fin 4)
  /-- ROUTER_INTERNAL_FAULT (R232). -/
  | routerInternalFault (r : RouterId)
  /-- ARB_STARVE (R237). -/
  | arbStarve (x : Cid) (arb : Fin 38) (q : Fin 15)
  /-- DATA_FRAME (R249). -/
  | dataFrame (e : LinkEnd) (d : BitVec 512) (sd : BitVec 168)
  /-- IDLE_FRAME (R246). -/
  | idleFrame (e : LinkEnd) (d : BitVec 512) (sd : BitVec 168)
  /-- CTRL_FRAME (R246). -/
  | ctrlFrame (e : LinkEnd) (d : BitVec 512) (sd : BitVec 168) (t : BitVec 32)
  /-- NAK (R249). -/
  | nak (e : LinkEnd) (seq : BitVec 10)
  /-- REPLAY_TIMEOUT (R249). -/
  | replayTimeout (e : LinkEnd)
  /-- REPLAY_LIMIT (R249). -/
  | replayLimit (e : LinkEnd)
  /-- LINK_MESSAGE_REPEAT (R251). -/
  | linkMessageRepeat (e : LinkEnd)
  /-- CAP (R254). -/
  | cap (e : LinkEnd) (m : BitVec 512)
  /-- CAP_ACK (R254). -/
  | capAck (e : LinkEnd) (m : BitVec 512)
  /-- PHASE (R252). -/
  | phase (e : LinkEnd) (ph : BitVec 8)
  /-- PHASE_SWITCH (R252). -/
  | phaseSwitch (e : LinkEnd)
  /-- EQ (R251). -/
  | eq (e : LinkEnd) (m : BitVec 512)
  /-- PING (R258). -/
  | ping (e : LinkEnd) (m : BitVec 512) (turn : BitVec 32)
  /-- PONG (R258). -/
  | pong (e : LinkEnd) (m : BitVec 512) (rt : BitVec 32)
  /-- RETRAIN_REQ (R260). -/
  | retrainReq (e : LinkEnd)
  /-- RETRAIN_ACK (R260). -/
  | retrainAck (e : LinkEnd) (refuse : Bool)
  /-- DOWN (R263). -/
  | down (e : LinkEnd) (reason : BitVec 8)
  /-- SPARE (R252). -/
  | spare (e : LinkEnd) (m : BitVec 512)
  /-- TRAINING_START (R263). -/
  | trainingStart (e : LinkEnd)
  /-- CLOCK_LOCK (R256). -/
  | clockLock (e : LinkEnd)
  /-- CENSUS_END (R242). -/
  | censusEnd (e : LinkEnd) (bad : List (Fin 170))
  /-- TRAIN_IDLE_END (R256). -/
  | trainIdleEnd (e : LinkEnd)
  /-- TRAIN_LOADED_END (R257). -/
  | trainLoadedEnd (e : LinkEnd) (ms : List (Fin 170 × BitVec 6))
  /-- PHASE_TIMEOUT (R256). -/
  | phaseTimeout (e : LinkEnd)
  /-- MARGIN_LOW (R259). -/
  | marginLow (e : LinkEnd) (m : BitVec 6)
  /-- LINK_CTL_RETRAIN (R260). -/
  | linkCtlRetrain (e : LinkEnd) (v : BitVec 32)
  /-- RETRAIN_DONE (R261). -/
  | retrainDone (e : LinkEnd) (bad : List (Fin 170)) (pass : Bool)
  /-- PLL_LOCK (R269). -/
  | pllLock (n : Node)
  /-- REF_LOST (R269). -/
  | refLost (n : Node)
  /-- REF_RETURN (R269). -/
  | refReturn (n : Node)
  /-- ADAPT_WINDOW (R273). -/
  | adaptWindow (x : Rid) (slack : Fin 33)
  /-- DROOP_TRIP (R274). -/
  | droopTrip (x : Rid) (cycles : BitVec 32)
  /-- DROOP_CLEAR (R274). -/
  | droopClear (x : Rid) (cycles : BitVec 32)
  /-- DCO_LOCK (R276). -/
  | dcoLock (x : Rid)
  /-- TIME_TICK (R283). -/
  | timeTick
  /-- TIME (R284). -/
  | time (n : Node) (ttx trx : BitVec 68)
  /-- TIME_HOLDOVER (R285). -/
  | timeHoldover (n : Node)
  /-- TIME_TREE_REFORM (R285). -/
  | timeTreeReform
  /-- PPS_EDGE (R288). -/
  | ppsEdge (frac : Fin 1000)
  /-- PPS_LOST (R288). -/
  | ppsLost
  /-- FEED_SAMPLE (R294). -/
  | feedSample (va vb : BitVec 32) (ia ib : BitVec 16)
  /-- POWER_COLLAPSE (R296). -/
  | powerCollapse
  /-- IBC_FAILURE (R297). -/
  | ibcFailure (seg : Fin 17)
  /-- POL_FAULT (R300). -/
  | polFault (t : Fin 144)
  /-- REG_CELL_FAIL (R302). -/
  | regCellFail (x : Rid)
  /-- HEADER_STAGE (R310). -/
  | headerStage (x : Rid) (a b : BitVec 8)
  /-- ADMIT_FORCE (R310). -/
  | admitForce (x : Rid) (a b : BitVec 8)
  /-- TILE_ADMIT (R311). -/
  | tileAdmit (t : Fin 144)
  /-- VF_STEP (R305). -/
  | vfStep (x : Rid)
  /-- VCORE_SET_WRITE (R307). -/
  | vcoreSetWrite (x : Rid) (v : BitVec 32)
  /-- PREPARE_RETRY (R320). -/
  | prepareRetry (x : Cid) (unit : Fin 8)
  /-- PREPARE_ANSWER (R319). -/
  | prepareAnswer (x : Cid) (unit : Fin 8)
  /-- ENTRY_COMMIT (R321). -/
  | entryCommit (x : Rid)
  /-- HANDSHAKE_TIMEOUT (R323). -/
  | handshakeTimeout (x : Rid)
  /-- WAKE_ON_PACKET (R314). -/
  | wakeOnPacket (x : Rid)
  /-- REGION_WAKE_DONE (R326). -/
  | regionWakeDone (x : Rid)
  /-- REGION_SWITCH_OFF (R314). -/
  | regionSwitchOff (x : Rid)
  /-- ANALOG_TRIP (R333). -/
  | analogTrip (x : Rid)
  /-- REPORT_TICK (R334). -/
  | reportTick (t : Fin 144)
  /-- REPORT (R334). -/
  | report (t : Fin 144)
  /-- BUDGET_TICK (R335). -/
  | budgetTick
  /-- BUDGET (R337). -/
  | budget (t : Fin 144)
  /-- BUDGET_STALE (R337). -/
  | budgetStale (t : Fin 144)
  /-- TRAY_READ (R339). -/
  | trayRead (ack : Bool) (tin tout flow : BitVec 16) (st : BitVec 8)
  /-- THROTTLE_TICK (R341). -/
  | throttleTick
  /-- BMC_WAKE (R318). -/
  | bmcWake (v : BitVec 32)
  /-- BRINGUP_START (R344). -/
  | bringupStart (sel : Bool)
  /-- PERST_RELEASE (R347). -/
  | perstRelease (n : Fin 4)
  /-- HOST_PORT_RESET (R369). -/
  | hostPortReset (n : Fin 4)
  /-- PANEL_RESET (R368). -/
  | panelReset (pin : Bool)
  /-- KEEPER (R350). -/
  | keeper (ksel : BitVec 2) (pcieErr : Bool)
  /-- TALLY (R353). -/
  | tally
  /-- POWER (R359). -/
  | power
  /-- TILE_RAILS_UP (R358). -/
  | tileRailsUp (t : Fin 144)
  /-- ROUTES (R360). -/
  | routes (pcieErr : Bool)
  /-- PTC_START (R281). -/
  | ptcStart
  /-- IMAGE (R361). -/
  | image (pcieErr : Bool)
  /-- IMAGE_CHECK (R361). -/
  | imageCheck (x : Cid)
  /-- BOOT_STEP_DONE (R349). -/
  | bootStepDone
  /-- TALLY_REC_CTL (R357). -/
  | tallyRecCtl (v : BitVec 32)
  /-- TALLY_VOID (R357). -/
  | tallyVoid (slot : BitVec 2) (tile : BitVec 8)
  /-- TALLY_RECORD_DONE (R357). -/
  | tallyRecordDone (ok : Bool)
  /-- TILE_READY (R362). -/
  | tileReady (t : Fin 144)
  /-- COMPUTE_RESET (R370). -/
  | computeReset (x : Cid)
  /-- COMPUTE_RESET_DONE (R370). -/
  | computeResetDone (x : Cid)
  /-- LEGACY_DRAIN_END (R377). -/
  | legacyDrainEnd
  /-- ROUTER_RESET_DONE (R376). -/
  | routerResetDone (x : Cid)
  /-- FAULT_NOTE (R389). -/
  | faultNote (t : Fin 144)
  /-- FAULT_NOTE_TICK (R388). -/
  | faultNoteTick (t : Fin 144)
  /-- FC_STICKY_WRITE (R392). -/
  | fcStickyWrite (n : Fin 145) (v ev : BitVec 25) (c : Fin 64)
  /-- SELFTEST_DONE (R398). -/
  | selftestDone (x : Cid) (mask : BitVec 10)
  /-- EPOCH_INCREMENT (R404). -/
  | epochIncrement
  /-- EPOCH (R405). -/
  | epoch (n : Node)
  /-- EPOCH_ACK (R405). -/
  | epochAck (n : Node)
  /-- EPOCH_ACK_TIMEOUT (R405). -/
  | epochAckTimeout (t : Fin 144)
  /-- HEARTBEAT_LOST (R407). -/
  | heartbeatLost (t : Fin 144)
  /-- HEALTH_RISE (R410). -/
  | healthRise (t : Fin 144)
  /-- HEALTH (R410). -/
  | health (t : Fin 144)
  /-- EXPULSION (R411). -/
  | expulsion (t : Fin 144)
  /-- GOVERNOR_TICK (R412). -/
  | governorTick
  /-- MIRROR (R419). -/
  | mirror
  /-- SKID_HEARTBEAT (R419). -/
  | skidHeartbeat
  /-- KEEPER_TAKEOVER (R420). -/
  | keeperTakeover (relayed : Bool)
  /-- PANEL_QUERY (R442). -/
  | panelQuery (id : CmdId)
  /-- HEALTH_READ (R442). -/
  | healthRead (id : CmdId)
  /-- TILE_ENABLE (R442). -/
  | tileEnable (id : CmdId)
  /-- TILE_FENCE (R401). -/
  | tileFence (id : CmdId)
  /-- TILE_READMIT (R402). -/
  | tileReadmit (id : CmdId)
  /-- CORE_FENCE (R401). -/
  | coreFence (id : CmdId)
  /-- CORE_READMIT (R402). -/
  | coreReadmit (id : CmdId)
  /-- SWAP_RESERVE (R417). -/
  | swapReserve (id : CmdId)
  /-- IMAGE_LOAD (R442). -/
  | imageLoad (id : CmdId) (pcieErr : Bool)
  /-- PROGRAM_LOAD (R442). -/
  | programLoad (id : CmdId) (pcieErr : Bool)
  /-- PROGRAM_LAUNCH (R442). -/
  | programLaunch (id : CmdId)
  /-- STEP_BARRIER (R414). -/
  | stepBarrier (id : CmdId)
  /-- STEP_REPLAY (R415). -/
  | stepReplay (id : CmdId)
  /-- WINDOW_OPEN (R459). -/
  | windowOpen (id : CmdId)
  /-- WINDOW_CLOSE (R462). -/
  | windowClose (id : CmdId)
  /-- DMA_COPY (R442). -/
  | dmaCopy (id : CmdId)
  /-- POWER_STATE (R314). -/
  | powerState (id : CmdId)
  /-- CLOCK_SET (R306). -/
  | clockSet (id : CmdId)
  /-- THERMAL_POLICY (R337). -/
  | thermalPolicy (id : CmdId)
  /-- BUDGET_SET (R337). -/
  | budgetSet (id : CmdId)
  /-- RESET_SCOPE (R365). -/
  | resetScope (id : CmdId)
  /-- ROUTER_RESET (R375). -/
  | routerReset (id : CmdId)
  /-- ROUTE_TABLE_LOAD (R443). -/
  | routeTableLoad (id : CmdId) (pcieErr : Bool)
  /-- CHECK_POLICY (R394). -/
  | checkPolicy (id : CmdId)
  /-- SELFTEST (R397). -/
  | selftest (id : CmdId)
  /-- FAULT_READ (R442). -/
  | faultRead (id : CmdId)
  /-- FAULT_CLEAR (R392). -/
  | faultClear (id : CmdId)
  /-- REACTION_SET (R387). -/
  | reactionSet (id : CmdId)
  /-- TIME_SYNC (R287). -/
  | timeSync (id : CmdId)
  /-- FABRIC_DISCOVER (R452). -/
  | fabricDiscover (id : CmdId)
  /-- FABRIC_ROUTE_LOAD (R443). -/
  | fabricRouteLoad (id : CmdId) (pcieErr : Bool)
  /-- ATTEST (R476). -/
  | attest (id : CmdId)
  /-- MEASURE_READ (R474). -/
  | measureRead (id : CmdId) (pcieErr : Bool)
  /-- SQ_TAIL_DOORBELL (R429). -/
  | sqTailDoorbell (port : Fin 4) (q : Fin 64) (v : BitVec 32)
  /-- CQ_HEAD_DOORBELL (R429). -/
  | cqHeadDoorbell (port : Fin 4) (q : Fin 64) (v : BitVec 32)
  /-- SQ_ENABLE (R428). -/
  | sqEnable (port : Fin 4) (q cq : Fin 64) (size : BitVec 12)
  /-- SQ_DISABLE (R428). -/
  | sqDisable (port : Fin 4) (q cq : Fin 64) (size : BitVec 12)
  /-- CQ_ENABLE (R428). -/
  | cqEnable (port : Fin 4) (q : Fin 64) (ien : Bool) (vec : BitVec 11) (size : BitVec 12)
  /-- CQ_DISABLE (R428). -/
  | cqDisable (port : Fin 4) (q : Fin 64) (ien : Bool) (vec : BitVec 11) (size : BitVec 12)
  /-- COMMAND_FETCH (R431). -/
  | commandFetch (pcieErr : Bool)
  /-- COMMAND_TIMEOUT (R439). -/
  | commandTimeout (id : CmdId)
  /-- APERTURE_WRITE (R425). -/
  | apertureWrite (port : Fin 4) (slot : Fin 64) (off : BitVec 30) (data : List (BitVec 8))
  /-- APERTURE_READ (R426). -/
  | apertureRead (port : Fin 4) (slot : Fin 64) (off : BitVec 30) (len : Fin 4097)
  /-- YELKOR_LANE_TRAINING_END (R446). -/
  | yelkorLaneTrainingEnd (q : Fin 64) (ok r200 : Bool)
  /-- YELKOR_CELL (R448). -/
  | yelkorCell (q : Fin 64) (cell : BitVec 704) (fecBad : Bool) (t : BitVec 32)
  /-- YELKOR_REPLAY_TIMEOUT (R448). -/
  | yelkorReplayTimeout (q : Fin 64)
  /-- YK_MARGIN_WINDOW (R449). -/
  | ykMarginWindow (q : Fin 64) (n : BitVec 32)
  /-- HELLO_TICK (R450). -/
  | helloTick (q : Fin 64)
  /-- HELLO (R450). -/
  | hello (q : Fin 64) (m : BitVec 256)
  /-- ROOT_EXPIRY (R453). -/
  | rootExpiry
  /-- ID_REQ (R453). -/
  | idReq (q : Fin 64) (ident : BitVec 64)
  /-- ID_CLAIM (R453). -/
  | idClaim (q : Fin 64) (ident : BitVec 64) (id : BitVec 12)
  /-- ID_GRANT (R453). -/
  | idGrant (ident : BitVec 64) (id : BitVec 12)
  /-- ID_REFUSE (R454). -/
  | idRefuse (ident : BitVec 64) (id : BitVec 12)
  /-- YELKOR_RECEIVE (R457). -/
  | yelkorReceive (id : Nat)
  /-- YTIME_TICK (R463). -/
  | ytimeTick
  /-- YTIME (R464). -/
  | ytime (q : Fin 64) (m : BitVec 256)
  /-- YTIME_HOLDOVER (R464). -/
  | ytimeHoldover
  /-- PORT_DELAY_TICK (R463). -/
  | portDelayTick (q : Fin 64)
  /-- DEVICEID_DERIVED (R467). -/
  | deviceidDerived (k : Fin 2)
  /-- ALIAS_DERIVED (R467). -/
  | aliasDerived (k : Fin 2)
  /-- SIGNATURE_DONE (R475). -/
  | signatureDone (pcieErr : Bool)
  /-- GET_VERSION (R477). -/
  | getVersion (port : Fin 4) (req : List (BitVec 8))
  /-- GET_CAPABILITIES (R477). -/
  | getCapabilities (port : Fin 4) (req : List (BitVec 8))
  /-- NEGOTIATE_ALGORITHMS (R477). -/
  | negotiateAlgorithms (port : Fin 4) (req : List (BitVec 8))
  /-- GET_DIGESTS (R477). -/
  | getDigests (port : Fin 4) (req : List (BitVec 8))
  /-- GET_CERTIFICATE (R477). -/
  | getCertificate (port : Fin 4) (req : List (BitVec 8))
  /-- CHALLENGE (R477). -/
  | challenge (port : Fin 4) (req : List (BitVec 8))
  /-- GET_MEASUREMENTS (R477). -/
  | getMeasurements (port : Fin 4) (req : List (BitVec 8))
  /-- CHUNK_SEND (R477). -/
  | chunkSend (port : Fin 4) (req : List (BitVec 8))
  /-- CHUNK_GET (R477). -/
  | chunkGet (port : Fin 4) (req : List (BitVec 8))
  /-- SR_SEED_HI_WRITE (R496). -/
  | srSeedHiWrite (x : Cid) (v : BitVec 32)
  /-- SR_SEED_LO_WRITE (R496). -/
  | srSeedLoWrite (x : Cid) (v : BitVec 32)
  /-- LO_READ_LATCH (R481). -/
  | loReadLatch (port : Fin 4) (w : BitVec 24)
  /-- REGISTER_WRITE (R479). -/
  | registerWrite (port : Fin 4) (w : BitVec 24) (be : BitVec 4) (v : BitVec 32)
  /-- CAGE_OVERCURRENT (R502). -/
  | cageOvercurrent (q : Fin 64)
  /-- SETDASA (R511). -/
  | setdasa (addr : BitVec 7)
  /-- ENTDAA (R511). -/
  | entdaa (addr : BitVec 7)
  /-- ENEC (R511). -/
  | enec
  /-- BMC_REGISTER_WRITE (R511). -/
  | bmcRegisterWrite (off : BitVec 8) (v : BitVec 32)
  /-- CLOCK_LOST (R263). -/
  | clockLost (e : LinkEnd)
  /-- REFCLK_LOST (R513). -/
  | refclkLost (n : Fin 4)
  /-- BUSY_SECOND (R409). -/
  | busySecond (t : Fin 144)
  /-- FORCED_STRETCH_END (R310). -/
  | forcedStretchEnd (t : Fin 144)
  /-- GLIDE_END (R271). -/
  | glideEnd (x : Rid)
deriving DecidableEq, Repr

end Sys2Proof
end

