-- ==== Sys2Proof/Decode.lean ====
section
/-!
DEFINITION. The command that a word spells.  No row of spec/opcode_table.json carries bits, so no word spells one.
-/
namespace Sys2Proof

/-- The command that nbits bits of a word spell, numbered as the opcode table numbers them: none, as its rows give no bits. -/
def decodeTableWord (_nbits _w : Nat) : Option Instr := none

end Sys2Proof
end

