-- ==== Sys2Proof/Machine/Bits.lean ====
section
/-!
DEFINITION. Bit fields, byte order and sparse maps: the helpers every meaning uses (R9, R43).
-/
namespace Sys2Proof.Machine

open Sys2Proof

/-- Bits [hi:lo] of a word as a number (R9). -/
def bits {w : Nat} (x : BitVec w) (hi lo : Nat) : Nat :=
  (x.toNat >>> lo) % 2 ^ (hi + 1 - lo)

/-- Bit i of a word. -/
def bit {w : Nat} (x : BitVec w) (i : Nat) : Bool := x.getLsbD i

/-- The word with bits [hi:lo] replaced by v; v is taken modulo the field's width. -/
def setBits {w : Nat} (x : BitVec w) (hi lo v : Nat) : BitVec w :=
  let m : BitVec w := BitVec.ofNat w ((2 ^ (hi + 1 - lo) - 1) <<< lo)
  (x &&& ~~~ m) ||| (BitVec.ofNat w (v <<< lo) &&& m)

/-- A number for a truth value. -/
def b2n (b : Bool) : Nat := if b then 1 else 0

/-- The number whose w-bit two's complement is n. -/
def signed (w n : Nat) : Int := (BitVec.ofNat w n).toInt

/-- Bytes to a number, least significant byte first (R9). -/
def ofBytes : List Byte → Nat
  | [] => 0
  | b :: bs => b.toNat + 256 * ofBytes bs

/-- The n low bytes of a number, least significant byte first (R9). -/
def toBytes : Nat → Nat → List Byte
  | 0, _ => []
  | n + 1, v => BitVec.ofNat 8 v :: toBytes n (v / 256)

/-- The values f 0, f 1, up to f (n - 1). -/
def tab {α : Type} (n : Nat) (f : Nat → α) : List α := (List.range n).map f

/-- Cuts a list into pieces of k; the last may be shorter. The fuel is the list's length. -/
def chunksAux {α : Type} (k : Nat) : Nat → List α → List (List α)
  | 0, _ => []
  | _, [] => []
  | n + 1, l => l.take k :: chunksAux k n (l.drop k)

/-- Cuts a list into pieces of k. -/
def chunks {α : Type} (k : Nat) (l : List α) : List (List α) := chunksAux k l.length l

/-- The smallest number whose product with b reaches a. -/
def ceilDiv (a b : Nat) : Nat := (a + b - 1) / b

/-- The word of a number. -/
def w32 (n : Nat) : W32 := BitVec.ofNat 32 n

/-- The word of a number. -/
def w64 (n : Nat) : W64 := BitVec.ofNat 64 n

/-! Sparse maps. -/

/-- What the map holds at k; dflt k where nothing is listed. -/
def sget {α : Type} (dflt : Nat → α) : SMap α → Nat → α
  | [], k => dflt k
  | (k', v) :: m, k => if k = k' then v else sget dflt m k

/-- The map with k removed, so that k reads as its default. -/
def sdel {α : Type} : SMap α → Nat → SMap α
  | [], _ => []
  | (k', v) :: m, k => if k = k' then sdel m k else (k', v) :: sdel m k

/-- The map with the entry (k, v) put in its place. -/
def sins {α : Type} : SMap α → Nat → α → SMap α
  | [], k, v => [(k, v)]
  | (k', v') :: m, k, v =>
    if k < k' then (k, v) :: (k', v') :: m
    else if k = k' then (k, v) :: m
    else (k', v') :: sins m k v

/-- The map after v is written at k: a value equal to the default removes the entry. -/
def sset {α : Type} [DecidableEq α] (dflt : Nat → α) (m : SMap α) (k : Nat) (v : α) : SMap α :=
  if v = dflt k then sdel m k else sins m k v

/-- The map after f is applied at k. -/
def supd {α : Type} [DecidableEq α] (dflt : Nat → α) (m : SMap α) (k : Nat) (f : α → α) : SMap α :=
  sset dflt m k (f (sget dflt m k))

/-- The keys rise strictly and none is below lo. -/
def srising {α : Type} : Nat → SMap α → Bool
  | _, [] => true
  | lo, (k, _) :: m => decide (lo ≤ k) && srising (k + 1) m

/-- The canonical form: keys rise strictly, and no entry holds its key's default. -/
def swf {α : Type} [DecidableEq α] (dflt : Nat → α) (m : SMap α) : Bool :=
  srising 0 m && m.all (fun e => decide (e.2 ≠ dflt e.1))

/-- Writes consecutive values from key k upward. -/
def ssetList {α : Type} [DecidableEq α] (dflt : Nat → α) (m : SMap α) : Nat → List α → SMap α
  | _, [] => m
  | k, v :: vs => ssetList dflt (sset dflt m k v) (k + 1) vs

end Sys2Proof.Machine
end

