-- ==== Sys2Proof/Machine/Formats.lean ====
section
/-!
DEFINITION. The number formats of the panel: element and scale encodings (R30, R34 to R41), exact values, the choice of
block scales (R50), rounding (R52), saturation (R53) and the stochastic-rounding generator (R55).
-/
namespace Sys2Proof.Machine

open Sys2Proof

/-! Exact values. A value is a ratio n / d with d above 0; nothing is reduced, and comparisons multiply out. -/

/-- An exact rational value n / d, with d kept above 0 by every operation below. -/
structure Q where
  n : Int
  d : Nat
deriving DecidableEq, Repr

/-- Zero. -/
def Q.zero : Q := ⟨0, 1⟩
/-- An integer. -/
def Q.int (i : Int) : Q := ⟨i, 1⟩
/-- m · 2^e. -/
def Q.dy (m e : Int) : Q :=
  if 0 ≤ e then ⟨m * (2 ^ e.toNat : Nat), 1⟩ else ⟨m, 2 ^ (-e).toNat⟩
/-- Sum. -/
def Q.add (a b : Q) : Q :=
  if a.d = b.d then ⟨a.n + b.n, a.d⟩ else ⟨a.n * b.d + b.n * a.d, a.d * b.d⟩
/-- Negation. -/
def Q.neg (a : Q) : Q := ⟨-a.n, a.d⟩
/-- Difference. -/
def Q.sub (a b : Q) : Q := a.add b.neg
/-- Product. -/
def Q.mul (a b : Q) : Q := ⟨a.n * b.n, a.d * b.d⟩
/-- Quotient; 0 for a zero divisor, which no meaning asks for. -/
def Q.div (a b : Q) : Q :=
  if b.n = 0 then Q.zero
  else if 0 < b.n then ⟨a.n * b.d, a.d * b.n.toNat⟩ else ⟨-(a.n * b.d), a.d * (-b.n).toNat⟩
/-- Magnitude. -/
def Q.abs (a : Q) : Q := ⟨a.n.natAbs, a.d⟩
/-- a < b. -/
def Q.lt (a b : Q) : Bool := decide (a.n * b.d < b.n * a.d)
/-- a ≤ b. -/
def Q.le (a b : Q) : Bool := decide (a.n * b.d ≤ b.n * a.d)
/-- a = b as values. -/
def Q.eq (a b : Q) : Bool := decide (a.n * b.d = b.n * a.d)
/-- The greatest integer not above a. -/
def Q.floor (a : Q) : Int := a.n / (a.d : Int)
/-- The least integer not below a. -/
def Q.ceil (a : Q) : Int := -((-a.n) / (a.d : Int))
/-- The greater of two values. -/
def Q.max (a b : Q) : Q := if a.lt b then b else a
/-- The sum of a list. -/
def Q.sum (l : List Q) : Q := l.foldl Q.add Q.zero

/-- floor(log2 x) of a value above 0 (0 for other values). -/
def Q.log2 (x : Q) : Int :=
  if x.n ≤ 0 then 0
  else
    let e : Int := (Nat.log2 x.n.toNat : Int) - (Nat.log2 x.d : Int)
    if x.lt (Q.dy 1 e) then e - 1 else e

/-- ceil(log2 x) of a value above 0 (0 for other values). -/
def Q.clog2 (x : Q) : Int :=
  if (Q.dy 1 x.log2).lt x then x.log2 + 1 else x.log2

/-- The integer nearest to a value, ties to even (R52). -/
def Q.rne (a : Q) : Int :=
  let f := a.floor
  let r := a.sub (Q.int f)
  let half : Q := ⟨1, 2⟩
  if r.lt half then f else if half.lt r then f + 1 else if f % 2 = 0 then f else f + 1

/-! Element encodings. -/

/-- The element encodings of Tables 2.1 and 2.4. -/
inductive Elem where
  | e2m1 | int4 | t2 | e4m3 | e5m2 | int8 | fp16 | bf16 | fp32
deriving DecidableEq, Repr

/-- The scale types of Table 2.5. -/
inductive ScaleTy where
  | none | e8m0 | ue4m4 | bf16 | fp16
deriving DecidableEq, Repr

/-- Bits an element is stored in. -/
def Elem.width : Elem → Nat
  | .e2m1 => 4 | .int4 => 4 | .t2 => 2 | .e4m3 => 8 | .e5m2 => 8 | .int8 => 8 | .fp16 => 16 | .bf16 => 16 | .fp32 => 32

/-- Exponent bits and mantissa bits of a floating encoding (Tables 2.3 and 2.4); none for the integer encodings. -/
def Elem.float? : Elem → Option (Nat × Nat)
  | .e2m1 => some (2, 1) | .e4m3 => some (4, 3) | .e5m2 => some (5, 2) | .fp16 => some (5, 10)
  | .bf16 => some (8, 7) | .fp32 => some (8, 23) | _ => none

/-- The bias of a floating encoding, 2^(eb−1) − 1 in every one of them (R34, R37). -/
def floatBias (eb : Nat) : Nat := 2 ^ (eb - 1) - 1

/-- How an element read as an operand reads (R39): its value, and whether the reading counts in RANGE_ALARM. -/
structure Rd where
  v : Q
  alarm : Bool
deriving DecidableEq, Repr

/-- A finite floating code's exact value: sign, exponent field e and mantissa m. -/
def floatVal (mb bias : Nat) (neg : Bool) (e m : Nat) : Q :=
  let mag : Int := if e = 0 then (m : Int) else ((2 ^ mb + m : Nat) : Int)
  let ex : Int := (if e = 0 then 1 else (e : Int)) - (bias : Int) - (mb : Int)
  Q.dy (if neg then -mag else mag) ex

/-- The largest finite code's magnitude bits of a floating encoding (Table 2.4). -/
def Elem.maxCode : Elem → Nat
  | .e2m1 => 7 | .e4m3 => 0x7E | .e5m2 => 0x7B | .fp16 => 0x7BFF | .bf16 => 0x7F7F | .fp32 => 0x7F7FFFFF
  | .int4 => 7 | .int8 => 0x7F | .t2 => 1

/-- Whether a floating code is a NaN (Table 2.4); E2M1 has none. -/
def Elem.isNaN (k : Elem) (c : Nat) : Bool :=
  match k with
  | .e4m3 => c % 0x80 == 0x7F
  | .e5m2 => decide (c % 0x80 > 0x7C)
  | .fp16 => decide (c % 0x8000 > 0x7C00)
  | .bf16 => decide (c % 0x8000 > 0x7F80)
  | .fp32 => decide (c % 0x80000000 > 0x7F800000)
  | _ => false

/-- Whether a floating code is an infinity (Table 2.4); E2M1 and E4M3 have none. -/
def Elem.isInf (k : Elem) (c : Nat) : Bool :=
  match k with
  | .e5m2 => c % 0x80 == 0x7C
  | .fp16 => c % 0x8000 == 0x7C00
  | .bf16 => c % 0x8000 == 0x7F80
  | .fp32 => c % 0x80000000 == 0x7F800000
  | _ => false

/-- Reads a code as a grid operand or Planer input: R34 to R39.  A T2 code 0b10 reads as 0; its count is kept apart
(isT2Illegal). -/
def Elem.read (k : Elem) (code : Nat) : Rd :=
  let c := code % 2 ^ k.width
  match k with
  | .int4 => ⟨Q.int (signed 4 c), false⟩
  | .int8 => ⟨Q.dy (signed 8 c) (-6), false⟩
  | .t2 => ⟨Q.int (if c = 1 then 1 else if c = 3 then -1 else 0), false⟩
  | _ =>
    match k.float? with
    | none => ⟨Q.zero, false⟩
    | some (eb, mb) =>
      let neg := decide (c / 2 ^ (eb + mb) = 1)
      let mag := c % 2 ^ (eb + mb)
      if k.isNaN c then ⟨Q.zero, true⟩
      else if k.isInf c then
        ⟨floatVal mb (floatBias eb) neg (k.maxCode / 2 ^ mb) (k.maxCode % 2 ^ mb), true⟩
      else ⟨floatVal mb (floatBias eb) neg (mag / 2 ^ mb) (mag % 2 ^ mb), false⟩

/-- An illegal ternary code (R36). -/
def isT2Illegal (code : Nat) : Bool := code % 4 == 2

/-- A scale as read: its value, or zero scale with whether it was an encoding of Table 2.5's last column (R40, R41). -/
structure ScaleRd where
  v : Q
  zero : Bool
  alarm : Bool
deriving DecidableEq, Repr

/-- Reads a scale byte or half-word (Table 2.5). -/
def ScaleTy.read (s : ScaleTy) (code : Nat) : ScaleRd :=
  match s with
  | .none => ⟨Q.int 1, false, false⟩
  | .e8m0 =>
    let e := code % 256
    if e = 255 then ⟨Q.zero, true, true⟩ else ⟨Q.dy 1 ((e : Int) - 127), false, false⟩
  | .ue4m4 =>
    let c := code % 256
    if c = 255 then ⟨Q.zero, true, true⟩
    else
      let e := c / 16
      let m := c % 16
      let v := if e = 0 then Q.dy m (-10) else Q.dy ((16 + m : Nat) : Int) ((e : Int) - 11)
      ⟨v, decide (c = 0), false⟩
  | .bf16 =>
    let c := code % 65536
    if Elem.isNaN .bf16 c || Elem.isInf .bf16 c then ⟨Q.zero, true, true⟩
    else let v := (Elem.read .bf16 c).v; ⟨v, decide (v.n = 0), false⟩
  | .fp16 =>
    let c := code % 65536
    if Elem.isNaN .fp16 c || Elem.isInf .fp16 c then ⟨Q.zero, true, true⟩
    else let v := (Elem.read .fp16 c).v; ⟨v, decide (v.n = 0), false⟩

/-- Bytes of one scale (R44). -/
def ScaleTy.bytes : ScaleTy → Nat
  | .none => 0 | .e8m0 => 1 | .ue4m4 => 1 | .bf16 => 2 | .fp16 => 2

/-! The format descriptor FMTD (R31). -/

/-- A format descriptor's fields. -/
structure Fmtd where
  rnd : Bool
  gsz : Nat
  sparse : Bool
  fmt : Nat
  rsv : Bool
deriving DecidableEq, Repr

/-- The fields of a 16-bit format descriptor (Table 2.2). -/
def Fmtd.of (x : BitVec 16) : Fmtd :=
  ⟨bit x 10, bits x 9 8, bit x 7, bits x 3 0, decide (bits x 15 11 ≠ 0 ∨ bits x 6 4 ≠ 0)⟩

/-- The roles a format may take (Table 2.1). -/
inductive Role where
  | w | a | o
deriving DecidableEq, Repr

/-- The element encoding of a format code (Table 2.1). -/
def fmtElem : Nat → Elem
  | 0x0 => .e2m1 | 0x1 => .int4 | 0x2 => .e2m1 | 0x3 => .e2m1 | 0x4 => .int4 | 0x5 => .t2 | 0x6 => .e4m3 | 0x7 => .e5m2
  | 0x8 => .e4m3 | 0x9 => .e5m2 | 0xA => .int8 | 0xB => .bf16 | _ => .fp32

/-- The block scale of a format code (Table 2.1). -/
def fmtScale : Nat → ScaleTy
  | 0x2 => .e8m0 | 0x3 => .ue4m4 | 0x4 => .bf16 | 0x5 => .fp16 | 0x8 => .e8m0 | 0x9 => .e8m0 | 0xA => .e8m0 | _ => .none

/-- The elements of one block (Table 2.1); 128 for an unscaled format, where it is not used. -/
def Fmtd.block (f : Fmtd) : Nat :=
  match f.fmt with
  | 0x3 => 16
  | 0x4 => match f.gsz with | 0 => 32 | 1 => 64 | _ => 128
  | 0x5 => 128
  | 0x2 | 0x8 | 0x9 | 0xA => 32
  | _ => 128

/-- Whether Table 2.1 gives the format code the role. -/
def fmtRole : Nat → Role → Bool
  | 0x4, .a => false
  | 0x5, .w => true
  | 0x5, _ => false
  | 0xC, .o => true
  | 0xC, _ => false
  | c, _ => decide (c ≤ 0xB)

/-- A legal descriptor in a role (R32). -/
def Fmtd.legal (f : Fmtd) (r : Role) : Bool :=
  decide (f.fmt ≤ 0xC) && fmtRole f.fmt r && !f.rsv &&
    (if f.fmt = 4 then decide (f.gsz ≠ 3) else decide (f.gsz = 0)) &&
    (!f.sparse || (decide (f.fmt ≤ 4) && decide (r = .w)))

/-- A 4-bit dense or sparse format (Table 3.3). -/
def Fmtd.four (f : Fmtd) : Bool := decide (f.fmt ≤ 4)
/-- An 8-bit format (Table 3.3). -/
def Fmtd.eight (f : Fmtd) : Bool := decide (6 ≤ f.fmt ∧ f.fmt ≤ 0xA)
/-- A doubled-mode weight format: T2 or 2:4-sparse 4-bit (R62). -/
def Fmtd.doubled (f : Fmtd) : Bool := f.sparse || decide (f.fmt = 5)
/-- A scaled activation format (R518). -/
def Fmtd.scaled (f : Fmtd) : Bool := decide (fmtScale f.fmt ≠ .none)

/-! Rounding into an element encoding. -/

/-- The rounding mode of a conversion: nearest even, or stochastic with the 12-bit number u (R52). -/
inductive Rnd where
  | rne
  | stoch (u : Nat)
deriving DecidableEq, Repr

/-- Rounds a magnitude counted in spacings to a whole number of spacings (R52). -/
def roundUnits (r : Rnd) (q : Q) : Nat :=
  match r with
  | .rne => q.rne.toNat
  | .stoch u =>
    let n := q.floor
    let f12 := ((q.sub (Q.int n)).mul (Q.int 4096)).floor
    if f12 + (u : Int) ≥ 4096 then (n + 1).toNat else n.toNat

/-- An element written by a conversion: its code, and whether it was written at an end of the range (R53). -/
structure Wr where
  code : Nat
  sat : Bool
deriving DecidableEq, Repr

/-- Rounds a value into a floating encoding (R52, R53): codes of one sign rise with magnitude, so the code is
(binade − lowest binade) · 2^mb plus the rounded number of spacings. -/
def roundFloat (k : Elem) (eb mb : Nat) (r : Rnd) (x : Q) : Wr :=
  let sgn := if x.n < 0 then 2 ^ (eb + mb) else 0
  let mag := x.abs
  let top := floatVal mb (floatBias eb) false (k.maxCode / 2 ^ mb) (k.maxCode % 2 ^ mb)
  if top.lt mag then ⟨sgn + k.maxCode, true⟩
  else if x.n = 0 then ⟨0, false⟩
  else
    let emin : Int := 1 - (floatBias eb : Int)
    let e := if mag.log2 < emin then emin else mag.log2
    let n := roundUnits r (mag.div (Q.dy 1 (e - mb)))
    let c := (e - emin).toNat * 2 ^ mb + n
    if c = 0 then ⟨0, false⟩ else ⟨sgn + c, false⟩

/-- Rounds a value into a two's-complement encoding of w bits with the given spacing exponent and end values (R53). -/
def roundInt (w : Nat) (sp lo hi : Int) (r : Rnd) (x : Q) : Wr :=
  let q := x.div (Q.dy 1 sp)
  if q.lt (Q.int lo) then ⟨(BitVec.ofInt w lo).toNat, true⟩
  else if (Q.int hi).lt q then ⟨(BitVec.ofInt w hi).toNat, true⟩
  else
    let n := roundUnits r q.abs
    let v : Int := if q.n < 0 then -(n : Int) else n
    ⟨(BitVec.ofInt w v).toNat, false⟩

/-- Rounds a value, already divided by its scales, into the elements of a format code (R52, R53). -/
def roundElem (fmt : Nat) (r : Rnd) (x : Q) : Wr :=
  match fmt with
  | 0x1 => roundInt 4 0 (-8) 7 r x
  | 0x4 => roundInt 4 0 (-7) 7 r x
  | 0xA => roundInt 8 (-6) (-127) 127 r x
  | _ =>
    match (fmtElem fmt).float? with
    | some (eb, mb) => roundFloat (fmtElem fmt) eb mb r x
    | none => ⟨0, false⟩

/-- Rounds an exact value to FP32, nearest even, without infinities (R154): beyond the range it is the largest
finite value, flagged; below it rounds to zero in the subnormals as R37 reads them. -/
def toFp32 (x : Q) : W32 × Bool :=
  let w := roundFloat .fp32 8 23 .rne x
  (w32 w.code, w.sat)

/-- The exact value of an FP32 word read as an operand (R39). -/
def fp32Rd (x : W32) : Rd := Elem.read .fp32 x.toNat

/-- The exact value of an FP32 word. -/
def fp32Val (x : W32) : Q := (fp32Rd x).v

/-! Block scales (Table 2.6). -/

/-- A power-of-two scale 2^X with X = ceil(log2(amax ÷ top)), limited to −127..127, as an E8M0 byte (Table 2.6). -/
def mxScale (top amax : Q) : Nat :=
  if amax.n = 0 then 0
  else
    let x := (amax.div top).clog2
    let x := if x < -127 then -127 else if x > 127 then 127 else x
    (x + 127).toNat

/-- The largest element magnitude a power-of-two scale is chosen from (Table 2.6). -/
def mxTop : Nat → Q
  | 0x2 => Q.int 6 | 0x8 => Q.int 448 | 0x9 => Q.int 57344 | _ => Q.dy 127 (-6)

/-- A value rounded up to the next UE4M4 code, at most 0xFE (Table 2.6). -/
def ue4m4Up (x : Q) : Nat :=
  if x.n ≤ 0 then 0
  else
    let e := if x.log2 < -6 then (-6 : Int) else x.log2
    let n := (x.div (Q.dy 1 (e - 4))).ceil
    let c := (e + 6).toNat * 16 + n.toNat
    if c > 0xFE then 0xFE else c

/-- A value rounded up to the next BF16 code, at most 0x7F7F (Table 2.6). -/
def bf16Up (x : Q) : Nat :=
  if x.n ≤ 0 then 0
  else
    let e := if x.log2 < -126 then (-126 : Int) else x.log2
    let n := (x.div (Q.dy 1 (e - 7))).ceil
    let c := (e + 126).toNat * 128 + n.toNat
    if c > 0x7F7F then 0x7F7F else c

/-- The block scale chosen for a block whose largest magnitude is amax; ts is the tensor scale of an HN4 target (R50,
R51). -/
def chooseScale (fmt : Nat) (ts : Q) (amax : Q) : Nat :=
  match fmt with
  | 0x3 => if amax.n = 0 then 0 else ue4m4Up (amax.div ((Q.int 6).mul ts))
  | 0x4 => if amax.n = 0 then 0 else bf16Up (amax.div (Q.int 7))
  | 0x2 | 0x8 | 0x9 | 0xA => mxScale (mxTop fmt) amax
  | _ => 0

/-! The stochastic-rounding generator (R55). -/

/-- One step of the generator: the output bit and the next state. -/
def lfsrStep (g : W64) : Bool × W64 :=
  let fb := ((bit g 63 ^^ bit g 62) ^^ bit g 60) ^^ bit g 59
  (bit g 63, (g <<< 1) ||| BitVec.ofNat 64 (b2n fb))

/-- n output bits, the first as the most significant, and the state after them. -/
def lfsrBits : Nat → W64 → Nat × W64
  | 0, g => (0, g)
  | n + 1, g =>
    let (b, g') := lfsrStep g
    let (v, g'') := lfsrBits n g'
    (b2n b * 2 ^ n + v, g'')

/-- The state a written seed loads: 0 loads 1 (R55). -/
def lfsrSeed (seed : W64) : W64 := if seed = 0 then 1 else seed

/-- One conversion in progress: the generator, the elements written so far and the alarms counted. -/
structure Conv where
  g : W64
  alarms : Nat
deriving DecidableEq, Repr

/-- The rounding of the next element, advancing the generator by 12 bits when the target rounds stochastically. -/
def Conv.next (stoch : Bool) (c : Conv) : Rnd × Conv :=
  if stoch then let (u, g) := lfsrBits 12 c.g; (.stoch u, { c with g := g }) else (.rne, c)

/-- Converts one element divided by its scale; a zero scale writes zero. -/
def convElem (fmt : Nat) (stoch : Bool) (scale : Q) (x : Q) (c : Conv) : Wr × Conv :=
  let (r, c) := c.next stoch
  if scale.n = 0 then (⟨0, false⟩, c)
  else
    let w := roundElem fmt r (x.div scale)
    (w, { c with alarms := c.alarms + b2n w.sat })

/-- Converts a block of elements under one scale, in order. -/
def convElems (fmt : Nat) (stoch : Bool) (scale : Q) : List Q → Conv → List Wr × Conv
  | [], c => ([], c)
  | x :: xs, c =>
    let (w, c) := convElem fmt stoch scale x c
    let (ws, c) := convElems fmt stoch scale xs c
    (w :: ws, c)

/-- The largest magnitude of a list. -/
def amaxOf (l : List Q) : Q := l.foldl (fun m x => Q.max m x.abs) Q.zero

/-- A converted row: element results, block-scale codes, and the generator and alarm count after it. -/
structure Converted where
  els : List Wr
  scales : List Nat
  c : Conv
deriving DecidableEq, Repr

/-- Converts blocks one after the other; `skip` marks the elements left out of amax and written as zero (R49, R76).
A tensor scale that reads as zero writes zero scales and counts one alarm a block (R51). -/
def convBlocks (f : Fmtd) (ts : ScaleRd) : List (List (Bool × Q)) → Conv → List Wr × List Nat × Conv
  | [], c => ([], [], c)
  | blk :: rest, c =>
    let xs := blk.map (fun e => if e.1 then Q.zero else e.2)
    let tz := decide (f.fmt = 3) && ts.zero
    let code := if tz then 0 else chooseScale f.fmt ts.v (amaxOf xs)
    let s := ((fmtScale f.fmt).read code).v
    let s := if f.fmt = 3 then (if tz then Q.zero else s.mul ts.v) else s
    let c := if tz then { c with alarms := c.alarms + 1 } else c
    let (ws, c) := convElems f.fmt f.rnd s xs c
    let (ws', cs, c) := convBlocks f ts rest c
    (ws ++ ws', code :: cs, c)

/-- The conversion of a row to a target format (R50 to R53). -/
def convert (f : Fmtd) (ts : ScaleRd) (row : List (Bool × Q)) (c : Conv) : Converted :=
  if f.scaled then
    let (ws, cs, c) := convBlocks f ts (chunks f.block row) c
    ⟨ws, cs, c⟩
  else
    let (ws, c) := convElems f.fmt f.rnd (Q.int 1) (row.map (fun e => if e.1 then Q.zero else e.2)) c
    ⟨ws, [], c⟩

/-- The values that a converted row reads as: element times block scale and tensor scale (R40). -/
def Converted.vals (f : Fmtd) (ts : ScaleRd) (r : Converted) : List Q :=
  (List.range r.els.length).map (fun i =>
    let e := ((fmtElem f.fmt).read (r.els.getD i ⟨0, false⟩).code).v
    if f.scaled then
      let s := (fmtScale f.fmt).read (r.scales.getD (i / f.block) 0)
      let v := if s.zero then Q.zero else e.mul s.v
      if f.fmt = 3 then v.mul ts.v else v
    else e)

/-- The least representation of a value. -/
def Q.norm (a : Q) : Q :=
  let g := Nat.gcd a.n.natAbs a.d
  if g = 0 then a else ⟨a.n / (g : Int), a.d / g⟩

/-! Packing (R43). -/

/-- The number that packs codes of w bits from the least significant bits upward. -/
def packCodes (w : Nat) : List Nat → Nat
  | [] => 0
  | c :: cs => c % 2 ^ w + 2 ^ w * packCodes w cs

/-- Code i of w bits in a packed number. -/
def codeAt (w : Nat) (packed i : Nat) : Nat := (packed >>> (w * i)) % 2 ^ w

/-- A number of n 64-bit words, the lowest first. -/
def toWords : Nat → Nat → List W64
  | 0, _ => []
  | n + 1, v => w64 v :: toWords n (v / 2 ^ 64)

/-- The number of a list of 64-bit words, the lowest first. -/
def ofWords : List W64 → Nat
  | [] => 0
  | x :: xs => x.toNat + 2 ^ 64 * ofWords xs

end Sys2Proof.Machine
end

