-- ==== Sys2Proof/Config.lean ====
section
/-!
DEFINITION. What the spec leaves open: free values and the primitives it names without an algorithm.  Each is an opaque
constant, so nothing can be proved about its value.
-/
namespace Sys2Proof.Config

open Sys2Proof Sys2Proof.Machine

/-- The result a Planer function produces within its error bound, by function code (Table 6.3, and codes 16 onward for the
statistics of R164), for its reduced operands. -/
opaque planerFn (func : Nat) (x y : Q) : W32

/-- A free word: the n-th free value taken (R82 and the points the log names). -/
opaque freeWord (n : Nat) : W64

/-- A free number below a bound m above 0. -/
def freeBelow (m n : Nat) : Nat := (freeWord n).toNat % m

/-- Byte i of PK.root, which SLH-DSA-SHA2-192s key generation computes from its 72 bytes of seed material (R467, FIPS 205). -/
opaque slhRoot (seed : List Byte) (i : Nat) : Byte

/-- The 48-byte public key of that seed material: PK.seed, its last 24 bytes, and PK.root (R467, FIPS 205). -/
def slhPublic (seed : List Byte) : List Byte := (seed.drop 48).take 24 ++ (List.range 24).map (slhRoot seed)

/-- Byte i of an SLH-DSA-SHA2-192s signature of a message by the key of a seed (R467, FIPS 205). -/
opaque slhSigByte (seed msg : List Byte) (i : Nat) : Byte

/-- That signature: 16,224 bytes (R467). -/
def slhSign (seed msg : List Byte) : List Byte := (List.range 16224).map (slhSigByte seed msg)

/-- Whether a signature of a message verifies under a public key (R471, FIPS 205). -/
opaque slhVerify (key msg sig : List Byte) : Bool

/-- The DER encoding of the certificate of an alias public key with measurements 0 and 1, issued and signed by the DeviceID key of a
seed (R467, R468). -/
opaque aliasDer (seed subject m0 m1 : List Byte) : List Byte

/-- That certificate.  DESIGN CHOICE (log entry 12), safe: it is at most 32 KiB long, as R466 lets the DeviceID certificate be. -/
def aliasCert (seed subject m0 m1 : List Byte) : List Byte := (aliasDer seed subject m0 m1).take 32768

/-- The contents of the keepers' mask ROM (R473). -/
opaque maskRom : List Byte

/-- The identifier of SLH-DSA-SHA2-192s as an SPDM extended asymmetric algorithm, which R477 offers and does not number. -/
opaque slhAlg : W32

end Sys2Proof.Config
end

