-- ==== Sys2Proof/Machine/Ecc.lean ====
section
/-!
DEFINITION. The two symbol codes: SSC4-76 of scratchpad words and flits (R128, R129) and SSC4-528 of wide rows (R177 to
R179), over GF(16).
-/
namespace Sys2Proof.Machine

open Sys2Proof

/-- Multiplication by α in GF(16), a root of x^4 + x + 1 (R129). -/
def gfDbl (a : BitVec 4) : BitVec 4 := (a <<< 1) ^^^ (if a.getLsbD 3 then 3 else 0)

/-- Product in GF(16). -/
def gfMul (a b : BitVec 4) : BitVec 4 :=
  let a1 := gfDbl a
  let a2 := gfDbl a1
  let a3 := gfDbl a2
  (if b.getLsbD 0 then a else 0) ^^^ (if b.getLsbD 1 then a1 else 0) ^^^
    (if b.getLsbD 2 then a2 else 0) ^^^ (if b.getLsbD 3 then a3 else 0)

/-- α^n. -/
def gfPow : Nat → BitVec 4
  | 0 => 1
  | n + 1 => gfDbl (gfPow n)

/-- The inverse of a non-zero symbol, a^14; 0 for 0. -/
def gfInv (a : BitVec 4) : BitVec 4 :=
  let a2 := gfMul a a
  let a4 := gfMul a2 a2
  let a8 := gfMul a4 a4
  gfMul a8 (gfMul a4 a2)

/-- Symbol i of a word. -/
def sym {w : Nat} (x : BitVec w) (i : Nat) : BitVec 4 := x.extractLsb' (4 * i) 4

/-- The word with e added to symbol i. -/
def symXor {w : Nat} (x : BitVec w) (i : Nat) (e : BitVec 4) : BitVec w :=
  x ^^^ ((BitVec.zeroExtend w e) <<< (4 * i))

/-- What a decoder reports. -/
inductive EccOut where
  | clean
  | corrected
  | uncorrectable
deriving DecidableEq, Repr

/-! SSC4-76. -/

/-- The column of codeword symbol i: data symbols 0 to 15, check symbols 16 to 18 (R129). -/
def ssc76Col (i : Nat) : BitVec 4 × BitVec 4 × BitVec 4 :=
  if i < 15 then (1, gfPow i, gfPow (2 * i))
  else if i = 15 then (0, 1, 1)
  else if i = 16 then (1, 0, 0) else if i = 17 then (0, 1, 0) else (0, 0, 1)

/-- The sum over the symbols named by a list of symbol times its coefficient. -/
def symSum {w : Nat} (x : BitVec w) (f : Nat → BitVec 4) (l : List Nat) : BitVec 4 :=
  l.foldl (fun acc i => acc ^^^ gfMul (sym x i) (f i)) 0

/-- The three check symbols of a data word, as bits [75:64] (R129). -/
def ssc76Checks (d : W64) : BitVec 12 :=
  let c0 := symSum d (fun i => (ssc76Col i).1) (List.range 16)
  let c1 := symSum d (fun i => (ssc76Col i).2.1) (List.range 16)
  let c2 := symSum d (fun i => (ssc76Col i).2.2) (List.range 16)
  c2 ++ c1 ++ c0

/-- The codeword of a data word (R128). -/
def ssc76Enc (d : W64) : W76 := ssc76Checks d ++ d

/-- The data bits of a codeword as stored. -/
def ssc76Data (x : W76) : W64 := x.truncate 64

/-- The syndrome of a codeword (R129). -/
def ssc76Syn (x : W76) : BitVec 4 × BitVec 4 × BitVec 4 :=
  (symSum x (fun i => (ssc76Col i).1) (List.range 19),
   symSum x (fun i => (ssc76Col i).2.1) (List.range 19),
   symSum x (fun i => (ssc76Col i).2.2) (List.range 19))

/-- The symbol in error for a syndrome and its error value: the position whose column fits (R129). -/
def ssc76Find (s : BitVec 4 × BitVec 4 × BitVec 4) : Option (Nat × BitVec 4) :=
  (List.range 19).findSome? (fun i =>
    let h := ssc76Col i
    let e := if h.1 ≠ 0 then s.1 else if h.2.1 ≠ 0 then s.2.1 else s.2.2
    if e ≠ 0 ∧ s = (gfMul e h.1, gfMul e h.2.1, gfMul e h.2.2) then some (i, e) else none)

/-- Decodes a codeword: the corrected codeword and the outcome (R129). -/
def ssc76Dec (x : W76) : W76 × EccOut :=
  let s := ssc76Syn x
  if s = (0, 0, 0) then (x, .clean)
  else match ssc76Find s with
    | some (i, e) => (symXor x i e, .corrected)
    | none => (x, .uncorrectable)

/-! SSC4-528. -/

/-- N(u, v) = u² + u·v + α³·v² (R178). -/
def quadN (u v : BitVec 4) : BitVec 4 := gfMul u u ^^^ gfMul u v ^^^ gfMul 8 (gfMul v v)

/-- The (u, v) of data symbol i (Table 7.4). -/
def ssc528UV (i : Nat) : BitVec 4 × BitVec 4 := (BitVec.ofNat 4 (i % 16), BitVec.ofNat 4 (i / 16 + 2))

/-- T = Σ d_i·h_i over the data columns (R178). -/
def ssc528T (x : BitVec 528) : BitVec 4 × BitVec 4 × BitVec 4 × BitVec 4 :=
  (symSum x (fun _ => 1) (List.range 128),
   symSum x (fun i => (ssc528UV i).1) (List.range 128),
   symSum x (fun i => (ssc528UV i).2) (List.range 128),
   symSum x (fun i => quadN (ssc528UV i).1 (ssc528UV i).2) (List.range 128))

/-- The coded wide row of 64 B of data (R177, R178). -/
def ssc528Enc (d : BitVec 512) : BitVec 528 :=
  let x : BitVec 528 := BitVec.zeroExtend 528 d
  let t := ssc528T x
  let c0 := t.1 ^^^ t.2.1 ^^^ t.2.2.1
  let c3 := t.2.2.2 ^^^ t.2.1 ^^^ gfMul 8 t.2.2.1
  (c3 ++ t.2.2.1 ++ t.2.1 ++ c0) ++ d

/-- The data of a coded wide row as stored. -/
def ssc528Data (x : BitVec 528) : BitVec 512 := x.truncate 512

/-- The syndrome over all 132 symbols (R179). -/
def ssc528Syn (x : BitVec 528) : BitVec 4 × BitVec 4 × BitVec 4 × BitVec 4 :=
  let t := ssc528T x
  let c0 := sym x 128
  let c1 := sym x 129
  let c2 := sym x 130
  let c3 := sym x 131
  (t.1 ^^^ c0 ^^^ c1 ^^^ c2, t.2.1 ^^^ c1, t.2.2.1 ^^^ c2, t.2.2.2 ^^^ c1 ^^^ gfMul 8 c2 ^^^ c3)

/-- Decodes a coded wide row (R179). -/
def ssc528Dec (x : BitVec 528) : BitVec 528 × EccOut :=
  let (s0, s1, s2, s3) := ssc528Syn x
  if s0 = 0 then
    if s1 = 0 ∧ s2 = 0 then
      if s3 = 0 then (x, .clean) else (symXor x 131 s3, .corrected)
    else (x, .uncorrectable)
  else
    let u := gfMul s1 (gfInv s0)
    let v := gfMul s2 (gfInv s0)
    if s3 ≠ gfMul s0 (quadN u v) then (x, .uncorrectable)
    else if u = 0 ∧ v = 0 then (symXor x 128 s0, .corrected)
    else if u = 1 ∧ v = 0 then (symXor x 129 s0, .corrected)
    else if u = 0 ∧ v = 1 then (symXor x 130 s0, .corrected)
    else if 2 ≤ v.toNat ∧ v.toNat ≤ 9 then (symXor x (16 * (v.toNat - 2) + u.toNat) s0, .corrected)
    else (x, .uncorrectable)

end Sys2Proof.Machine
end

