-- ==== Sys2Proof/Machine/Geometry.lean ====
section
/-!
DEFINITION. The panel's fixed geometry: tiles, stands, regions, ports, ring dies and endpoint addresses (R14 to R28).
-/
namespace Sys2Proof.Machine

open Sys2Proof

/-- Column of a tile (R14). -/
def tileX (t : Nat) : Nat := t % 12
/-- Row of a tile (R14). -/
def tileY (t : Nat) : Nat := t / 12
/-- Tile index of (x, y) (R14). -/
def tileAt (x y : Nat) : Nat := 12 * y + x
/-- The stand of a tile (R15). -/
def standOf (t : Nat) : Nat := 4 * (tileY t / 3) + tileX t / 3
/-- The centre tile of a stand, its reserve tile under R15. -/
def standCentre (s : Nat) : Nat := tileAt (3 * (s % 4) + 1) (3 * (s / 4) + 1)
/-- The nine tiles of a stand (R15). -/
def standTiles (s : Nat) : List Nat := (List.range 144).filter (fun t => standOf t == s)
/-- Whether a tile is the centre of its stand (R15). -/
def isCentre (t : Nat) : Bool := standCentre (standOf t) == t
/-- Region code of a core (R18). -/
def regionOf (c : Nat) : Nat := 2 * (c / 8 / 4) + c % 8 / 4
/-- The cores of a region (Table 1.3). -/
def regionCores (r : Nat) : List Nat := (List.range 64).filter (fun c => regionOf c == r)
/-- The seam runs between columns 5 and 6 (R20); whether port p of tile t crosses it. -/
def seamPort (t p : Nat) : Bool := (tileX t == 5 && p == 1) || (tileX t == 6 && p == 3)

/-- The key of a core in the maps of cores. -/
def coreKey (t c : Nat) : Nat := 64 * t + c
/-- The tile and the port a ring die is attached to: (x, y, port), port 0 N, 1 E, 2 S, 3 W (Table 1.5). -/
def dieAt : Nat → Nat × Nat × Nat
  | 0 => (1, 0, 0) | 1 => (3, 0, 0) | 2 => (8, 0, 0) | 3 => (10, 0, 0)
  | 4 => (1, 11, 2) | 5 => (3, 11, 2) | 6 => (8, 11, 2) | 7 => (10, 11, 2)
  | 8 => (0, 1, 3) | 9 => (0, 3, 3) | 10 => (0, 8, 3) | 11 => (0, 10, 3)
  | 12 => (11, 1, 1) | 13 => (11, 3, 1) | 14 => (11, 8, 1) | 15 => (11, 10, 1)
  | 16 => (5, 0, 0) | 17 => (5, 11, 2) | 18 => (0, 5, 3) | 19 => (11, 5, 1)
  | 20 => (0, 6, 3) | _ => (11, 6, 1)

/-- The tile a ring die is attached to (Table 1.5). -/
def dieTile (d : Nat) : Nat := tileAt (dieAt d).1 (dieAt d).2.1
/-- The port of that tile the ring die is on. -/
def diePort (d : Nat) : Nat := (dieAt d).2.2
/-- The ring die on port p of tile t, where there is one (Table 1.5, R23). -/
def dieOn (t p : Nat) : Option Nat := (List.range 22).find? (fun d => dieTile d == t && diePort d == p)
/-- A fabric die (Table 1.5). -/
def isFabric (d : Nat) : Bool := decide (d < 16)
/-- A host die (Table 1.5). -/
def isHost (d : Nat) : Bool := decide (16 ≤ d ∧ d < 20)
/-- A keeper (Table 1.5). -/
def isKeeper (d : Nat) : Bool := decide (20 ≤ d ∧ d < 22)

/-- The tile across port p of tile t, where it is a tile (R19). -/
def tileAcross (t p : Nat) : Option Nat :=
  let x := tileX t
  let y := tileY t
  match p with
  | 0 => if y = 0 then none else some (tileAt x (y - 1))
  | 1 => if x = 11 then none else some (tileAt (x + 1) y)
  | 2 => if y = 11 then none else some (tileAt x (y + 1))
  | _ => if x = 0 then none else some (tileAt (x - 1) y)

/-- An outward port without a ring die (R23). -/
def termPort (t p : Nat) : Bool := (tileAcross t p).isNone && (dieOn t p).isNone

/-- The opposite port code. -/
def oppPort (p : Nat) : Nat := (p + 2) % 4

/-- The edge core of sub-link k of port p (Table 1.4). -/
def edgeCore (p k : Nat) : Nat :=
  match p with
  | 0 => k
  | 1 => 8 * k + 7
  | 2 => 56 + k
  | _ => 8 * k

/-- The port and sub-link by which the router of core c leaves its tile toward port p, when it is on that edge. -/
def edgeLink (c p : Nat) : Option Nat :=
  match p with
  | 0 => if c / 8 = 0 then some (c % 8) else none
  | 1 => if c % 8 = 7 then some (c / 8) else none
  | 2 => if c / 8 = 7 then some (c % 8) else none
  | _ => if c % 8 = 0 then some (c / 8) else none

/-- The neighbouring core of c inside its tile by port p. -/
def coreAcross (c p : Nat) : Option Nat :=
  match p with
  | 0 => if c / 8 = 0 then none else some (c - 8)
  | 1 => if c % 8 = 7 then none else some (c + 1)
  | 2 => if c / 8 = 7 then none else some (c + 8)
  | _ => if c % 8 = 0 then none else some (c - 1)

/-! Endpoint addresses (R24). -/

/-- The fields of an endpoint address (Table 1.6). -/
structure Ep where
  panel : Nat
  x : Nat
  y : Nat
  core : Nat
  unit : Nat
deriving DecidableEq, Repr

/-- The endpoint of a 29-bit address; higher bits are reserved. -/
def Ep.of (a : Nat) : Ep := ⟨a / 2 ^ 17 % 4096, a / 2 ^ 13 % 16, a / 2 ^ 9 % 16, a / 8 % 64, a % 8⟩

/-- The address of an endpoint. -/
def Ep.addr (e : Ep) : Nat := e.panel * 2 ^ 17 + e.x * 2 ^ 13 + e.y * 2 ^ 9 + e.core * 8 + e.unit

/-- The endpoint of unit u of core c of tile t. -/
def Ep.tileUnit (panel t c u : Nat) : Ep := ⟨panel, tileX t, tileY t, c, u⟩
/-- The endpoint of unit u of ring die d (R26). -/
def Ep.dieUnit (panel d u : Nat) : Ep := ⟨panel, 15, 15, d, u⟩
/-- The endpoint is a ring die's. -/
def Ep.isDie (e : Ep) : Bool := e.x == 15 && e.y == 15
/-- The tile index of a tile endpoint. -/
def Ep.tile (e : Ep) : Nat := tileAt e.x e.y

/-- An endpoint defined by R24 to R26 (R27): a tile unit, the Warden only with core 0, or an assigned ring-die unit. -/
def Ep.defined (e : Ep) : Bool :=
  if e.isDie then
    decide (e.core ≤ 21) &&
      (e.unit == 0 || e.unit == 3 || (e.unit == 7 && isKeeper e.core))
  else
    decide (e.x ≤ 11 ∧ e.y ≤ 11) && (e.unit != 7 || e.core == 0)

/-- Two endpoints are the same core or die. -/
def Ep.sameUnitCore (a b : Ep) : Bool := a.panel == b.panel && a.x == b.x && a.y == b.y && a.core == b.core

end Sys2Proof.Machine

namespace Sys2Proof
open Sys2Proof.Machine

/-- The key of a core. -/
def Cid.key (x : Cid) : Nat := coreKey x.t.val x.c.val
/-- The key of a region. -/
def Rid.key (x : Rid) : Nat := 4 * x.t.val + x.r.val
/-- The region of a core, as a region of its tile. -/
def Cid.rid (x : Cid) : Nat := 4 * x.t.val + regionOf x.c.val

end Sys2Proof
end

