-- ==== Sys2Proof/Machine/RegMap.lean ====
section
/-!
DEFINITION. The register map (R478 to R495): where each register of BAR0 sits, its fields, its access masks and its reset
value, as the field tables of the chapters state them.
-/
namespace Sys2Proof.Machine

open Sys2Proof

/-- A field of a register: the register's offset in its block, and the bits [hi:lo] (R9). -/
structure Fld where
  off : Nat
  hi : Nat
  lo : Nat
deriving DecidableEq, Repr

/-- A register of a block: n copies from offset off, stride st, with the masks of the fields a write sets (RW), of the
fields a 1 clears (W1C), and the reset value (R11). -/
structure RegRow where
  off : Nat
  n : Nat
  st : Nat
  rw : Nat
  w1c : Nat
  rst : Nat
deriving DecidableEq, Repr

/-! Offsets and fields. -/
namespace R

/-! The global block (Table 20.3). -/
/-- BOOT_CTL (Table 13.1). -/
def bootCtl : Nat := 0x0
/-- BOOT_CTL.go. -/
def bootCtl_go : Fld := ⟨0x0, 31, 31⟩
/-- BOOT_CTL.step. -/
def bootCtl_step : Fld := ⟨0x0, 27, 24⟩
/-- BOOT_CTL.ksel. -/
def bootCtl_ksel : Fld := ⟨0x0, 17, 16⟩
/-- BOOT_STS (Table 13.2). -/
def bootSts : Nat := 0x4
/-- BOOT_STS.step. -/
def bootSts_step : Fld := ⟨0x4, 31, 28⟩
/-- BOOT_STS.busy. -/
def bootSts_busy : Fld := ⟨0x4, 27, 27⟩
/-- BOOT_STS.status. -/
def bootSts_status : Fld := ⟨0x4, 23, 16⟩
/-- BOOT_STS.rej. -/
def bootSts_rej : Fld := ⟨0x4, 7, 7⟩
/-- BOOT_STS.done. -/
def bootSts_done : Fld := ⟨0x4, 6, 1⟩
/-- BOOT_ADDRn (R348). -/
def bootAddr : Nat := 0x8
/-- BOOT_LEN (R348). -/
def bootLen : Nat := 0x10
/-- KEEPER_STS (Table 13.4). -/
def keeperSts : Nat := 0x14
/-- KEEPER_STS.active. -/
def keeperSts_active : Fld := ⟨0x14, 29, 29⟩
/-- KEEPER_STS.strap. -/
def keeperSts_strap : Fld := ⟨0x14, 28, 28⟩
/-- KEEPER_STS.a_state. -/
def keeperSts_a_state : Fld := ⟨0x14, 25, 24⟩
/-- KEEPER_STS.b_state. -/
def keeperSts_b_state : Fld := ⟨0x14, 21, 20⟩
/-- TALLY_IDX (R355). -/
def tallyIdx : Nat := 0x20
/-- TALLY_DATAn (R355). -/
def tallyData : Nat := 0x24
/-- TALLY_STS (Table 13.9). -/
def tallySts : Nat := 0x2c
/-- TALLY_STS.applied. -/
def tallySts_applied : Fld := ⟨0x2c, 31, 31⟩
/-- TALLY_STS.rec_busy. -/
def tallySts_rec_busy : Fld := ⟨0x2c, 30, 30⟩
/-- TALLY_STS.rec_full. -/
def tallySts_rec_full : Fld := ⟨0x2c, 29, 29⟩
/-- TALLY_STS.rec_err. -/
def tallySts_rec_err : Fld := ⟨0x2c, 28, 28⟩
/-- TALLY_STS.diverge. -/
def tallySts_diverge : Fld := ⟨0x2c, 27, 27⟩
/-- TALLY_STS.conflict. -/
def tallySts_conflict : Fld := ⟨0x2c, 26, 26⟩
/-- TALLY_STS.role_err. -/
def tallySts_role_err : Fld := ⟨0x2c, 25, 25⟩
/-- TALLY_STS.ninv. -/
def tallySts_ninv : Fld := ⟨0x2c, 23, 16⟩
/-- TALLY_STS.last_inv. -/
def tallySts_last_inv : Fld := ⟨0x2c, 15, 8⟩
/-- TALLY_RECn (R357). -/
def tallyRec : Nat := 0x30
/-- TALLY_REC_CTL (Table 13.8). -/
def tallyRecCtl : Nat := 0x38
/-- TALLY_REC_CTL.go. -/
def tallyRecCtl_go : Fld := ⟨0x38, 31, 31⟩
/-- TALLY_REC_CTL.void. -/
def tallyRecCtl_void : Fld := ⟨0x38, 10, 10⟩
/-- TALLY_REC_CTL.slot. -/
def tallyRecCtl_slot : Fld := ⟨0x38, 9, 8⟩
/-- TALLY_REC_CTL.tile. -/
def tallyRecCtl_tile : Fld := ⟨0x38, 7, 0⟩
/-- READY_MAPn (R362). -/
def readyMap : Nat := 0x40

/-! The keeper block (Table 20.4). -/
/-- PANEL_STATE (R342). -/
def panelState : Nat := 0x0
/-- EPOCH (R422). -/
def epoch : Nat := 0x4
/-- STEP_STS (R422). -/
def stepSts : Nat := 0x8
/-- GOV_STS (Table 16.6). -/
def govSts : Nat := 0xc
/-- GOV_STS.stand. -/
def govSts_stand : Fld := ⟨0xc, 31, 16⟩
/-- GOV_STS.recent. -/
def govSts_recent : Fld := ⟨0xc, 6, 4⟩
/-- GOV_STS.held. -/
def govSts_held : Fld := ⟨0xc, 0, 0⟩
/-- CAND_MAPn (R422). -/
def candMap : Nat := 0x10
/-- FAULT_MAPn (R399). -/
def faultMap : Nat := 0x30
/-- FC_STICKY (Table 15.6). -/
def kFcSticky : Nat := 0x50
/-- FC_STICKY.sticky. -/
def kFcSticky_sticky : Fld := ⟨0x50, 24, 0⟩
/-- FC_REACTn (Table 15.7). -/
def kFcReact : Nat := 0x54
/-- FC_REACT.react. -/
def kFcReact_react : Fld := ⟨0x54, 23, 0⟩
/-- ALERT_STS (Table 15.10). -/
def alertSts : Nat := 0x64
/-- ALERT_STS.takeover. -/
def alertSts_takeover : Fld := ⟨0x64, 2, 2⟩
/-- ALERT_STS.pin. -/
def alertSts_pin : Fld := ⟨0x64, 1, 1⟩
/-- ALERT_STS.cool. -/
def alertSts_cool : Fld := ⟨0x64, 0, 0⟩
/-- PTC_CTL (Table 10.8). -/
def ptcCtl : Nat := 0x70
/-- PTC_CTL.yport. -/
def ptcCtl_yport : Fld := ⟨0x70, 13, 8⟩
/-- PTC_CTL.src. -/
def ptcCtl_src : Fld := ⟨0x70, 1, 0⟩
/-- PTC_STS (Table 10.7). -/
def kPtcSts : Nat := 0x74
/-- PTC_STS.valid. -/
def kPtcSts_valid : Fld := ⟨0x74, 31, 31⟩
/-- PTC_STS.holdover. -/
def kPtcSts_holdover : Fld := ⟨0x74, 30, 30⟩
/-- PTC_STS.ref_lost. -/
def kPtcSts_ref_lost : Fld := ⟨0x74, 29, 29⟩
/-- PTC_STS.pps_lost. -/
def kPtcSts_pps_lost : Fld := ⟨0x74, 28, 28⟩
/-- PTC_STS.hops. -/
def kPtcSts_hops : Fld := ⟨0x74, 23, 16⟩
/-- PTC_STS.offset. -/
def kPtcSts_offset : Fld := ⟨0x74, 15, 0⟩
/-- PTC_VALn (R292). -/
def kPtcVal : Nat := 0x78
/-- PTC_RATE (R292). -/
def kPtcRate : Nat := 0x80
/-- PTC_PPS_CAPn (R292). -/
def ptcPpsCap : Nat := 0x84
/-- PANEL_BUDGET (Table 12.14). -/
def panelBudget : Nat := 0x90
/-- PANEL_BUDGET.tile_max. -/
def panelBudget_tile_max : Fld := ⟨0x90, 24, 16⟩
/-- PANEL_BUDGET.panel. -/
def panelBudget_panel : Fld := ⟨0x90, 15, 0⟩
/-- PANEL_BUDGET_EFF (R342). -/
def panelBudgetEff : Nat := 0x94
/-- COOL_CTL (Table 12.15). -/
def coolCtl : Nat := 0x98
/-- COOL_CTL.warn. -/
def coolCtl_warn : Fld := ⟨0x98, 31, 24⟩
/-- COOL_CTL.thr. -/
def coolCtl_thr : Fld := ⟨0x98, 23, 16⟩
/-- COOL_CTL.fwarn. -/
def coolCtl_fwarn : Fld := ⟨0x98, 15, 8⟩
/-- COOL_CTL.fthr. -/
def coolCtl_fthr : Fld := ⟨0x98, 7, 0⟩
/-- COOL_STS (Table 12.16). -/
def coolSts : Nat := 0x9c
/-- COOL_STS.t_in. -/
def coolSts_t_in : Fld := ⟨0x9c, 31, 24⟩
/-- COOL_STS.t_out. -/
def coolSts_t_out : Fld := ⟨0x9c, 23, 16⟩
/-- COOL_STS.flow. -/
def coolSts_flow : Fld := ⟨0x9c, 15, 8⟩
/-- COOL_STS.throttle. -/
def coolSts_throttle : Fld := ⟨0x9c, 2, 2⟩
/-- COOL_STS.warn. -/
def coolSts_warn : Fld := ⟨0x9c, 1, 1⟩
/-- COOL_STS.valid. -/
def coolSts_valid : Fld := ⟨0x9c, 0, 0⟩
/-- COOL_HEAT (R342). -/
def coolHeat : Nat := 0xa0
/-- FEED_STS (Table 11.11). -/
def feedSts : Nat := 0xa4
/-- FEED_STS.va. -/
def feedSts_va : Fld := ⟨0xa4, 31, 24⟩
/-- FEED_STS.vb. -/
def feedSts_vb : Fld := ⟨0xa4, 23, 16⟩
/-- FEED_STS.sa. -/
def feedSts_sa : Fld := ⟨0xa4, 7, 6⟩
/-- FEED_STS.sb. -/
def feedSts_sb : Fld := ⟨0xa4, 5, 4⟩
/-- FEED_STS.lost_a. -/
def feedSts_lost_a : Fld := ⟨0xa4, 3, 3⟩
/-- FEED_STS.lost_b. -/
def feedSts_lost_b : Fld := ⟨0xa4, 2, 2⟩
/-- FEED_CUR (R312). -/
def feedCur : Nat := 0xa8
/-- UB_STS (Table 11.12). -/
def ubSts : Nat := 0xac
/-- UB_STS.deg. -/
def ubSts_deg : Fld := ⟨0xac, 31, 16⟩
/-- UB_STS.ring. -/
def ubSts_ring : Fld := ⟨0xac, 15, 14⟩
/-- UB_STS.pol. -/
def ubSts_pol : Fld := ⟨0xac, 8, 8⟩
/-- UB_STS.pol_tile. -/
def ubSts_pol_tile : Fld := ⟨0xac, 7, 0⟩
/-- TILE_ADMIT (Table 11.10). -/
def tileAdmit : Nat := 0xb0
/-- TILE_ADMIT.peak. -/
def tileAdmit_peak : Fld := ⟨0xb0, 8, 0⟩
/-- YK_FAB_STS (Table 18.5). -/
def ykFabSts : Nat := 0xb4
/-- YK_FAB_STS.held. -/
def ykFabSts_held : Fld := ⟨0xb4, 31, 31⟩
/-- YK_FAB_STS.auto. -/
def ykFabSts_auto : Fld := ⟨0xb4, 30, 30⟩
/-- YK_FAB_STS.dup. -/
def ykFabSts_dup : Fld := ⟨0xb4, 29, 29⟩
/-- YK_FAB_STS.root. -/
def ykFabSts_root : Fld := ⟨0xb4, 28, 28⟩
/-- YK_FAB_STS.rhops. -/
def ykFabSts_rhops : Fld := ⟨0xb4, 17, 12⟩
/-- YK_FAB_STS.id. -/
def ykFabSts_id : Fld := ⟨0xb4, 11, 0⟩
/-- YK_MARGIN_TH (Table 18.6). -/
def ykMarginTh : Nat := 0xb8
/-- YK_MARGIN_TH.limit. -/
def ykMarginTh_limit : Fld := ⟨0xb8, 23, 0⟩
/-- YK_PORT_STSn (Table 18.4). -/
def ykPortSts : Nat := 0x100
/-- YK_PORT_STS.state. -/
def ykPortSts_state : Fld := ⟨0x100, 31, 28⟩
/-- YK_PORT_STS.r200. -/
def ykPortSts_r200 : Fld := ⟨0x100, 27, 27⟩
/-- YK_PORT_STS.ver. -/
def ykPortSts_ver : Fld := ⟨0x100, 26, 24⟩
/-- YK_PORT_STS.pdie. -/
def ykPortSts_pdie : Fld := ⟨0x100, 23, 20⟩
/-- YK_PORT_STS.pport. -/
def ykPortSts_pport : Fld := ⟨0x100, 19, 18⟩
/-- YK_PORT_STS.pid. -/
def ykPortSts_pid : Fld := ⟨0x100, 11, 0⟩

/-! The tile registers (Table 20.7). -/
/-- TILE_STS (Table 13.10). -/
def tileSts : Nat := 0x0
/-- TILE_STS.ready. -/
def tileSts_ready : Fld := ⟨0x0, 31, 31⟩
/-- TILE_STS.unusable. -/
def tileSts_unusable : Fld := ⟨0x0, 30, 30⟩
/-- TILE_STS.reserve. -/
def tileSts_reserve : Fld := ⟨0x0, 29, 29⟩
/-- TILE_STS.links_done. -/
def tileSts_links_done : Fld := ⟨0x0, 28, 28⟩
/-- TILE_STS.img_done. -/
def tileSts_img_done : Fld := ⟨0x0, 27, 27⟩
/-- TILE_STS.link_down. -/
def tileSts_link_down : Fld := ⟨0x0, 26, 26⟩
/-- TILE_STS.ncore. -/
def tileSts_ncore : Fld := ⟨0x0, 23, 17⟩
/-- TILE_STS.img_bad. -/
def tileSts_img_bad : Fld := ⟨0x0, 13, 7⟩
/-- TILE_STS.bin. -/
def tileSts_bin : Fld := ⟨0x0, 3, 0⟩
/-- FENCE_MAPn (R422). -/
def fenceMap : Nat := 0x4
/-- HEALTH (Table 16.4). -/
def health : Nat := 0xc
/-- HEALTH.suspect. -/
def health_suspect : Fld := ⟨0xc, 31, 31⟩
/-- HEALTH.cand. -/
def health_cand : Fld := ⟨0xc, 30, 30⟩
/-- HEALTH.score. -/
def health_score : Fld := ⟨0xc, 9, 0⟩
/-- TILE_MEMB (Table 16.5). -/
def tileMemb : Nat := 0x10
/-- TILE_MEMB.expelled. -/
def tileMemb_expelled : Fld := ⟨0x10, 31, 31⟩
/-- TILE_MEMB.in_service. -/
def tileMemb_in_service : Fld := ⟨0x10, 30, 30⟩
/-- TILE_MEMB.lost. -/
def tileMemb_lost : Fld := ⟨0x10, 29, 29⟩
/-- TILE_MEMB.peer. -/
def tileMemb_peer : Fld := ⟨0x10, 23, 16⟩
/-- TILE_MEMB.epoch. -/
def tileMemb_epoch : Fld := ⟨0x10, 15, 0⟩
/-- CHECK_CTL (Table 15.8). -/
def checkCtl : Nat := 0x14
/-- CHECK_CTL.suspect. -/
def checkCtl_suspect : Fld := ⟨0x14, 8, 8⟩
/-- CHECK_CTL.eff. -/
def checkCtl_eff : Fld := ⟨0x14, 5, 4⟩
/-- CHECK_CTL.policy. -/
def checkCtl_policy : Fld := ⟨0x14, 1, 0⟩
/-- STEP_TIMING (Table 16.7). -/
def stepTiming : Nat := 0x18
/-- STEP_TIMING.step. -/
def stepTiming_step : Fld := ⟨0x18, 31, 16⟩
/-- STEP_TIMING.last. -/
def stepTiming_last : Fld := ⟨0x18, 13, 8⟩
/-- STEP_TIMING.nhalt. -/
def stepTiming_nhalt : Fld := ⟨0x18, 6, 0⟩
/-- STEP_DUR (R422). -/
def stepDur : Nat := 0x1c
/-- STEP_SPREAD (R422). -/
def stepSpread : Nat := 0x20
/-- FC_STICKY (Table 15.6). -/
def fcSticky : Nat := 0x30
/-- FC_STICKY.sticky. -/
def fcSticky_sticky : Fld := ⟨0x30, 24, 0⟩
/-- FC_REACTn (Table 15.7). -/
def fcReact : Nat := 0x34
/-- FC_REACT.react. -/
def fcReact_react : Fld := ⟨0x34, 23, 0⟩
/-- PTC_VALn (R292). -/
def ptcVal : Nat := 0x50
/-- PTC_STS (Table 10.7). -/
def ptcSts : Nat := 0x58
/-- PTC_STS.valid. -/
def ptcSts_valid : Fld := ⟨0x58, 31, 31⟩
/-- PTC_STS.holdover. -/
def ptcSts_holdover : Fld := ⟨0x58, 30, 30⟩
/-- PTC_STS.ref_lost. -/
def ptcSts_ref_lost : Fld := ⟨0x58, 29, 29⟩
/-- PTC_STS.pps_lost. -/
def ptcSts_pps_lost : Fld := ⟨0x58, 28, 28⟩
/-- PTC_STS.hops. -/
def ptcSts_hops : Fld := ⟨0x58, 23, 16⟩
/-- PTC_STS.offset. -/
def ptcSts_offset : Fld := ⟨0x58, 15, 0⟩
/-- PTC_RATE (R292). -/
def ptcRate : Nat := 0x5c
/-- TIME_TREE (Table 10.6). -/
def timeTree : Nat := 0x60
/-- TIME_TREE.fwd. -/
def timeTree_fwd : Fld := ⟨0x60, 11, 8⟩
/-- TIME_TREE.sub. -/
def timeTree_sub : Fld := ⟨0x60, 6, 4⟩
/-- TIME_TREE.parent. -/
def timeTree_parent : Fld := ⟨0x60, 2, 0⟩
/-- THERM_CTL (Table 12.11). -/
def thermCtl : Nat := 0x70
/-- THERM_CTL.learn. -/
def thermCtl_learn : Fld := ⟨0x70, 31, 31⟩
/-- THERM_CTL.mu. -/
def thermCtl_mu : Fld := ⟨0x70, 27, 24⟩
/-- THERM_CTL.step. -/
def thermCtl_step : Fld := ⟨0x70, 23, 20⟩
/-- THERM_CTL.hyst. -/
def thermCtl_hyst : Fld := ⟨0x70, 19, 16⟩
/-- THERM_CTL.hold. -/
def thermCtl_hold : Fld := ⟨0x70, 7, 0⟩
/-- BUDGET_STS (Table 12.13). -/
def budgetSts : Nat := 0x74
/-- BUDGET_STS.budget. -/
def budgetSts_budget : Fld := ⟨0x74, 31, 20⟩
/-- BUDGET_STS.used. -/
def budgetSts_used : Fld := ⟨0x74, 19, 8⟩
/-- BUDGET_STS.over. -/
def budgetSts_over : Fld := ⟨0x74, 1, 1⟩
/-- BUDGET_STS.stale. -/
def budgetSts_stale : Fld := ⟨0x74, 0, 0⟩
/-- DRAM_THERM (Table 7.6). -/
def dramTherm : Nat := 0x78
/-- DRAM_THERM.t_dram. -/
def dramTherm_t_dram : Fld := ⟨0x78, 31, 24⟩
/-- DRAM_THERM.t_die. -/
def dramTherm_t_die : Fld := ⟨0x78, 23, 16⟩
/-- DRAM_THERM.trip. -/
def dramTherm_trip : Fld := ⟨0x78, 4, 4⟩
/-- DRAM_THERM.dbl. -/
def dramTherm_dbl : Fld := ⟨0x78, 3, 3⟩
/-- DRAM_THERM.cap. -/
def dramTherm_cap : Fld := ⟨0x78, 1, 0⟩
/-- REFUSE_LOG (Table 12.9). -/
def refuseLog : Nat := 0x7c
/-- REFUSE_LOG.abort. -/
def refuseLog_abort : Fld := ⟨0x7c, 31, 31⟩
/-- REFUSE_LOG.last_block. -/
def refuseLog_last_block : Fld := ⟨0x7c, 30, 28⟩
/-- REFUSE_LOG.region. -/
def refuseLog_region : Fld := ⟨0x7c, 27, 26⟩
/-- REFUSE_LOG.core. -/
def refuseLog_core : Fld := ⟨0x7c, 25, 20⟩
/-- REFUSE_LOG.target. -/
def refuseLog_target : Fld := ⟨0x7c, 19, 18⟩
/-- REFUSE_LOG.reason. -/
def refuseLog_reason : Fld := ⟨0x7c, 15, 8⟩
/-- PWR_HS_LIMIT (R323). -/
def pwrHsLimit : Nat := 0x80
/-- ADMIT_CTL (Table 11.9). -/
def admitCtl : Nat := 0x84
/-- ADMIT_CTL.peak. -/
def admitCtl_peak : Fld := ⟨0x84, 6, 0⟩
/-- ARB_STARVE_LIMIT (Table 8.12). -/
def arbStarveLimit : Nat := 0x88
/-- ARB_STARVE_LIMIT.limit. -/
def arbStarveLimit_limit : Fld := ⟨0x88, 23, 0⟩
/-- LINK_MARGIN_TH (Table 9.12). -/
def linkMarginTh : Nat := 0x8c
/-- LINK_MARGIN_TH.train. -/
def linkMarginTh_train : Fld := ⟨0x8c, 13, 8⟩
/-- LINK_MARGIN_TH.run. -/
def linkMarginTh_run : Fld := ⟨0x8c, 5, 0⟩
/-- VF_POINTn (Table 11.5). -/
def vfPoint : Nat := 0xa0
/-- VF_POINT.mv. -/
def vfPoint_mv : Fld := ⟨0xa0, 25, 16⟩
/-- VF_POINT.code. -/
def vfPoint_code : Fld := ⟨0xa0, 7, 0⟩
/-- WIN_MAPn (R462). -/
def winMap : Nat := 0xc0

/-! The region block (Table 20.8). -/
/-- DCO_CTL (Table 10.4). -/
def dcoCtl : Nat := 0x0
/-- DCO_CTL.dith. -/
def dcoCtl_dith : Fld := ⟨0x0, 16, 16⟩
/-- DCO_CTL.pend. -/
def dcoCtl_pend : Fld := ⟨0x0, 8, 8⟩
/-- DCO_CTL.target. -/
def dcoCtl_target : Fld := ⟨0x0, 7, 0⟩
/-- DCO_STS (Table 10.5). -/
def dcoSts : Nat := 0x4
/-- DCO_STS.fc. -/
def dcoSts_fc : Fld := ⟨0x4, 31, 24⟩
/-- DCO_STS.adapt. -/
def dcoSts_adapt : Fld := ⟨0x4, 23, 16⟩
/-- DCO_STS.cap. -/
def dcoSts_cap : Fld := ⟨0x4, 15, 8⟩
/-- DCO_STS.stretch. -/
def dcoSts_stretch : Fld := ⟨0x4, 7, 4⟩
/-- DCO_STS.wake. -/
def dcoSts_wake : Fld := ⟨0x4, 3, 3⟩
/-- DCO_STS.locked. -/
def dcoSts_locked : Fld := ⟨0x4, 2, 2⟩
/-- DCO_STS.lim. -/
def dcoSts_lim : Fld := ⟨0x4, 1, 0⟩
/-- REGION_STATE (Table 12.8). -/
def regionState : Nat := 0x8
/-- REGION_STATE.wop. -/
def regionState_wop : Fld := ⟨0x8, 8, 8⟩
/-- REGION_STATE.hgate. -/
def regionState_hgate : Fld := ⟨0x8, 7, 7⟩
/-- REGION_STATE.hs. -/
def regionState_hs : Fld := ⟨0x8, 6, 6⟩
/-- REGION_STATE.target. -/
def regionState_target : Fld := ⟨0x8, 5, 4⟩
/-- REGION_STATE.state. -/
def regionState_state : Fld := ⟨0x8, 1, 0⟩
/-- REGION_PWR (Table 11.8). -/
def regionPwr : Nat := 0xc
/-- REGION_PWR.forced. -/
def regionPwr_forced : Fld := ⟨0xc, 26, 26⟩
/-- REGION_PWR.stage. -/
def regionPwr_stage : Fld := ⟨0xc, 25, 22⟩
/-- REGION_PWR.held. -/
def regionPwr_held : Fld := ⟨0xc, 21, 21⟩
/-- REGION_PWR.cells. -/
def regionPwr_cells : Fld := ⟨0xc, 20, 14⟩
/-- REGION_PWR.vset. -/
def regionPwr_vset : Fld := ⟨0xc, 9, 0⟩
/-- VCORE_SET (Table 11.6). -/
def vcoreSet : Nat := 0x10
/-- VCORE_SET.pin. -/
def vcoreSet_pin : Fld := ⟨0x10, 31, 31⟩
/-- VCORE_SET.rej. -/
def vcoreSet_rej : Fld := ⟨0x10, 30, 30⟩
/-- VCORE_SET.mv. -/
def vcoreSet_mv : Fld := ⟨0x10, 9, 0⟩
/-- THERM_STS (Table 12.12). -/
def thermSts : Nat := 0x14
/-- THERM_STS.tmax. -/
def thermSts_tmax : Fld := ⟨0x14, 31, 24⟩
/-- THERM_STS.tpred. -/
def thermSts_tpred : Fld := ⟨0x14, 23, 16⟩
/-- THERM_STS.cap. -/
def thermSts_cap : Fld := ⟨0x14, 15, 8⟩
/-- THERM_STS.pred_hi. -/
def thermSts_pred_hi : Fld := ⟨0x14, 0, 0⟩

/-! The sub-link block (Table 20.9). -/
/-- LINK_CTL (Table 9.10). -/
def linkCtl : Nat := 0x0
/-- LINK_CTL.auto. -/
def linkCtl_auto : Fld := ⟨0x0, 1, 1⟩
/-- LINK_CTL.retrain. -/
def linkCtl_retrain : Fld := ⟨0x0, 0, 0⟩
/-- LINK_STS (Table 9.11). -/
def linkSts : Nat := 0x4
/-- LINK_STS.state. -/
def linkSts_state : Fld := ⟨0x4, 31, 28⟩
/-- LINK_STS.rate. -/
def linkSts_rate : Fld := ⟨0x4, 27, 26⟩
/-- LINK_STS.w128. -/
def linkSts_w128 : Fld := ⟨0x4, 25, 25⟩
/-- LINK_STS.feat. -/
def linkSts_feat : Fld := ⟨0x4, 24, 21⟩
/-- LINK_STS.ver. -/
def linkSts_ver : Fld := ⟨0x4, 20, 17⟩
/-- LINK_STS.spares. -/
def linkSts_spares : Fld := ⟨0x4, 16, 13⟩
/-- LINK_STS.retrain_rej. -/
def linkSts_retrain_rej : Fld := ⟨0x4, 12, 12⟩
/-- LINK_STS.margin_low. -/
def linkSts_margin_low : Fld := ⟨0x4, 11, 11⟩
/-- LINK_STS.reason. -/
def linkSts_reason : Fld := ⟨0x4, 10, 7⟩
/-- LINK_STS.margin. -/
def linkSts_margin : Fld := ⟨0x4, 5, 0⟩
/-- LINK_DELAY (Table 9.13). -/
def linkDelay : Nat := 0x8
/-- LINK_DELAY.valid. -/
def linkDelay_valid : Fld := ⟨0x8, 16, 16⟩
/-- LINK_DELAY.delay. -/
def linkDelay_delay : Fld := ⟨0x8, 15, 0⟩
/-- LINK_SPMAPn (R357). -/
def linkSpmap : Nat := 0xc

/-! The core page (Table 20.10). -/
/-- SEQ_CTL (Table 4.12). -/
def seqCtl : Nat := 0x0
/-- SEQ_CTL.abft_trap. -/
def seqCtl_abft_trap : Fld := ⟨0x0, 16, 16⟩
/-- SEQ_CTL.vec. -/
def seqCtl_vec : Fld := ⟨0x0, 10, 0⟩
/-- SEQ_STATUS (Table 4.13). -/
def seqStatus : Nat := 0x4
/-- SEQ_STATUS.cause. -/
def seqStatus_cause : Fld := ⟨0x4, 23, 16⟩
/-- SEQ_STATUS.wdog. -/
def seqStatus_wdog : Fld := ⟨0x4, 15, 15⟩
/-- SEQ_STATUS.tok_sat. -/
def seqStatus_tok_sat : Fld := ⟨0x4, 14, 14⟩
/-- SEQ_STATUS.abft_cond. -/
def seqStatus_abft_cond : Fld := ⟨0x4, 13, 13⟩
/-- SEQ_STATUS.in_trap. -/
def seqStatus_in_trap : Fld := ⟨0x4, 12, 12⟩
/-- SEQ_STATUS.pend. -/
def seqStatus_pend : Fld := ⟨0x4, 11, 11⟩
/-- SEQ_STATUS.state. -/
def seqStatus_state : Fld := ⟨0x4, 2, 0⟩
/-- SEQ_WDOG (Table 4.14). -/
def seqWdog : Nat := 0x8
/-- SEQ_WDOG.limit. -/
def seqWdog_limit : Fld := ⟨0x8, 19, 0⟩
/-- SEQ_PC (R120). -/
def seqPc : Nat := 0xc
/-- SEQ_EPC (R120). -/
def seqEpc : Nat := 0x10
/-- WAKE_PC (Table 12.10). -/
def wakePc : Nat := 0x14
/-- WAKE_PC.en. -/
def wakePc_en : Fld := ⟨0x14, 11, 11⟩
/-- WAKE_PC.vec. -/
def wakePc_vec : Fld := ⟨0x14, 10, 0⟩
/-- SELFTEST_RES (Table 15.9). -/
def selftestRes : Nat := 0x18
/-- SELFTEST_RES.result. -/
def selftestRes_result : Fld := ⟨0x18, 31, 30⟩
/-- SELFTEST_RES.run. -/
def selftestRes_run : Fld := ⟨0x18, 29, 29⟩
/-- SELFTEST_RES.first. -/
def selftestRes_first : Fld := ⟨0x18, 27, 24⟩
/-- SELFTEST_RES.mask. -/
def selftestRes_mask : Fld := ⟨0x18, 9, 0⟩
/-- GRID_STATUS (Table 3.5). -/
def gridStatus : Nat := 0x20
/-- GRID_STATUS.mismatch. -/
def gridStatus_mismatch : Fld := ⟨0x20, 4, 4⟩
/-- GRID_STATUS.skipped. -/
def gridStatus_skipped : Fld := ⟨0x20, 3, 3⟩
/-- GRID_STATUS.sat. -/
def gridStatus_sat : Fld := ⟨0x20, 2, 2⟩
/-- GRID_STATUS.inexact_hi. -/
def gridStatus_inexact_hi : Fld := ⟨0x20, 1, 1⟩
/-- GRID_STATUS.inexact_lo. -/
def gridStatus_inexact_lo : Fld := ⟨0x20, 0, 0⟩
/-- CHECK_TOL (Table 3.7). -/
def checkTol : Nat := 0x24
/-- CHECK_TOL.tol. -/
def checkTol_tol : Fld := ⟨0x24, 23, 0⟩
/-- SR_SEEDn (R496). -/
def srSeed : Nat := 0x28
/-- OUTLIER_THRESH (Table 2.8). -/
def outlierThresh : Nat := 0x30
/-- OUTLIER_THRESH.en. -/
def outlierThresh_en : Fld := ⟨0x30, 16, 16⟩
/-- OUTLIER_THRESH.thresh. -/
def outlierThresh_thresh : Fld := ⟨0x30, 15, 0⟩
/-- OUTLIER_MASKn (R57). -/
def outlierMask : Nat := 0x34
/-- SPAD_STATUS (Table 5.2). -/
def spadStatus : Nat := 0x48
/-- SPAD_STATUS.larder_err. -/
def spadStatus_larder_err : Fld := ⟨0x48, 4, 4⟩
/-- SPAD_STATUS.retain_rej. -/
def spadStatus_retain_rej : Fld := ⟨0x48, 3, 3⟩
/-- SPAD_STATUS.scrub_drop. -/
def spadStatus_scrub_drop : Fld := ⟨0x48, 2, 2⟩
/-- SPAD_STATUS.ue. -/
def spadStatus_ue : Fld := ⟨0x48, 1, 1⟩
/-- SPAD_STATUS.ce. -/
def spadStatus_ce : Fld := ⟨0x48, 0, 0⟩
/-- CORE_RETAIN (R135). -/
def coreRetain : Nat := 0x4c
/-- LARDER_CTL (Table 5.3). -/
def larderCtl : Nat := 0x50
/-- LARDER_CTL.en. -/
def larderCtl_en : Fld := ⟨0x50, 31, 31⟩
/-- LARDER_CTL.slot. -/
def larderCtl_slot : Fld := ⟨0x50, 30, 25⟩
/-- LARDER_CTL.base. -/
def larderCtl_base : Fld := ⟨0x50, 18, 0⟩
/-- LARDER_DEPTH (Table 5.4). -/
def larderDepth : Nat := 0x54
/-- LARDER_DEPTH.spill. -/
def larderDepth_spill : Fld := ⟨0x54, 26, 16⟩
/-- LARDER_DEPTH.nslots. -/
def larderDepth_nslots : Fld := ⟨0x54, 15, 0⟩
/-- LARDER_STATUS (Table 5.5). -/
def larderStatus : Nat := 0x58
/-- LARDER_STATUS.spill. -/
def larderStatus_spill : Fld := ⟨0x58, 31, 31⟩
/-- LARDER_STATUS.waiting. -/
def larderStatus_waiting : Fld := ⟨0x58, 30, 30⟩
/-- LARDER_STATUS.held. -/
def larderStatus_held : Fld := ⟨0x58, 15, 0⟩
/-- LARDER_PROD (R138). -/
def larderProd : Nat := 0x5c
/-- LARDER_TOK (R138). -/
def larderTok : Nat := 0x60
/-- LARDER_SPILL_BASE (R138). -/
def larderSpillBase : Nat := 0x64
/-- LARDER_TIMEOUT (R138). -/
def larderTimeout : Nat := 0x68
/-- LARDER_REL (R138). -/
def larderRel : Nat := 0x6c
/-- LARDER_HEAD (R138). -/
def larderHead : Nat := 0x70
/-- LARDER_SPILL_HELD (R138). -/
def larderSpillHeld : Nat := 0x74
/-- PLN_INBOX (Table 6.6). -/
def plnInbox : Nat := 0x80
/-- PLN_INBOX.size. -/
def plnInbox_size : Fld := ⟨0x80, 27, 16⟩
/-- PLN_INBOX.base. -/
def plnInbox_base : Fld := ⟨0x80, 15, 0⟩
/-- PLN_EPS (R166). -/
def plnEps : Nat := 0x84
/-- PLN_STATUS (Table 6.7). -/
def plnStatus : Nat := 0x88
/-- PLN_STATUS.inbox_ref. -/
def plnStatus_inbox_ref : Fld := ⟨0x88, 2, 2⟩
/-- PLN_STATUS.src_miss. -/
def plnStatus_src_miss : Fld := ⟨0x88, 1, 1⟩
/-- PLN_STATUS.asm_held. -/
def plnStatus_asm_held : Fld := ⟨0x88, 0, 0⟩
/-- RSP_TIMEOUT (Table 8.4). -/
def rspTimeout : Nat := 0x90
/-- RSP_TIMEOUT.limit. -/
def rspTimeout_limit : Fld := ⟨0x90, 15, 0⟩
/-- MC_ALIASn (Table 8.10). -/
def mcAlias : Nat := 0x94
/-- MC_ALIAS.en. -/
def mcAlias_en : Fld := ⟨0x94, 31, 31⟩
/-- MC_ALIAS.group. -/
def mcAlias_group : Fld := ⟨0x94, 30, 25⟩
/-- MC_ALIAS.target. -/
def mcAlias_target : Fld := ⟨0x94, 16, 0⟩
/-- RTR_PORT (Table 8.11). -/
def rtrPort : Nat := 0xa8
/-- RTR_PORT.w. -/
def rtrPort_w : Fld := ⟨0xa8, 7, 6⟩
/-- RTR_PORT.s. -/
def rtrPort_s : Fld := ⟨0xa8, 5, 4⟩
/-- RTR_PORT.e. -/
def rtrPort_e : Fld := ⟨0xa8, 3, 2⟩
/-- RTR_PORT.n. -/
def rtrPort_n : Fld := ⟨0xa8, 1, 0⟩
/-- DRAM_STATUS (Table 7.9). -/
def dramStatus : Nat := 0xb0
/-- DRAM_STATUS.retire_rej. -/
def dramStatus_retire_rej : Fld := ⟨0xb0, 5, 5⟩
/-- DRAM_STATUS.retire_busy. -/
def dramStatus_retire_busy : Fld := ⟨0xb0, 4, 4⟩
/-- DRAM_STATUS.selfref. -/
def dramStatus_selfref : Fld := ⟨0xb0, 3, 3⟩
/-- DRAM_STATUS.scrub_drop. -/
def dramStatus_scrub_drop : Fld := ⟨0xb0, 2, 2⟩
/-- DRAM_STATUS.ue. -/
def dramStatus_ue : Fld := ⟨0xb0, 1, 1⟩
/-- DRAM_STATUS.ce. -/
def dramStatus_ce : Fld := ⟨0xb0, 0, 0⟩
/-- DRAM_RETIRE (Table 7.8). -/
def dramRetire : Nat := 0xb4
/-- DRAM_RETIRE.go. -/
def dramRetire_go : Fld := ⟨0xb4, 31, 31⟩
/-- DRAM_RETIRE.spare. -/
def dramRetire_spare : Fld := ⟨0xb4, 26, 24⟩
/-- DRAM_RETIRE.bank. -/
def dramRetire_bank : Fld := ⟨0xb4, 23, 18⟩
/-- DRAM_RETIRE.row. -/
def dramRetire_row : Fld := ⟨0xb4, 11, 0⟩

/-! The host-port block (Table 20.5). -/
/-- SQ_BASE_LOn (R428). -/
def sqBaseLo : Nat := 0x0
/-- SQ_BASE_HIn (R428). -/
def sqBaseHi : Nat := 0x4
/-- CQ_BASE_LOn (R428). -/
def cqBaseLo : Nat := 0x8
/-- CQ_BASE_HIn (R428). -/
def cqBaseHi : Nat := 0xc
/-- SQ_CFGn (Table 17.3). -/
def sqCfg : Nat := 0x10
/-- SQ_CFG.en. -/
def sqCfg_en : Fld := ⟨0x10, 31, 31⟩
/-- SQ_CFG.cq. -/
def sqCfg_cq : Fld := ⟨0x10, 21, 16⟩
/-- SQ_CFG.size. -/
def sqCfg_size : Fld := ⟨0x10, 11, 0⟩
/-- CQ_CFGn (Table 17.4). -/
def cqCfg : Nat := 0x14
/-- CQ_CFG.en. -/
def cqCfg_en : Fld := ⟨0x14, 31, 31⟩
/-- CQ_CFG.ien. -/
def cqCfg_ien : Fld := ⟨0x14, 30, 30⟩
/-- CQ_CFG.vec. -/
def cqCfg_vec : Fld := ⟨0x14, 26, 16⟩
/-- CQ_CFG.size. -/
def cqCfg_size : Fld := ⟨0x14, 11, 0⟩
/-- Q_STSn (Table 17.5). -/
def qSts : Nat := 0x18
/-- Q_STS.err. -/
def qSts_err : Fld := ⟨0x18, 31, 31⟩
/-- Q_STS.cfg_err. -/
def qSts_cfg_err : Fld := ⟨0x18, 30, 30⟩
/-- Q_STS.db_err. -/
def qSts_db_err : Fld := ⟨0x18, 29, 29⟩
/-- Q_STS.cq_tail. -/
def qSts_cq_tail : Fld := ⟨0x18, 27, 16⟩
/-- Q_STS.sq_head. -/
def qSts_sq_head : Fld := ⟨0x18, 11, 0⟩
/-- APER_MAPn (Table 17.6). -/
def aperMap : Nat := 0x800
/-- APER_MAP.en. -/
def aperMap_en : Fld := ⟨0x800, 31, 31⟩
/-- APER_MAP.wr. -/
def aperMap_wr : Fld := ⟨0x800, 30, 30⟩
/-- APER_MAP.ep. -/
def aperMap_ep : Fld := ⟨0x800, 28, 0⟩
/-- HOST_WIN_BASEn (R427). -/
def hostWinBase : Nat := 0x900
/-- HOST_WIN_SIZE (R427). -/
def hostWinSize : Nat := 0x908
/-- EVT_CFG (R441). -/
def evtCfg : Nat := 0x90c

end R

/-- The registers of the global block (Table 20.3). -/
def globRows : List RegRow := [
  ⟨0x0, 1, 0x4, 0xf030000, 0x0, 0x0⟩,
  ⟨0x4, 1, 0x4, 0x0, 0x80, 0x0⟩,
  ⟨0x8, 2, 0x4, 0xffffffff, 0x0, 0x0⟩,
  ⟨0x10, 1, 0x4, 0xffffffff, 0x0, 0x0⟩,
  ⟨0x14, 1, 0x4, 0x0, 0x0, 0x0⟩,
  ⟨0x20, 1, 0x4, 0xff03ff, 0x0, 0x0⟩,
  ⟨0x24, 2, 0x4, 0x0, 0x0, 0x0⟩,
  ⟨0x2c, 1, 0x4, 0x0, 0x3e000000, 0x0⟩,
  ⟨0x30, 2, 0x4, 0xffffffff, 0x0, 0x0⟩,
  ⟨0x38, 1, 0x4, 0x7ff, 0x0, 0x0⟩,
  ⟨0x40, 5, 0x4, 0x0, 0x0, 0x0⟩]

/-- The registers of the keeper block (Table 20.4). -/
def keepRows : List RegRow := [
  ⟨0x0, 1, 0x4, 0x0, 0x0, 0x0⟩,
  ⟨0x4, 1, 0x4, 0x0, 0x0, 0x0⟩,
  ⟨0x8, 1, 0x4, 0x0, 0x0, 0xffffffff⟩,
  ⟨0xc, 1, 0x4, 0x0, 0x1, 0x0⟩,
  ⟨0x10, 5, 0x4, 0x0, 0x0, 0x0⟩,
  ⟨0x30, 5, 0x4, 0x0, 0x0, 0x0⟩,
  ⟨0x50, 1, 0x4, 0x0, 0x1ffffff, 0x0⟩,
  ⟨0x54, 1, 0x4, 0xffffff, 0x0, 0x1208⟩,
  ⟨0x58, 1, 0x4, 0xffffff, 0x0, 0xa40248⟩,
  ⟨0x5c, 1, 0x4, 0xffffff, 0x0, 0x249269⟩,
  ⟨0x60, 1, 0x4, 0x7, 0x0, 0x1⟩,
  ⟨0x64, 1, 0x4, 0x0, 0x7, 0x0⟩,
  ⟨0x70, 1, 0x4, 0x3f03, 0x0, 0x0⟩,
  ⟨0x74, 1, 0x4, 0x0, 0x0, 0x0⟩,
  ⟨0x78, 2, 0x4, 0x0, 0x0, 0x0⟩,
  ⟨0x80, 1, 0x4, 0x0, 0x0, 0x0⟩,
  ⟨0x84, 2, 0x4, 0x0, 0x0, 0x0⟩,
  ⟨0x90, 1, 0x4, 0x1ffffff, 0x0, 0x136a2cc⟩,
  ⟨0x94, 1, 0x4, 0x0, 0x0, 0x0⟩,
  ⟨0x98, 1, 0x4, 0xffffffff, 0x0, 0x5a507864⟩,
  ⟨0x9c, 1, 0x4, 0x0, 0x2, 0x0⟩,
  ⟨0xa0, 1, 0x4, 0x0, 0x0, 0x0⟩,
  ⟨0xa4, 1, 0x4, 0x0, 0xc, 0xf0⟩,
  ⟨0xa8, 1, 0x4, 0x0, 0x0, 0x0⟩,
  ⟨0xac, 1, 0x4, 0x0, 0xffff0100, 0x0⟩,
  ⟨0xb0, 1, 0x4, 0x1ff, 0x0, 0x118⟩,
  ⟨0xb4, 1, 0x4, 0x0, 0x20000000, 0x0⟩,
  ⟨0xb8, 1, 0x4, 0xffffff, 0x0, 0x2710⟩,
  ⟨0x100, 64, 0x4, 0x0, 0x0, 0x0⟩]

/-- The registers of the tile registers (Table 20.7). -/
def tileRows : List RegRow := [
  ⟨0x0, 1, 0x4, 0x0, 0x0, 0x0⟩,
  ⟨0x4, 2, 0x4, 0x0, 0x0, 0x0⟩,
  ⟨0xc, 1, 0x4, 0x0, 0x0, 0x3e8⟩,
  ⟨0x10, 1, 0x4, 0x0, 0x0, 0xff0000⟩,
  ⟨0x14, 1, 0x4, 0x3, 0x0, 0x0⟩,
  ⟨0x18, 1, 0x4, 0x0, 0x0, 0x0⟩,
  ⟨0x1c, 1, 0x4, 0x0, 0x0, 0x0⟩,
  ⟨0x20, 1, 0x4, 0x0, 0x0, 0x0⟩,
  ⟨0x30, 1, 0x4, 0x0, 0x1ffffff, 0x0⟩,
  ⟨0x34, 1, 0x4, 0xffffff, 0x0, 0x1208⟩,
  ⟨0x38, 1, 0x4, 0xffffff, 0x0, 0xa40248⟩,
  ⟨0x3c, 1, 0x4, 0xffffff, 0x0, 0x249269⟩,
  ⟨0x40, 1, 0x4, 0x7, 0x0, 0x1⟩,
  ⟨0x50, 2, 0x4, 0x0, 0x0, 0x0⟩,
  ⟨0x58, 1, 0x4, 0x0, 0x0, 0x0⟩,
  ⟨0x5c, 1, 0x4, 0x0, 0x0, 0x0⟩,
  ⟨0x60, 1, 0x4, 0x0, 0x0, 0x7⟩,
  ⟨0x70, 1, 0x4, 0x8fff00ff, 0x0, 0x8842005b⟩,
  ⟨0x74, 1, 0x4, 0x0, 0x2, 0x3c00000⟩,
  ⟨0x78, 1, 0x4, 0x0, 0x10, 0x0⟩,
  ⟨0x7c, 1, 0x4, 0x0, 0x0, 0x0⟩,
  ⟨0x80, 1, 0x4, 0xffff, 0x0, 0x64⟩,
  ⟨0x84, 1, 0x4, 0x7f, 0x0, 0x3c⟩,
  ⟨0x88, 1, 0x4, 0xffffff, 0x0, 0x1000⟩,
  ⟨0x8c, 1, 0x4, 0x3f3f, 0x0, 0x100c⟩,
  ⟨0xa0, 8, 0x4, 0x0, 0x0, 0x0⟩,
  ⟨0xc0, 8, 0x4, 0x0, 0x0, 0x0⟩]

/-- The registers of the region block (Table 20.8). -/
def regionRows : List RegRow := [
  ⟨0x0, 1, 0x4, 0x10000, 0x0, 0x10040⟩,
  ⟨0x4, 1, 0x4, 0x0, 0x0, 0x40408c0b⟩,
  ⟨0x8, 1, 0x4, 0x100, 0x0, 0x3⟩,
  ⟨0xc, 1, 0x4, 0x0, 0x0, 0x0⟩,
  ⟨0x10, 1, 0x4, 0x800003ff, 0x40000000, 0x0⟩,
  ⟨0x14, 1, 0x4, 0x0, 0x0, 0x8c00⟩]

/-- The registers of the sub-link block (Table 20.9). -/
def linkRows : List RegRow := [
  ⟨0x0, 1, 0x4, 0x2, 0x0, 0x0⟩,
  ⟨0x4, 1, 0x4, 0x0, 0x1800, 0x0⟩,
  ⟨0x8, 1, 0x4, 0x0, 0x0, 0x0⟩,
  ⟨0xc, 2, 0x4, 0x0, 0x0, 0xffffffff⟩]

/-- The registers of the core page (Table 20.10). -/
def coreRows : List RegRow := [
  ⟨0x0, 1, 0x4, 0x107ff, 0x0, 0x0⟩,
  ⟨0x4, 1, 0x4, 0x0, 0xe000, 0x0⟩,
  ⟨0x8, 1, 0x4, 0xfffff, 0x0, 0x7d0⟩,
  ⟨0xc, 1, 0x4, 0x0, 0x0, 0x0⟩,
  ⟨0x10, 1, 0x4, 0x7ff, 0x0, 0x0⟩,
  ⟨0x14, 1, 0x4, 0xfff, 0x0, 0x0⟩,
  ⟨0x18, 1, 0x4, 0x0, 0x0, 0xf000000⟩,
  ⟨0x20, 1, 0x4, 0x0, 0x1f, 0x0⟩,
  ⟨0x24, 1, 0x4, 0xffffff, 0x0, 0x1000⟩,
  ⟨0x28, 2, 0x4, 0xffffffff, 0x0, 0x0⟩,
  ⟨0x30, 1, 0x4, 0x1ffff, 0x0, 0x7f80⟩,
  ⟨0x34, 4, 0x4, 0x0, 0xffffffff, 0x0⟩,
  ⟨0x48, 1, 0x4, 0x0, 0x1f, 0x0⟩,
  ⟨0x4c, 1, 0x4, 0xffffffff, 0x0, 0x0⟩,
  ⟨0x50, 1, 0x4, 0xfe07ffff, 0x0, 0x0⟩,
  ⟨0x54, 1, 0x4, 0x7ffffff, 0x0, 0x0⟩,
  ⟨0x58, 1, 0x4, 0x0, 0x0, 0x0⟩,
  ⟨0x5c, 1, 0x4, 0x1fffffff, 0x0, 0x0⟩,
  ⟨0x60, 1, 0x4, 0x3f3f, 0x0, 0x0⟩,
  ⟨0x64, 1, 0x4, 0x1fffffff, 0x0, 0x0⟩,
  ⟨0x68, 1, 0x4, 0xffff, 0x0, 0xc8⟩,
  ⟨0x6c, 1, 0x4, 0x0, 0x0, 0x0⟩,
  ⟨0x70, 1, 0x4, 0x0, 0x0, 0x0⟩,
  ⟨0x74, 1, 0x4, 0x0, 0x0, 0x0⟩,
  ⟨0x80, 1, 0x4, 0xfffffff, 0x0, 0x0⟩,
  ⟨0x84, 1, 0x4, 0xffffffff, 0x0, 0x3727c5ac⟩,
  ⟨0x88, 1, 0x4, 0x0, 0x6, 0x0⟩,
  ⟨0x90, 1, 0x4, 0xffff, 0x0, 0x1f4⟩,
  ⟨0x94, 4, 0x4, 0xfe01ffff, 0x0, 0x0⟩,
  ⟨0xa8, 1, 0x4, 0x0, 0x0, 0x0⟩,
  ⟨0xb0, 1, 0x4, 0x0, 0x27, 0x0⟩,
  ⟨0xb4, 1, 0x4, 0x7fc0fff, 0x0, 0x0⟩]

/-- The registers of the host-port block (Table 20.5). -/
def hostRows : List RegRow := [
  ⟨0x0, 64, 0x20, 0xffffffff, 0x0, 0x0⟩,
  ⟨0x4, 64, 0x20, 0xffffffff, 0x0, 0x0⟩,
  ⟨0x8, 64, 0x20, 0xffffffff, 0x0, 0x0⟩,
  ⟨0xc, 64, 0x20, 0xffffffff, 0x0, 0x0⟩,
  ⟨0x10, 64, 0x20, 0x803f0fff, 0x0, 0x0⟩,
  ⟨0x14, 64, 0x20, 0xc7ff0fff, 0x0, 0x0⟩,
  ⟨0x18, 64, 0x20, 0x0, 0xe0000000, 0x0⟩,
  ⟨0x800, 64, 0x4, 0xdfffffff, 0x0, 0x0⟩,
  ⟨0x900, 2, 0x4, 0xffffffff, 0x0, 0x0⟩,
  ⟨0x908, 1, 0x4, 0xfffffff, 0x0, 0x0⟩,
  ⟨0x90c, 1, 0x4, 0x8000003f, 0x0, 0x0⟩]

/-! Where the blocks sit in BAR0 (Table 20.1). -/

/-- Base of tile t's block. -/
def tileB (t : Nat) : Nat := 0x1000000 + t * 0x40000
/-- Base of region r's block of tile t (Table 20.6). -/
def regionB (t r : Nat) : Nat := tileB t + 0x1000 + 0x400 * r
/-- Base of sub-link block j of tile t (Table 20.6). -/
def linkB (t j : Nat) : Nat := tileB t + 0x2000 + 0x100 * j
/-- Base of the core page of core c of tile t (Table 20.6). -/
def coreB (t c : Nat) : Nat := tileB t + 0x20000 + 0x800 * c
/-- Base of host port n's block. -/
def hostB (n : Nat) : Nat := 0x400000 + n * 0x10000
/-- Base of the keeper block. -/
def keeperB : Nat := 0x800000
/-- Base of the global block. -/
def globB : Nat := 0

/-- The blocks of BAR0, with the unit and the offset an address falls on (Tables 20.1 and 20.6). -/
inductive Blk where
  | glob (off : Nat)
  | host (n off : Nat)
  | keep (off : Nat)
  | tile (t off : Nat)
  | region (t r off : Nat)
  | link (t j off : Nat)
  | core (t c off : Nat)
  | none
deriving DecidableEq, Repr

/-- The block an address falls in. -/
def blkOf (a : Nat) : Blk :=
  if a < 0x10000 then .glob a
  else if a < 0x400000 then .none
  else if a < 0x440000 then .host ((a - 0x400000) / 0x10000) (a % 0x10000)
  else if a < 0x800000 then .none
  else if a < 0x810000 then .keep (a - 0x800000)
  else if a < 0x1000000 then .none
  else if a < 0x3400000 then
    let t := (a - 0x1000000) / 0x40000
    let o := (a - 0x1000000) % 0x40000
    if o < 0x1000 then .tile t o
    else if o < 0x2000 then .region t ((o - 0x1000) / 0x400) (o % 0x400)
    else if o < 0x4000 then .link t ((o - 0x2000) / 0x100) (o % 0x100)
    else if o < 0x20000 then .none
    else .core t ((o - 0x20000) / 0x800) ((o - 0x20000) % 0x800)
  else .none

/-- The row a block's offset falls on, and its copy number. -/
def findRow : List RegRow → Nat → Option RegRow
  | [], _ => none
  | r :: rs, o =>
    if r.off ≤ o ∧ (o - r.off) % r.st = 0 ∧ (o - r.off) / r.st < r.n then some r else findRow rs o

/-- Every word of the MSI-X table is RW; word 3 of an entry, its vector control, resets to masked (R488). -/
def msixRow (o : Nat) : RegRow := ⟨o, 1, 4, if o % 16 = 12 then 1 else 0xffffffff, 0, if o % 16 = 12 then 1 else 0⟩

/-- The register at a BAR0 byte address, where one is assigned (R485 to R493). -/
def rowAt (a : Nat) : Option RegRow :=
  match blkOf a with
  | .glob o => findRow globRows o
  | .host _ o => if 0x8000 ≤ o then (if o % 4 = 0 then some (msixRow o) else none) else findRow hostRows o
  | .keep o => findRow keepRows o
  | .tile _ o => findRow tileRows o
  | .region _ _ o => findRow regionRows o
  | .link _ _ o => findRow linkRows o
  | .core _ _ o => findRow coreRows o
  | .none => none

/-- SR_SEED's reset value, 1 + the endpoint address of the core's sequencer (R55), on panel id 0. -/
def seedReset (t c : Nat) : Nat := 1 + (Ep.tileUnit 0 t c 0).addr

/-- RTR_PORT before link training: the edge ports DOWN, outward ports without a ring die TERM, inner ports UP
(Table 8.11). -/
def rtrPortReset (t c : Nat) : Nat :=
  (List.range 4).foldl (fun acc p =>
    acc + (match edgeLink c p with
      | none => 0
      | some _ => (if termPort t p then 3 else 1) * 4 ^ p)) 0

/-- What an unlisted register reads as: its reset value (R11); 0 where no register is assigned (R479). -/
def regReset (a : Nat) : W32 :=
  match blkOf a with
  | .core t c 0x28 => w32 (seedReset t c)
  | .core t c 0xa8 => w32 (rtrPortReset t c)
  | .link t j 0x4 => if termPort t (j / 8) then w32 (11 <<< 28) else 0
  | _ =>
    match rowAt a with
    | some r => w32 r.rst
    | none => 0

/-! Counters (R482, R483). -/

/-- The counter kinds of R483: S saturates, W wraps, and M is ARB_MAXWAIT. -/
inductive CtrKind where
  | s | w | m
deriving DecidableEq, Repr

/-- The kind of the counter in a requester set (R495). -/
def reqSetKind (o : Nat) : CtrKind := if o % 0x20 = 0x10 then .m else .w

/-- The counter whose LO word is at an address, where one is assigned (R486 to R495). -/
def ctrKindAt (a : Nat) : Option CtrKind :=
  if a % 8 ≠ 0 then none
  else match blkOf a with
  | .keep o =>
    if o < 0x800 then none
    else if o ≤ 0x830 then some (if o = 0x808 then .w else .s)
    else if o < 0x4000 then none
    else if o < 0x4000 + 0x400 * 22 then
      let q := (o - 0x4000) % 0x400
      if q ≤ 0x30 then some .s
      else if 0x100 ≤ q ∧ q < 0x300 ∧ q % 0x40 ≤ 0x20 then
        some (if q % 0x40 = 0x8 ∨ q % 0x40 = 0x10 then .w else .s)
      else none
    else if 0xA000 ≤ o ∧ o < 0xA800 ∧ o % 0x20 ≤ 0x10 then some (if o % 0x20 = 0x10 then .w else .s)
    else none
  | .host _ o => if o = 0xA00 ∨ o = 0xA08 then some .s else none
  | .tile _ o => if 0x800 ≤ o ∧ o ≤ 0x830 then some (if o = 0x810 then .w else .s) else none
  | .region _ _ o => if 0x100 ≤ o ∧ o ≤ 0x140 then some (if o = 0x108 then .w else .s) else none
  | .link _ _ o =>
    if 0x80 ≤ o ∧ o ≤ 0xA0 then some (if o = 0x88 ∨ o = 0x90 then .w else .s) else none
  | .core _ _ o =>
    if 0x100 ≤ o ∧ o ≤ 0x1B0 then some (if o = 0x130 ∨ o = 0x138 ∨ o = 0x180 then .w else .s)
    else if 0x1C0 ≤ o ∧ o ≤ 0x1F0 then some .s
    else if 0x200 ≤ o ∧ o < 0x3E0 then (if o % 0x20 = 0x18 then none else some (reqSetKind o))
    else if 0x3E0 ≤ o ∧ o < 0x420 then (if o % 0x20 = 0x18 then none else some (reqSetKind o))
    else if 0x420 ≤ o ∧ o < 0x740 then (if o % 0x20 = 0x18 then none else some (reqSetKind o))
    else none
  | _ => none

/-- A counter: its count, and whether it has saturated or wrapped (Table 20.2). -/
structure Ctr where
  n : Nat
  ovf : Bool
deriving DecidableEq, Repr

/-- A counter's reset value. -/
def Ctr.zero : Ctr := ⟨0, false⟩

/-- A counter after k further events (R483). -/
def Ctr.add (kind : CtrKind) (c : Ctr) (k : Nat) : Ctr :=
  match kind with
  | .s => if c.n + k ≥ 2 ^ 48 - 1 then ⟨2 ^ 48 - 1, true⟩ else ⟨c.n + k, c.ovf⟩
  | .w => if c.n + k ≥ 2 ^ 48 then ⟨(c.n + k) % 2 ^ 48, true⟩ else ⟨c.n + k, c.ovf⟩
  | .m => if k > c.n then (if k ≥ 2 ^ 24 - 1 then ⟨2 ^ 24 - 1, true⟩ else ⟨k, c.ovf⟩) else c

/-- The LO and HI words of a counter (Table 20.2). -/
def Ctr.lo (c : Ctr) : W32 := w32 c.n
/-- The HI word of a counter (Table 20.2). -/
def Ctr.hi (c : Ctr) : W32 := w32 (c.n / 2 ^ 32 % 65536 + (if c.ovf then 2 ^ 31 else 0))

end Sys2Proof.Machine
end

