-- ==== Sys2Proof/Machine/CoreTypes.lean ====
section
/-!
DEFINITION. The state of a Rirum core (R85): sequencer, grid, accumulator memory, scratchpad, Planer, ledger, Larder and DMA
engine, and the state of the DRAM channel above it (R169 to R198).  Registers are held in the register map, not here.
-/
namespace Sys2Proof.Machine

open Sys2Proof

/-- An address stream (R91): base and stride of 19 bits, count of 16 bits, and the uses made since it was at its base. -/
structure Stream where
  base : BitVec 19
  stride : BitVec 19
  count : BitVec 16
  used : Nat
deriving DecidableEq, Repr

/-- A stream after reset (R90). -/
def Stream.zero : Stream := ⟨0, 0, 0, 0⟩

/-- A grid mode entry (Table 4.4, GMODE). -/
structure GMode where
  wf : BitVec 16
  af : BitVec 16
  outf : BitVec 16
  ocm : Bool
  ats : Byte
  ots : Byte
deriving DecidableEq, Repr

/-- An entry after reset: FP4 throughout, no map, tensor scales 0x00 (R90). -/
def GMode.zero : GMode := ⟨0, 0, 0, false, 0, 0⟩

/-- A hardware loop level (R524). -/
structure LoopLvl where
  first : Nat
  last : Nat
  count : Nat
deriving DecidableEq, Repr

/-- The grid weight plane (R60, R64): the mode it was loaded in, whether the load was checked, the words of its load image
as read (R94), the held elements that have changed since (R78) by 128·k + column, and the lane columns whose compare of
R78 has failed and not agreed again. -/
structure Plane where
  wf : BitVec 16
  ocm : Bool
  chk : Bool
  img : List W64
  held : SMap Nat
  failed : List Nat
deriving DecidableEq, Repr

/-- An empty plane: FP4 weights, all zero. -/
def Plane.zero : Plane := ⟨0, false, false, [], [], []⟩

/-- An AccMem entry: the 96-bit two's-complement value and its flags (R60, R70). -/
structure Acc where
  v : BitVec 96
  xlo : Bool
  xhi : Bool
deriving DecidableEq, Repr

/-- A zero entry with both flags clear (R73). -/
def Acc.zero : Acc := ⟨0, false, false⟩

/-- The output tile an anchor group was last opened in (R73, R76): checked form and doubled mode. -/
structure Group where
  anchor : BitVec 10
  chk : Bool
  dbl : Bool
deriving DecidableEq, Repr

/-- A group that no OPEN has covered since reset: anchor 0 (R73). -/
def Group.zero : Group := ⟨0, false, false⟩

/-- What an AccMem entry held before a recent vector: the cycle the vector entered, the entry's key and its value then.  A
readout includes only the vectors that entered at least 6 cycles before it (R66). -/
structure AccHist where
  cycle : Nat
  key : Nat
  acc : Acc
deriving DecidableEq, Repr

/-- A row that a readout delivers to the Planer (R149): the schedule cycle that the operation taking it issues at, and the
values it delivers. -/
structure GridRow where
  cycle : Nat
  vals : List Q
deriving DecidableEq, Repr

/-- A scheduled write not yet in its bank: the schedule cycle it takes effect in, the port that makes it, whether it is a word
of a readout row, its word and its data (R130, R522). -/
structure PendW where
  cycle : Nat
  port : Nat
  row : Bool
  addr : Nat
  data : W64
deriving DecidableEq, Repr

/-- A scheduled read that a port makes in a cycle after the issue of its operation (R130, R148, Table 5.1). -/
structure Access where
  cycle : Nat
  port : Nat
  addr : Nat
deriving DecidableEq, Repr

/-- A weight load with reads still to make: the first schedule cycle of the next, its word address, and the words left
(R94). -/
structure LoadJob where
  next : Nat
  addr : Nat
  left : Nat
deriving DecidableEq, Repr

/-- A scheduled register write of SRD: its cycle, the register and the value (R130). -/
structure PendR where
  cycle : Nat
  reg : Nat
  v : W32
deriving DecidableEq, Repr

/-- An arbiter of R235: each requester's priority step and current run of losses, and the rotating pointer. -/
structure Arb where
  prio : SMap Nat
  run : SMap Nat
  flagged : List Nat
  ptr : Nat
deriving DecidableEq, Repr

/-- An arbiter at reset (R235). -/
def Arb.zero : Arb := ⟨[], [], [], 0⟩

/-- A scrub buffer's entry: the word and its corrected codeword (R132). -/
structure Scrub where
  addr : Nat
  cw : W76
deriving DecidableEq, Repr

/-- A packet that a descriptor has sent (R110, R520): the piece it carries, the endpoint its sender field names and its
transfer tag, whether it is a READ whose data are still to be relayed, and whether it has been delivered or has failed. -/
structure Xfer where
  piece : Nat
  src : Nat
  tag : Nat
  relay : Bool
  done : Bool
  failed : Bool
deriving DecidableEq, Repr

/-- A piece of a descriptor's transfer, one packet, in the descriptor's own order (R110): the source and destination byte
offsets, the destination endpoint, and the bytes. -/
structure Piece where
  src : Nat
  dst : Nat
  ep : Nat
  bytes : Nat
deriving DecidableEq, Repr

/-- A DMA descriptor in progress (R106 to R112): a number that names it, its scratchpad word address, its eight words, whether
its pieces have been planned and the status that the planning ends them with, the pieces and how many have been sent, the
packets sent, the first failure in time (0 for none), whether its data rest on its own channel's queue, whether its word 0
could not be read (R523), and for DISPATCH the rows sent by entry, the overflow entries used, the entry of each piece, and
the entries whose notices have been sent. -/
structure Desc where
  id : Nat
  addr : Nat
  words : List W64
  planned : Bool
  endSt : Nat
  pieces : List Piece
  next : Nat
  xfers : List Xfer
  status : Nat
  noWord0 : Bool
  counts : List Nat
  ovfUsed : Nat
  entryOf : List Nat
  notices : List Nat
deriving DecidableEq, Repr

/-- The Larder's state besides its registers (R139 to R144): slots placed in scratchpad and in the spill ring since
enabling, slots refilled, releases, credits posted minus arrivals accepted, slots being written, and the timer in µs. -/
structure LarderSt where
  placed : Nat
  spilled : Nat
  refilled : Nat
  posted : Nat
  accepted : Nat
  writing : Nat
  timer : Nat
deriving DecidableEq, Repr

/-- The Larder at reset. -/
def LarderSt.zero : LarderSt := ⟨0, 0, 0, 0, 0, 0, 0⟩

/-- The sequencer's state besides its registers. -/
structure Seq where
  /-- s1 to s15 by number; unlisted ones hold 0 (R90). -/
  sregs : SMap W32
  /-- The 64 token counters; unlisted ones hold their reset values (R99). -/
  tokens : SMap Nat
  /-- BULK byte counters of the tokens (R228). -/
  bulk : SMap Nat
  /-- AS0 to AS7. -/
  streams : SMap Stream
  /-- GMODE0 to GMODE7. -/
  gmodes : SMap GMode
  /-- The loop levels, innermost first (R524). -/
  loops : List LoopLvl
  /-- The program store: 2,048 bundles (R87). -/
  prog : SMap (BitVec 256)
  /-- Bundles whose parity fails at use (R386). -/
  badPar : List Nat
  /-- Traps pending, by code of Table 4.11; the ABFT trap is SEQ_STATUS.abft_cond itself. -/
  traps : List Nat
  /-- Schedule cycles since launch, and the cycle the current bundle is due in (R95, R97). -/
  cycle : Nat
  due : Nat
  /-- The bank accesses of the due bundle already granted (R126). -/
  granted : List (Nat × Nat)
  /-- Microseconds since a bundle issued, while the watchdog counts (R117). -/
  wdog : Nat
  /-- Scheduled writes and register writes still in the front (R130). -/
  pw : List PendW
  pr : List PendR
  /-- Scheduled reads of operations already issued. -/
  acc : List Access
  /-- Whether the next output tile opened is checked, and the tiles opened since the policy changed (R81, R104). -/
  chkDue : Bool
  tiles : Nat
  /-- The checked form of the last tile opened, where one has been opened (R104). -/
  lastChk : Option Bool
  /-- When the sequencer was last started and when it halted, in ns of the tile's replica (R421). -/
  launched : Nat
  haltAt : Option Nat
deriving DecidableEq, Repr

/-- The grid's state besides its registers. -/
structure Grid where
  active : Plane
  shadow : Plane
  /-- The load in progress (R94). -/
  load : Option LoadJob
  acc : SMap Acc
  groups : SMap Group
  hist : List AccHist
  rows : List GridRow
  /-- The cycle of the last write of the latest READ with dest 0 (R522). -/
  rdLast : Nat
deriving DecidableEq, Repr

/-- The Planer's state besides its registers. -/
structure Planer where
  ledger : SMap W64
  /-- The scale assembly word's bytes, in order (R152). -/
  asm : List Nat
  /-- The first cycle at which a PLN operation may issue (R148). -/
  freeAt : Nat
  /-- The cycle at which the latest operation leaves the pipeline (R157). -/
  busyTo : Nat
deriving DecidableEq, Repr

/-- A core's units 0 to 5 without their registers (R366), with the bank arbiters and scrub buffers. -/
structure Core where
  seq : Seq
  grid : Grid
  pln : Planer
  spad : SMap W76
  scrub : SMap (Option Scrub)
  banks : SMap Arb
  dmaq : List Nat
  descs : List Desc
  nextXfer : Nat
  nextDesc : Nat
  larder : LarderSt
  lfsr : Option W64
  /-- A compute reset is in progress (R370). -/
  resetting : Bool
deriving DecidableEq, Repr

/-- A sequencer at reset (R90, R99). -/
def Seq.zero : Seq :=
  ⟨[], [], [], [], [], [], [], [], [], 0, 0, [], 0, [], [], [], false, 0, none, 0, none⟩
/-- A grid at reset (R73). -/
def Grid.zero : Grid := ⟨.zero, .zero, none, [], [], [], [], 0⟩
/-- A Planer at reset (R156). -/
def Planer.zero : Planer := ⟨[], [], 0, 0⟩
/-- A core at reset. -/
def Core.zero : Core :=
  ⟨.zero, .zero, .zero, [], [], [], [], [], 0, 0, .zero, none, false⟩

/-- What an unlisted token counter holds: 16 for token 62, 0 for the others (R99). -/
def tokReset (k : Nat) : Nat := if k = 62 then 16 else 0
/-- What an unlisted ledger row holds: an empty row (R156). -/
def ledgerReset (_ : Nat) : W64 := 0x8000FFFF00000000
/-- What an unlisted scratchpad word holds: zero with valid check symbols (R136). -/
def spadReset (_ : Nat) : W76 := 0

/-! The DRAM channel. -/

/-- What a channel request is for: piece k of descriptor id of the core's own DMA engine, or wide row k of the packet with
flight number id (R173). -/
inductive DTag where
  | desc (id k : Nat)
  | pkt (id k : Nat)
deriving DecidableEq, Repr

/-- A request queued at a channel (R173): its requester, its place in the order of arrival at the controller (R174), the
channel byte offset of its wide row, the data of a write, and what it is for. -/
structure DReq where
  q : Nat
  arr : Nat
  off : Nat
  wdata : Option (BitVec 512)
  tag : DTag
deriving DecidableEq, Repr

/-- A read that has started: the request, and the coded wide row sensed (R175). -/
structure DRead where
  req : DReq
  raw : BitVec 528
deriving DecidableEq, Repr

/-- A scrub-queue entry (R184). -/
structure DScrub where
  row : Nat
  cw : BitVec 528
deriving DecidableEq, Repr

/-- A remap of an array row to a spare (R196): bank, row and spare, and whether DRAM_RETIRE made it. -/
structure Remap where
  bank : Nat
  row : Nat
  spare : Nat
  retired : Bool
deriving DecidableEq, Repr

/-- A DRAM channel (R169): coded wide rows by bank·98,560 + array row·32 + wide row (array rows 3,072 to 3,079 are the
spares), the request queues in order of arrival, reads under way, the scrub queue, remaps, refresh pointers by bank,
maintenance slots passed by bank, the channel slot number, starts in the present group of 16 slots, whether the power-up
zeroing has completed, a retirement in progress and the spare wide rows it has zeroed, the arbiter, and data read for
requesters (none where it was uncorrectable), and how many requests have arrived. -/
structure Chan where
  cells : SMap (BitVec 528)
  q0 : List DReq
  q1 : List DReq
  reads : List DRead
  scrub : List DScrub
  remaps : List Remap
  refresh : SMap Nat
  maint : SMap Nat
  slot : Nat
  starts : Nat
  inited : Bool
  retire : Option Remap
  arb : Arb
  got : List (DTag × Option (BitVec 512))
  arrived : Nat
deriving DecidableEq, Repr

/-- A channel at reset: nothing stored, its zeroing not made (R193). -/
def Chan.zero : Chan := ⟨[], [], [], [], [], [], [], [], 0, 0, false, none, .zero, [], 0⟩

end Sys2Proof.Machine
end

