-- ==== Sys2Proof/Machine/NetTypes.lean ====
section
/-!
DEFINITION. The state of the mesh: flits, packets in flight and router tables (R201 to R233).
-/
namespace Sys2Proof.Machine

open Sys2Proof

/-- A flit with the part of its envelope that travels (R201): its eight words with their check symbols, class, head and
tail marks.  The context is assigned where the flit crosses a sub-link (R202). -/
structure Flit where
  words : List W76
  cls : Nat
  head : Bool
  tail : Bool
deriving DecidableEq, Repr

/-- How far a packet in flight has come (R209, R210): its head waits at a router's input; it waits at its destination
router for an ejection buffer or its unit; it has been committed and waits for its effect; it has come in from
Yelkor and waits to be stamped (R457). -/
inductive Stage where
  | transit
  | dest
  | committed
  | yelkor
deriving DecidableEq, Repr

/-- A packet in flight: its number, its flits (the header first), the router its head is at, the input port it came by
(0 N, 1 E, 2 S, 3 W, 4 LOCAL or injected, 5 from Yelkor, 6 + k sub-link k of a ring die), how far it has come, when it was injected
or came in (µs), and for a packet from another panel what its window said when its head reached the destination: the status
to refuse it with, or 0, and the window's base (R460, R462). -/
structure Flight where
  id : Nat
  flits : List Flit
  loc : Nat
  inp : Nat
  stage : Stage
  born : Nat
  verdict : Nat
  base : Nat
deriving DecidableEq, Repr

/-- A tile-table or core-table entry (Table 8.9). -/
structure RtEntry where
  prim : Nat
  alt : Nat
  mcm : W64
deriving DecidableEq, Repr

/-- A remote-table entry (Table 8.9). -/
structure RemEntry where
  valid : Bool
  exit : Nat
deriving DecidableEq, Repr

/-- A router's tables and arbiters.  Tables read as R219's dimension-order tables where they hold no entry; `failed` holds
the entries whose parity has failed at use (R386): 0 to 143 tile entries, 144 + c core entries, 208 + i remote entries. -/
structure Router where
  tiles : SMap (Option RtEntry)
  cores : SMap (Option RtEntry)
  remote : SMap RemEntry
  failed : List Nat
  arbs : SMap Arb
  faulted : Bool
  resetting : Bool
deriving DecidableEq, Repr

/-- A router after a panel reset or a router reset (R219). -/
def Router.zero : Router := ⟨[], [], [], [], [], false, false⟩

/-- The number of a router: core c of tile t is 64t + c, ring die d is 9216 + d. -/
def rtrCore (t c : Nat) : Nat := 64 * t + c
/-- The number of a ring die's router. -/
def rtrDie (d : Nat) : Nat := 9216 + d

/-- A request that a unit sent and that awaits its answer (R208): the sender, the transfer tag, the kind, the destination and
offset, and the time it was sent in µs. -/
structure Await where
  src : Nat
  xfer : Nat
  kind : Nat
  dst : Nat
  off : Nat
  sent : Nat
deriving DecidableEq, Repr

/-- One end of a sub-link besides its registers (R244 to R263): the next sequence number, the frames sent and not acknowledged,
how often each has been resent, the seq of a NAK being served, when the acknowledgement last advanced (µs), the seq expected,
whether frames are being discarded until it comes, whether a NAK is due, packets being assembled by 8·class + context, credits
by class, the counts last received and the credits freed by class, the pause received, the frames in the elastic FIFO and whether
outgoing frames carry pause (R248), the partner's CAP, this end's own result
of R254, negotiation restarts, loaded-phase failures, PONGs received and their delays summed, the phase the next PHASE switch
enters, the link message that awaits its response with the time it was sent, the messages sent, receive and transmit spare maps
(position, spare) in force and pending, transmitter taps by 4·position + tap, the retrain in progress (0 none, 1 requested,
2 accepted), whether it has been DOWN since its tables were loaded, whether its margin flag is raised, whether the partner's
spare map has come in this exchange, and when the present training phase began (µs). -/
structure LinkSt where
  seq : Nat
  replay : List (Nat × Flit)
  resent : SMap Nat
  nakAt : Option Nat
  ackAt : Nat
  expect : Nat
  discard : Bool
  nakDue : Bool
  asm : SMap (List Flit)
  cred : SMap Int
  ccnt : SMap Nat
  freed : SMap Nat
  paused : Bool
  fifo : Nat
  pausing : Bool
  cap : Option (BitVec 512)
  own : Option Nat
  restarts : Nat
  loaded : Nat
  pongs : Nat
  delays : Nat
  switchTo : Option Nat
  msg : Option (BitVec 512 × Nat)
  out : List (BitVec 512)
  rxMap : List (Nat × Nat)
  txMap : List (Nat × Nat)
  rxNew : List (Nat × Nat)
  txNew : List (Nat × Nat)
  taps : SMap Int
  retrain : Nat
  avoid : Bool
  low : Bool
  gotSpare : Bool
  since : Nat
deriving DecidableEq, Repr

/-- A sub-link end at reset. -/
def LinkSt.zero : LinkSt :=
  ⟨0, [], [], none, 0, 0, false, false, [], [], [], [], false, 0, false, none, none, 0, 0, 0, 0, none, none, [], [], [], [], [], [], 0,
   false, false, false, 0⟩

/-- A DMA_COPY that a host die's engine has in progress (R442): the command, the endpoints and offsets of the next byte to be
sent for, the bytes left to send for, whether it travels BULK, the pieces awaiting their answers (transfer tag, place in the
copy, bytes), the pieces sent, and the first failure as its place in the copy and its status. -/
structure HJob where
  key : Nat × Nat
  src : Nat
  dst : Nat
  srcOff : Nat
  dstOff : Nat
  len : Nat
  bulk : Bool
  sent : Nat
  opened : List (Nat × Nat × Nat)
  failed : Option (Nat × Nat)
deriving DecidableEq, Repr

/-- An access through an aperture slot that has not yet ended (R425, R426): the unit, the offset and number of bytes, the data of a
write, whether its packets have been sent, their transfer tags, what has come back by tag, and whether one has failed. -/
structure HAper where
  ep : Nat
  off : Nat
  len : Nat
  data : Option (List Byte)
  sent : Bool
  tags : List Nat
  got : List (Nat × List Byte)
  failed : Bool
deriving DecidableEq, Repr

/-- A ring die's state besides its registers: whether its rails are up and its router domain runs (R269), the epoch it has
adopted (R405), its DMA engine's MC_ALIAS registers (R224), the relays that engine has under way (transfer tag, destination,
offset and class of the WRITE that each RDATA goes on as, R520), its next transfer tag, on a host die the copies in progress
and the aperture accesses that have not ended, in order, and on a fabric die the peer its trunk is fixed to (ident and ring die,
R451). -/
structure DieSt where
  rails : Bool
  pll : Bool
  epoch : Nat
  mcAlias : SMap W32
  relays : List (Nat × Nat × Nat × Nat)
  nextXfer : Nat
  jobs : List HJob
  apers : List HAper
  peer : Option (Nat × Nat)
deriving DecidableEq, Repr

/-- A ring die at reset. -/
def DieSt.zero : DieSt := ⟨false, false, 0, [], [], 0, [], [], none⟩

/-- A management message on its way (MSG of class MGMT, R205): its type byte, sender and receiver (a tile's index, or
144 + the ring die's number), and its fields in the order of its payload's table. -/
structure Msg where
  kind : Nat
  src : Nat
  dst : Nat
  body : List Nat
deriving DecidableEq, Repr

/-- A fault collector's state besides FC_STICKY and FC_REACT (R388): the reactions as taken, PANEL_RESET bits as taken, the
note count and the bits to renew. -/
structure Coll where
  act : Nat
  prst : Nat
  seq : Nat
  renew : Nat
deriving DecidableEq, Repr

/-- A collector at reset. -/
def Coll.zero : Coll := ⟨0, 0, 0, 0⟩

/-- A tile's health record besides HEALTH (R409, R410): when each source and unit last lowered the score (time + 1, by
source·4096 + unit), events by source in the present second, and when a weighted event last lowered the score. -/
structure HealthSt where
  last : SMap Nat
  busy : SMap Nat
  since : Nat
deriving DecidableEq, Repr

/-- A health record at reset. -/
def HealthSt.zero : HealthSt := ⟨[], [], 0⟩

end Sys2Proof.Machine
end

