-- ==== Sys2Proof/Machine/HostTypes.lean ====
section
/-!
DEFINITION. The state of the host attachment (R423 to R444): host memory, queues, commands in flight and what the panel has
sent to the host.
-/
namespace Sys2Proof.Machine

open Sys2Proof

/-- A command that Ranger has taken (R431): its port, SQ, tag and descriptor, when it was taken (µs), whether Ranger has started
it, the parts of its work it still waits for, the first status other than OK that a part ended with, its result so far, and
whether its completion is to be discarded (R369). -/
structure Cmd where
  port : Nat
  sq : Nat
  tag : Nat
  desc : BitVec 512
  taken : Nat
  started : Bool
  waits : List Nat
  st : Nat
  res : List Byte
  mute : Bool
deriving DecidableEq, Repr

/-- The host's side of the four ports: memory by port·2^64 + bus address, the doorbell values by 64·port + q, CQ phases, the
arbiter of R431, commands in flight in order of taking, MSI-X vectors sent (port, vector), whether each port's link is up (R347,
R369), bytes returned to aperture reads (port, bytes) and SPDM responses sent (port, message). -/
structure HostSt where
  mem : SMap Byte
  sqTail : SMap Nat
  cqHead : SMap Nat
  phase : SMap Bool
  arb : Arb
  cmds : List Cmd
  msix : List (Nat × Nat)
  up : SMap Bool
  out : List (Nat × List Byte)
  doe : List (Nat × List Byte)
deriving DecidableEq, Repr

/-- The host attachment at reset: host memory that nothing has written reads 0. -/
def HostSt.zero : HostSt := ⟨[], [], [], [], .zero, [], [], [], [], []⟩

end Sys2Proof.Machine
end

