-- ==== Sys2Proof/Machine/TileTypes.lean ====
section
/-!
DEFINITION. The state of a tile's Warden and of its regions besides their registers (chapters 10 to 12).
-/
namespace Sys2Proof.Machine

open Sys2Proof

/-- A remote-access window (R459): its endpoint's core and unit, base and length, key tag, permissions and expiry epoch. -/
structure Win where
  core : Nat
  unit : Nat
  base : Nat
  len : Nat
  key : Nat
  perm : Nat
  expiry : Nat
deriving DecidableEq, Repr

/-- A block asked to PREPARE (R319, R320): the core, the unit, whether it has accepted, whether it is being asked, and when a
block that delayed is asked again (µs). -/
structure HsAnswer where
  core : Nat
  unit : Nat
  accepted : Bool
  asked : Bool
  again : Nat
deriving DecidableEq, Repr

/-- A handshake in progress (R319 to R323): its target state, when its first PREPARE was sent (µs), and the blocks asked. -/
structure Hs where
  target : Nat
  start : Nat
  answers : List HsAnswer
deriving DecidableEq, Repr

/-- A voltage and frequency transition (R305, R306): the newest target code, the step in progress (0 VSRAM settling, 1 VCORE
settling, 2 trim settling, 3 locking, 4 gliding), and the CLOCK_SET that asked for it. -/
structure Vf where
  code : Nat
  step : Nat
  cmd : Option (Nat × Nat)
deriving DecidableEq, Repr

/-- A region's power-up (R308 to R310): µs of holds so far, and whether it has forced its neighbours. -/
structure PowerUp where
  holds : Nat
  forced : Bool
deriving DecidableEq, Repr

/-- A region's state besides its registers: its handshake, the target of an entry that has been committed and whose switches
have not yet opened (R321), its power-up, the commands that wait for its state, whether a compute reset is owed on entering
RUN (R372), its own set voltage in mV, its transition, its budget cap (R336), monitor windows without a low report (R273),
its droop level (R274), and whether it is in a run of predictions at the limit (R331). -/
structure RegionSt where
  hs : Option Hs
  commit : Option Nat
  up : Option PowerUp
  cmds : List (Nat × Nat)
  resetOwed : Bool
  vr : Nat
  vf : Option Vf
  bcap : Nat
  calm : Nat
  droop : Nat
  predRun : Bool
deriving DecidableEq, Repr

/-- A region at reset. -/
def RegionSt.zero : RegionSt := ⟨none, none, none, [], false, 0, none, 140, 0, 0, false⟩

/-- A tile's state besides its registers: whether VLINK is in regulation and its record is held (R299, R358), whether its router
domain runs (R269), whether VCORE, the last rail, is in regulation; its open windows (R459); VCORE and VSRAM in mV (R301,
R304); its power-up queue of regions (R308); whether it counts as
role 0b11 or 0b10 or is a reserve is in TILE_STS; its thermal coefficients, g of sensor i and region r at 4i + r and h of sensor
i at 96 + i (R328), the one-step predictions of the last sample and its scaled regressors (R329), the coolant temperature and keeper cap of the last BUDGET
message, the draws of the last 10 samples (R334), REPORT count, when a BUDGET message last came (µs), whether DRAM cap level 3 is
held (R188), image checks still to be made and whether the ROUTES step has passed it (R362). -/
structure TileSt where
  rails : Bool
  pll : Bool
  vcoreOn : Bool
  wins : SMap (Option Win)
  vcore : Nat
  vsram : Nat
  upq : List Nat
  coef : List Q
  pred : List Q
  reg : List Q
  tc : Nat
  kcap : Nat
  draws : List Nat
  seq : Nat
  lastBudget : Nat
  tripHeld : Bool
  imgWait : List Nat
  routed : Bool
deriving DecidableEq, Repr

/-- A tile at reset: unpowered. -/
def TileSt.zero : TileSt :=
  ⟨false, false, false, [], 0, 0, [], [], [], [], 0, 140, [], 0, 0, false, [], false⟩

/-- A copy of panel time (R280, R284): its value in units of 10^-9/16 ns (modulo 2^64 ns), the 1/16 ns still to be slewed,
and when (µs) it last accepted a TIME message or a YTIME message. -/
structure Ptc where
  val : Nat
  slew : Int
  last : Nat
deriving DecidableEq, Repr

/-- The unit of a copy's value: 1/16 ns is 10^9 of them. -/
def ptcNs : Nat := 16 * 10 ^ 9
/-- The value after which a copy wraps. -/
def ptcMod : Nat := 2 ^ 64 * ptcNs
/-- A copy's value rounded to the nearest ns (R280). -/
def Ptc.ns (c : Ptc) : Nat := (c.val + ptcNs / 2) / ptcNs % 2 ^ 64

end Sys2Proof.Machine
end

