-- ==== Sys2Proof/Machine/KeepTypes.lean ====
section
/-!
DEFINITION. The state of the keeper besides its registers: Lookout, budgets, bring-up and membership (chapters 11 to 16).
-/
namespace Sys2Proof.Machine

open Sys2Proof

/-- A tile's last REPORT as the keeper holds it (R334): when it came (µs), the state, the mean draw and the demand in W; before
the first REPORT of a tile that has been powered, when its rails rose, with the state 2 (R407). -/
structure Report where
  at_ : Nat
  state : Nat
  used : Nat
  demand : Nat
deriving DecidableEq, Repr

/-- A reading of the tray sensors with the input power at that moment (R339, Table 21.9): when (µs), temperatures in 1/128 °C, flow in
1/64 L/min, and power in mW. -/
structure Tray where
  at_ : Nat
  tin : Int
  tout : Int
  flow : Nat
  power : Nat
deriving DecidableEq, Repr

/-- A membership change (R404 to R406): the tiles it names, the commands that complete when it settles, whether its increment has
been made, and from then on its epoch, when its EPOCH messages were sent (µs), and the nodes that have not acknowledged. -/
structure Change where
  tiles : List Nat
  cmds : List (Nat × Nat)
  made : Bool
  epoch : Nat
  sent : Nat
  waits : List Nat
deriving DecidableEq, Repr

/-- A reserve swap in progress (R417): the reserve, the tile it replaces, the command if one asked for it, whether the
reserve's regions run and its cores check the image, and, until the keeper admits the reserve, the µs of holds (R311). -/
structure Swap where
  r : Nat
  t : Nat
  cmd : Option (Nat × Nat)
  checking : Bool
  waited : Option Nat
deriving DecidableEq, Repr

/-- The state that the standby keeper has from the last MIRROR message (R419): epoch, fence maps, TILE_MEMB and HEALTH of tiles
that differ from reset, by register address; the governor's history; the kept notes; the panel collector's registers and
reactions as taken; STEP_STS, PTC_CTL and the rate; the keeper's counters; and the tags of commands in flight. -/
structure Mirror where
  regs : List (Nat × W32)
  expels : List (Nat × Nat)
  notes : SMap (Option (List Nat))
  act : Nat
  prst : Nat
  ctrs : List (Nat × Nat × Bool)
  tags : List (Nat × Nat)
deriving DecidableEq, Repr

/-- What a keeper holds of trust (R466 to R474): whether its DeviceID key exists, the digest of the signed header of the image it
runs, that image's SVN and the index of the key hash that verified it, and whether its alias key exists. -/
structure TrustKeeper where
  devid : Bool
  header : Option (List Byte)
  svn : Nat
  khash : Nat
  akey : Bool
deriving DecidableEq, Repr

/-- A keeper that has just left reset. -/
def TrustKeeper.zero : TrustKeeper := ⟨false, none, 0, 0, false⟩

/-- A request queued for a signature (R475): for an ATTEST its command, or for an SPDM request its port; the message to sign, what
precedes the signature in the answer and what follows it, and where in host memory an ATTEST's report goes. -/
structure SignReq where
  cmd : Option (Nat × Nat)
  port : Nat
  msg : List Byte
  pre : List Byte
  post : List Byte
  host : Nat
deriving DecidableEq, Repr

/-- A requester's SPDM connection on a port (R477): how far negotiation has come (0 none, 1 version, 2 capabilities, 3
algorithms), whether it negotiated the extended algorithm; the bytes exchanged by the first three requests, by those for digests and
certificates, and by those for measurements; the message and the place of a chunked transfer in either direction. -/
structure Spdm where
  stage : Nat
  ext : Bool
  vca : List Byte
  certs : List Byte
  mlog : List Byte
  inbound : List Byte
  inSeq : Nat
  outbound : List Byte
  outSeq : Nat
deriving DecidableEq, Repr

/-- No connection. -/
def Spdm.zero : Spdm := ⟨0, false, [], [], [], [], 0, [], 0⟩

/-- What a Yelkor port has heard of the root (R453): the root's ident, the hops to it offered, and when (µs). -/
structure RootInfo where
  ident : Nat
  hops : Nat
  at_ : Nat
deriving DecidableEq, Repr

/-- The panel's part in the fabric (R450 to R464): what each port has heard of a root, the root adopted and its port, the ids
claimed at this panel as root (ident, id), requests forwarded whose answers return (ident, port; port 64 for this panel), the
discovery in progress (its command and ports), when each port last came up (µs), the time hops of the last YTIME accepted and when
it came (µs), the offset it gave, port delays (ps), PONGs received and their delays summed, the ports whose HELLO
negotiated time sync, and the cages whose supply has been removed (R502). -/
structure FabSt where
  heard : SMap (Option RootInfo)
  root : Nat
  parent : Option Nat
  claims : List (Nat × Nat)
  paths : List (Nat × Nat)
  disc : Option ((Nat × Nat) × List Nat)
  since : SMap Nat
  thops : Nat
  ytAt : Nat
  ytOff : Int
  delay : SMap (Option Nat)
  pongs : SMap (Nat × Nat)
  tsync : SMap Bool
  cages : List Nat
deriving DecidableEq, Repr

/-- The fabric's state at reset. -/
def FabSt.zero : FabSt := ⟨[], 0, none, [], [], none, [], 255, 0, 0, [], [], [], []⟩

/-- The I3C_BMC target (R511): its dynamic address, whether in-band interrupts are enabled, the ALERT_STS bits that have raised
one, and how many have been raised. -/
structure Bmc where
  addr : Option Nat
  ibi : Bool
  raised : Nat
  count : Nat
deriving DecidableEq, Repr

/-- The target after power-on. -/
def Bmc.zero : Bmc := ⟨none, false, 0, 0⟩

/-- A running boot step (R348, R349): the status it will complete with, the states the keepers then take, and the command
that performs it, if one does. -/
structure Boot where
  st : Nat
  a : Nat
  b : Nat
  cmd : Option (Nat × Nat)
deriving DecidableEq, Repr

/-- The keeper's own state: whether the ring rails are up (R344); the tiles to be powered, the first of them in progress, and its µs
of holds (R311); since when each feed has been in a carrying range, since when GOOD, and whether a feed has been sampled since
the panel was OFF (R294, R344); failed converters by segment (R297); last reports; BUDGET and TIME counts; the keeper cap of the cooling
watch, the tenths of the panel budget taken off, and whether both feeds are LOST (R296, R341); tray readings, newest first, failed reads in a row, when a warning condition
and a throttle condition last held (R340, R341); the boot step running; the core image's length and SHA-256, once an IMAGE step
has completed since the last panel reset (R370); whether the first ready serving tile has moved the panel to SERVE (R317); the
launch set and its bundle, and the step to be started once its resets have ended (R414, R415); expulsions (µs, stand) and held candidates
(R412); membership changes waiting and settling, and when the last increment was made (R404, R405); the reserve swaps in
progress; the words of the Tally records in force by 620·tile + word (R353);
kept notes (R389); what the standby has mirrored, and when the active keeper's heartbeat last came by mesh and by skid; the sub-links
held DOWN to cut a former keeper off (R420); when the last PPS_IN edge came (µs) (R288); the
value that TIME_SYNC has given for PTC start (R281); the tile and slot whose field record is being programmed (R357); trust (R466 to R477);
the measurement registers; the signing queue; the fabric; the BMC's target; and legacy
drains (cores covered, when each began, the commands that wait). -/
structure KeepSt where
  ring : Bool
  queue : List Nat
  holds : Nat
  goodA : Option Nat
  goodB : Option Nat
  fineA : Option Nat
  fineB : Option Nat
  sampled : Bool
  ibc : SMap Nat
  reports : SMap (Option Report)
  budgetSeq : Nat
  timeSeq : Nat
  kcap : Nat
  lowered : Nat
  dark : Bool
  tray : List Tray
  fails : Nat
  warned : Option Nat
  throttled : Option Nat
  boot : Option Boot
  img : Option (Nat × List Byte)
  served : Bool
  launch : List Nat
  launchPc : Nat
  replay : Option Nat
  expels : List (Nat × Nat)
  held : List Nat
  changes : List Change
  lastInc : Option Nat
  swaps : List Swap
  applied : SMap W64
  notes : SMap (Option (List Nat))
  mirror : Option Mirror
  beatMesh : Nat
  beatSkid : Nat
  cut : Option Nat
  ppsAt : Nat
  ptcInit : Option Nat
  burn : Option (Nat × Nat)
  trustA : TrustKeeper
  trustB : TrustKeeper
  meas : SMap (List Byte)
  incomplete : Bool
  signs : List SignReq
  spdm : SMap Spdm
  fab : FabSt
  bmc : Bmc
  drains : List (List Nat × Nat × List (Nat × Nat))
deriving DecidableEq, Repr

/-- The keeper at reset. -/
def KeepSt.zero : KeepSt :=
  { ring := false, queue := [], holds := 0, goodA := none, goodB := none, fineA := none, fineB := none, sampled := false,
    ibc := [], reports := [], budgetSeq := 0, timeSeq := 0, kcap := 140, lowered := 0, dark := false, tray := [], fails := 0,
    warned := none, throttled := none, boot := none, img := none, served := false, launch := [], launchPc := 0,
    replay := none, expels := [], held := [], changes := [], lastInc := none, swaps := [], applied := [], notes := [], mirror := none,
    beatMesh := 0, beatSkid := 0, cut := none, ppsAt := 0, ptcInit := none, burn := none, trustA := .zero, trustB := .zero, meas := [],
    incomplete := false, signs := [], spdm := [], fab := .zero, bmc := .zero, drains := [] }

end Sys2Proof.Machine
end

