-- ==== Sys2Proof/Machine/State.lean ====
section
/-!
DEFINITION. The state of the panel, the reasons a step can stop, and the state right after reset.
-/
namespace Sys2Proof.Machine

open Sys2Proof

/-- Everything a panel reset clears (R368): all of the panel but the Tally fuses and the queue of waiting commands. -/
structure Panel where
  /-- Every register, by BAR0 byte address (R478); an unlisted one holds its reset value (regReset). -/
  regs : SMap W32
  /-- Every counter, by the BAR0 address of its LO word (R482). -/
  ctrs : SMap Ctr
  /-- HI halves latched for an accessor by a read of LO (R481): by accessor and HI address. -/
  latches : List (Nat × Nat × W32)
  /-- Microseconds of the keeper's time base since power-up. -/
  now : Nat
  /-- The model's own: how many free values have been taken. -/
  free : Nat
  /-- The cores, by 64t + c. -/
  cores : SMap Core
  /-- The DRAM channels, by 64t + c. -/
  chans : SMap Chan
  /-- Tiles, by tile index. -/
  tiles : SMap TileSt
  /-- Regions, by 4t + r. -/
  regions : SMap RegionSt
  /-- Sub-link ends, by linkKey. -/
  links : SMap LinkSt
  /-- Copies of panel time that run: of tiles 0 to 143, and of ring die d at 144 + d (R280). -/
  ptcs : SMap (Option Ptc)
  /-- Packets in flight, in order of injection. -/
  flights : List Flight
  nextFlight : Nat
  /-- Routers by number (rtrCore, rtrDie). -/
  routers : SMap Router
  /-- Requests awaiting their answers (R208). -/
  awaits : List Await
  /-- Management messages on their way. -/
  msgs : List Msg
  /-- Fault collectors: tiles 0 to 143, and 144 for the panel collector. -/
  colls : SMap Coll
  healths : SMap HealthSt
  /-- Cores held in reset as Tally-bad (R400), by 64t + c. -/
  bad : List Nat
  /-- The keeper's own state. -/
  keep : KeepSt
  /-- The host attachment. -/
  host : HostSt
  /-- Ring dies, by number. -/
  dies : SMap DieSt
  /-- PANEL_RESET reactions taken whose rails have not yet been removed (R384, R390). -/
  prst : Bool
deriving DecidableEq, Repr

/-- The panel right after reset. -/
def Panel.zero : Panel := ⟨[], [], [], 0, 0, [], [], [], [], [], [], [], 0, [], [], [], [], [], [], .zero, .zero, [], false⟩

/-- The fuses of the keepers (R351, R466), which survive everything: the Tally's codewords by 89,280·keeper + 620·tile + word; the
device secret; the key hashes and their revocations; the accepted security version of each keeper; the DeviceID certificate and
Tamvel's root certificate before it in the chain. -/
structure Fuses where
  tally : SMap W76
  uds : List Byte
  keyHash : List (List Byte)
  keyRev : BitVec 4
  svnA : Nat
  svnB : Nat
  cert : List Byte
  root : List Byte
deriving DecidableEq, Repr

/-- Fuses that hold nothing. -/
def Fuses.zero : Fuses := ⟨[], [], [], 0, 0, 0, [], []⟩

/-- The machine: the queue of waiting commands, first in first out, the fuses, and the panel. -/
structure State where
  pending : List Instr
  fuses : Fuses
  p : Panel
deriving DecidableEq, Repr

/-- Why a step stops the machine. -/
inductive Fault where
  /-- Raised by FEED_SAMPLE for a feed voltage beyond the absolute maximum rating: beyond it the part may be damaged and
  the spec gives no behaviour (R514).  Safe: the model stops where the hardware may do anything. -/
  | beyondAbsoluteMax
deriving DecidableEq, Repr

/-- Why a command is refused. -/
inductive Refusal where
  /-- Raised by an arm of exec whose command has no meaning yet.  Safe: no claim is made about it. -/
  | notModelled (mnemonic : String)
deriving DecidableEq, Repr

/-- The machine right after reset: no command waiting, fuses that hold nothing, and the panel with nothing powered. -/
def State.reset : State := ⟨[], Fuses.zero, Panel.zero⟩

end Sys2Proof.Machine
end

