-- ==== Sys2Proof/Machine/Ops.lean ====
section
/-!
DEFINITION. The named operations over the panel: registers and their fields, counters, cores and channels, scalar registers,
streams, tokens, and taking a free value.
-/
namespace Sys2Proof.Machine

open Sys2Proof

/-- An operation on the panel as an outcome of the machine. -/
def onPanel (f : Panel → Panel) (s : State) : Host.Outcome State Fault Refusal := .next { s with p := f s.p }

/-- An operation that reads the fuses, as an outcome of the machine. -/
def onFused (f : Fuses → Panel → Panel) (s : State) : Host.Outcome State Fault Refusal := .next { s with p := f s.fuses s.p }

/-- An operation that may burn fuses, as an outcome of the machine. -/
def onFuses (f : Fuses → Panel → Fuses × Panel) (s : State) : Host.Outcome State Fault Refusal :=
  let r := f s.fuses s.p
  .next { s with fuses := r.1, p := r.2 }

/-- The keeper's state updated. -/
def Panel.updKeep (p : Panel) (f : KeepSt → KeepSt) : Panel := { p with keep := f p.keep }
/-- The fabric's state updated. -/
def Panel.updFab (p : Panel) (f : FabSt → FabSt) : Panel := p.updKeep (fun k => { k with fab := f k.fab })

/-! Registers. -/

/-- The register at a BAR0 address. -/
def Panel.rd (p : Panel) (a : Nat) : W32 := sget regReset p.regs a
/-- The panel with a register's value replaced. -/
def Panel.wr (p : Panel) (a : Nat) (v : W32) : Panel := { p with regs := sset regReset p.regs a v }
/-- A field of the register at base + its offset. -/
def Panel.fget (p : Panel) (base : Nat) (f : Fld) : Nat := bits (p.rd (base + f.off)) f.hi f.lo
/-- The panel with a field replaced. -/
def Panel.fset (p : Panel) (base : Nat) (f : Fld) (v : Nat) : Panel :=
  p.wr (base + f.off) (setBits (p.rd (base + f.off)) f.hi f.lo v)
/-- The register with bits ORed in. -/
def Panel.orReg (p : Panel) (a : Nat) (m : W32) : Panel := p.wr a (p.rd a ||| m)

/-- A core-page field. -/
def Panel.cget (p : Panel) (x : Cid) (f : Fld) : Nat := p.fget (coreB x.t x.c) f
/-- A core-page field replaced. -/
def Panel.cset (p : Panel) (x : Cid) (f : Fld) (v : Nat) : Panel := p.fset (coreB x.t x.c) f v
/-- A core-page register. -/
def Panel.crd (p : Panel) (x : Cid) (off : Nat) : W32 := p.rd (coreB x.t x.c + off)
/-- A core-page register replaced. -/
def Panel.cwr (p : Panel) (x : Cid) (off : Nat) (v : W32) : Panel := p.wr (coreB x.t x.c + off) v
/-- A tile field. -/
def Panel.tget (p : Panel) (t : Nat) (f : Fld) : Nat := p.fget (tileB t) f
/-- A tile field replaced. -/
def Panel.tset (p : Panel) (t : Nat) (f : Fld) (v : Nat) : Panel := p.fset (tileB t) f v
/-- A region field. -/
def Panel.rget (p : Panel) (t r : Nat) (f : Fld) : Nat := p.fget (regionB t r) f
/-- A region field replaced. -/
def Panel.rset (p : Panel) (t r : Nat) (f : Fld) (v : Nat) : Panel := p.fset (regionB t r) f v
/-- A sub-link field of a tile. -/
def Panel.lget (p : Panel) (t j : Nat) (f : Fld) : Nat := p.fget (linkB t j) f
/-- A sub-link field of a tile replaced. -/
def Panel.lset (p : Panel) (t j : Nat) (f : Fld) (v : Nat) : Panel := p.fset (linkB t j) f v
/-- A keeper-block field. -/
def Panel.kget (p : Panel) (f : Fld) : Nat := p.fget keeperB f
/-- A keeper-block field replaced. -/
def Panel.kset (p : Panel) (f : Fld) (v : Nat) : Panel := p.fset keeperB f v
/-- A global-block field. -/
def Panel.gget (p : Panel) (f : Fld) : Nat := p.fget globB f
/-- A global-block field replaced. -/
def Panel.gset (p : Panel) (f : Fld) (v : Nat) : Panel := p.fset globB f v
/-- A host-port field. -/
def Panel.hget (p : Panel) (n : Nat) (f : Fld) : Nat := p.fget (hostB n) f
/-- A host-port field replaced. -/
def Panel.hset (p : Panel) (n : Nat) (f : Fld) (v : Nat) : Panel := p.fset (hostB n) f v

/-! Counters (R482, R483). -/

/-- A counter. -/
def Panel.ctr (p : Panel) (a : Nat) : Ctr := sget (fun _ => Ctr.zero) p.ctrs a
/-- The panel after k further events of the counter at a (R483); nothing where no counter is assigned. -/
def Panel.count (p : Panel) (a k : Nat) : Panel :=
  match ctrKindAt a with
  | some kind => { p with ctrs := supd (fun _ => Ctr.zero) p.ctrs a (fun c => c.add kind k) }
  | none => p
/-- A core-page counter counts k. -/
def Panel.ccount (p : Panel) (x : Cid) (off k : Nat) : Panel := p.count (coreB x.t x.c + off) k
/-- A tile counter counts once. -/
def Panel.tcount (p : Panel) (t off : Nat) : Panel := p.count (tileB t + off) 1
/-- A keeper counter counts once. -/
def Panel.kcount (p : Panel) (off : Nat) : Panel := p.count (keeperB + off) 1

/-- A range of registers returned to their reset values. -/
def Panel.clearRegs (p : Panel) (f : Nat → Bool) : Panel := { p with regs := p.regs.filter (fun e => !f e.1) }
/-- A range of counters returned to their reset values (R484). -/
def Panel.clearCtrs (p : Panel) (f : Nat → Bool) : Panel := { p with ctrs := p.ctrs.filter (fun e => !f e.1) }

/-! Maps of units. -/

/-- A core. -/
def Panel.core (p : Panel) (x : Cid) : Core := sget (fun _ => Core.zero) p.cores x.key
/-- A core replaced. -/
def Panel.setCore (p : Panel) (x : Cid) (c : Core) : Panel :=
  { p with cores := sset (fun _ => Core.zero) p.cores x.key c }
/-- A core updated. -/
def Panel.updCore (p : Panel) (x : Cid) (f : Core → Core) : Panel := p.setCore x (f (p.core x))
/-- A core's sequencer updated. -/
def Panel.updSeq (p : Panel) (x : Cid) (f : Seq → Seq) : Panel := p.updCore x (fun c => { c with seq := f c.seq })
/-- A core's grid updated. -/
def Panel.updGrid (p : Panel) (x : Cid) (f : Grid → Grid) : Panel := p.updCore x (fun c => { c with grid := f c.grid })
/-- A core's Planer updated. -/
def Panel.updPln (p : Panel) (x : Cid) (f : Planer → Planer) : Panel := p.updCore x (fun c => { c with pln := f c.pln })
/-- A channel. -/
def Panel.chan (p : Panel) (x : Cid) : Chan := sget (fun _ => Chan.zero) p.chans x.key
/-- A channel replaced. -/
def Panel.setChan (p : Panel) (x : Cid) (c : Chan) : Panel :=
  { p with chans := sset (fun _ => Chan.zero) p.chans x.key c }
/-- A channel updated. -/
def Panel.updChan (p : Panel) (x : Cid) (f : Chan → Chan) : Panel := p.setChan x (f (p.chan x))
/-- A tile. -/
def Panel.tile (p : Panel) (t : Nat) : TileSt := sget (fun _ => TileSt.zero) p.tiles t
/-- A tile updated. -/
def Panel.updTile (p : Panel) (t : Nat) (f : TileSt → TileSt) : Panel :=
  { p with tiles := supd (fun _ => TileSt.zero) p.tiles t f }
/-- A tile's rails are in regulation (R299). -/
def Panel.tilePowered (p : Panel) (t : Nat) : Bool := (p.tile t).rails
/-- A region. -/
def Panel.region (p : Panel) (t r : Nat) : RegionSt := sget (fun _ => RegionSt.zero) p.regions (4 * t + r)
/-- A region updated. -/
def Panel.updRegion (p : Panel) (t r : Nat) (f : RegionSt → RegionSt) : Panel :=
  { p with regions := supd (fun _ => RegionSt.zero) p.regions (4 * t + r) f }
/-- A ring die. -/
def Panel.die (p : Panel) (d : Nat) : DieSt := sget (fun _ => DieSt.zero) p.dies d
/-- A ring die updated. -/
def Panel.updDie (p : Panel) (d : Nat) (f : DieSt → DieSt) : Panel :=
  { p with dies := supd (fun _ => DieSt.zero) p.dies d f }
/-- A window of a tile. -/
def Panel.win (p : Panel) (t i : Nat) : Option Win := sget (fun _ => none) (p.tile t).wins i
/-- A copy of panel time, where it runs. -/
def Panel.ptc (p : Panel) (n : Nat) : Option Ptc := sget (fun _ => none) p.ptcs n
/-- A copy of panel time replaced. -/
def Panel.setPtc (p : Panel) (n : Nat) (c : Option Ptc) : Panel := { p with ptcs := sset (fun _ => none) p.ptcs n c }
/-- A copy's reading in ns; 0 where none runs. -/
def Panel.ptcNs (p : Panel) (n : Nat) : Nat := match p.ptc n with | some c => c.ns | none => 0
/-- A router. -/
def Panel.router (p : Panel) (n : Nat) : Router := sget (fun _ => Router.zero) p.routers n
/-- A router updated. -/
def Panel.updRouter (p : Panel) (n : Nat) (f : Router → Router) : Panel :=
  { p with routers := supd (fun _ => Router.zero) p.routers n f }
/-- A fault collector updated. -/
def Panel.updColl (p : Panel) (n : Nat) (f : Coll → Coll) : Panel :=
  { p with colls := supd (fun _ => Coll.zero) p.colls n f }
/-- A fault collector. -/
def Panel.coll (p : Panel) (n : Nat) : Coll := sget (fun _ => Coll.zero) p.colls n
/-- A tile's health record. -/
def Panel.health (p : Panel) (t : Nat) : HealthSt := sget (fun _ => HealthSt.zero) p.healths t
/-- A tile's health record updated. -/
def Panel.updHealth (p : Panel) (t : Nat) (f : HealthSt → HealthSt) : Panel :=
  { p with healths := supd (fun _ => HealthSt.zero) p.healths t f }

/-- A core by number, with the numbers taken modulo their ranges. -/
def cid (t c : Nat) : Cid := ⟨⟨t % 144, Nat.mod_lt _ (by decide)⟩, ⟨c % 64, Nat.mod_lt _ (by decide)⟩⟩

/-- A step repeated over a list. -/
def Panel.each {α : Type} (p : Panel) (l : List α) (f : Panel → α → Panel) : Panel := l.foldl f p

/-! Identity. -/

/-- The panel's own id (R28, R453), held in YK_FAB_STS.id. -/
def Panel.panelId (p : Panel) : Nat := p.kget R.ykFabSts_id
/-- The endpoint address of unit u of a core. -/
def Panel.unitAddr (p : Panel) (x : Cid) (u : Nat) : Nat := (Ep.tileUnit p.panelId x.t x.c u).addr
/-- The active keeper's node: 144 + its ring die (K-A is die 20, K-B die 21). -/
def Panel.keeperNode (p : Panel) : Nat := if p.gget R.keeperSts_active = 0 then 164 else 165
/-- Where a node's PTC_STS stands, with PTC_RATE 4 bytes on: a tile's in its block, the active keeper's in the keeper block, and those
of the other ring dies, which R292 does not map, beyond BAR0. -/
def Panel.ptcStsAt (p : Panel) (n : Nat) : Nat :=
  if n < 144 then tileB n + R.ptcSts
  else if n = p.keeperNode then keeperB + R.kPtcSts
  else 0x4000000 + 0x2000 * (n - 144) + 0x1058
/-- Where its PTC_RATE stands. -/
def Panel.ptcRateAt (p : Panel) (n : Nat) : Nat :=
  if n < 144 then tileB n + R.ptcRate
  else if n = p.keeperNode then keeperB + R.kPtcRate
  else 0x4000000 + 0x2000 * (n - 144) + 0x105C
/-- The region state of a core: 0 RUN, 1 HOLD, 2 NAP, 3 DARK (Table 12.1). -/
def Panel.regionState (p : Panel) (x : Cid) : Nat := p.rget x.t (regionOf x.c) R.regionState_state
/-- The core is fenced (R400). -/
def Panel.fenced (p : Panel) (x : Cid) : Bool :=
  bit (p.rd (tileB x.t + R.fenceMap + 4 * (x.c.val / 32))) (x.c.val % 32)
/-- The sequencer's state code (Table 4.13): 0 IDLE, 1 RUN, 2 WAIT, 3 HALTED, 4 STOPPED. -/
def Panel.seqState (p : Panel) (x : Cid) : Nat := p.cget x R.seqStatus_state
/-- The sequencer is in RUN or WAIT. -/
def Panel.running (p : Panel) (x : Cid) : Bool := p.seqState x == 1 || p.seqState x == 2
/-- A legacy reset that covers the core is draining, so that it issues nothing and starts no packet (R377). -/
def Panel.draining (p : Panel) (x : Cid) : Bool := p.keep.drains.any (fun d => d.1.contains x.key)
/-- The core's sequencer executes in a region that is in RUN, with no reset in progress: the condition under which a slot of its bundles
acts. -/
def Panel.active (p : Panel) (x : Cid) : Bool :=
  p.running x && p.regionState x == 0 && !(p.core x).resetting && !p.draining x

/-! Scalar registers and streams. -/

/-- A scalar register; s0 reads 0 (R90). -/
def Seq.sreg (q : Seq) (r : Nat) : W32 := if r = 0 then 0 else sget (fun _ => (0 : W32)) q.sregs r
/-- A scalar register written; s0 ignores writes (R90). -/
def Seq.setSreg (q : Seq) (r : Nat) (v : W32) : Seq :=
  if r = 0 then q else { q with sregs := sset (fun _ => (0 : W32)) q.sregs r v }
/-- An address stream. -/
def Seq.stream (q : Seq) (i : Nat) : Stream := sget (fun _ => Stream.zero) q.streams i
/-- The current word address of a stream (R91). -/
def Stream.addr (s : Stream) : Nat := (s.base + BitVec.ofNat 19 s.used * s.stride).toNat
/-- A stream after a use: after count uses it is at its base again; a count of 0 acts as 65,536 (R91). -/
def Stream.next (s : Stream) : Stream :=
  let n := if s.count = 0 then 65536 else s.count.toNat
  { s with used := if s.used + 1 ≥ n then 0 else s.used + 1 }
/-- A stream of the sequencer advanced by a use. -/
def Seq.useStream (q : Seq) (i : Nat) : Seq :=
  { q with streams := supd (fun _ => Stream.zero) q.streams i Stream.next }
/-- A grid mode entry. -/
def Seq.gmode (q : Seq) (i : Nat) : GMode := sget (fun _ => GMode.zero) q.gmodes i

/-! Tokens (R99 to R102). -/

/-- A token counter. -/
def Seq.token (q : Seq) (k : Nat) : Nat := sget tokReset q.tokens k

/-- A trap made pending (R113). -/
def Seq.pend (q : Seq) (code : Nat) : Seq := if q.traps.contains code then q else { q with traps := q.traps ++ [code] }

/-- An amount posted to a token: a counter that would pass 65,535 stays there, sets tok_sat and makes the TOKSAT trap
pending (R102).  A stopped sequencer's counters keep counting arrivals (R115). -/
def Panel.post (p : Panel) (x : Cid) (tok amount : Nat) : Panel :=
  let n := (p.core x).seq.token tok + amount
  if n ≤ 65535 then p.updSeq x (fun q => { q with tokens := sset tokReset q.tokens tok n })
  else
    let p := p.updSeq x (fun q => { q with tokens := sset tokReset q.tokens tok 65535 })
    let p := p.cset x R.seqStatus_tok_sat 1
    if p.running x then p.updSeq x (fun q => q.pend 0x03) else p

/-- An amount consumed from a token. -/
def Panel.consume (p : Panel) (x : Cid) (tok amount : Nat) : Panel :=
  p.updSeq x (fun q => { q with tokens := supd tokReset q.tokens tok (fun n => n - amount) })

/-! Free values. -/

/-- The panel after one free value has been taken. -/
def Panel.tookFree (p : Panel) : Panel := { p with free := p.free + 1 }

/-- A number n / d rounded to the nearest; which way a tie goes is left open, and free. -/
def Panel.nearest (p : Panel) (n : Int) (d : Nat) : Int × Panel :=
  if n % d * 2 = d then (n / d + (Config.freeBelow 2 p.free : Nat), p.tookFree)
  else ((2 * n + d) / (2 * d : Nat), p)

/-- A message sent (R205). -/
def Panel.send (p : Panel) (m : Msg) : Panel := { p with msgs := p.msgs ++ [m] }

/-- The oldest message of a kind from a sender to a receiver. -/
def Panel.findMsg (p : Panel) (kind src dst : Nat) : Option Msg :=
  p.msgs.find? (fun m => m.kind == kind && m.src == src && m.dst == dst)

/-- The panel with that message taken. -/
def Panel.takeMsg (p : Panel) (m : Msg) : Panel := { p with msgs := p.msgs.erase m }

/-- Field i of a message. -/
def Msg.at (m : Msg) (i : Nat) : Nat := m.body.getD i 0

end Sys2Proof.Machine
end

