-- ==== Sys2Proof/Machine/HostIf.lean ====
section
/-!
DEFINITION. The panel's access to host memory and the completion queues: bytes, completion entries, MSI-X and host events
(R427 to R434, R441).
-/
namespace Sys2Proof.Machine

open Sys2Proof

/-- What an unlisted byte of host memory reads as. -/
def hostReset (_ : Nat) : Byte := 0

/-- The key of a bus address behind a port. -/
def hostKey (port a : Nat) : Nat := port * 2 ^ 64 + a % 2 ^ 64

/-- n bytes of host memory behind a port. -/
def Panel.hostRd (p : Panel) (port a n : Nat) : List Byte :=
  (List.range n).map (fun i => sget hostReset p.host.mem (hostKey port (a + i)))

/-- Bytes written to host memory behind a port. -/
def Panel.hostWr (p : Panel) (port a : Nat) (bs : List Byte) : Panel :=
  { p with host := { p.host with mem := ssetList hostReset p.host.mem (hostKey port a) bs } }

/-- The offset of queue q's register in its port's block. -/
def qOff (off q : Nat) : Nat := off + 0x20 * q
/-- A field of queue q. -/
def Panel.qget (p : Panel) (port q : Nat) (f : Fld) : Nat := p.fget (hostB port + 0x20 * q) f
/-- A field of queue q replaced. -/
def Panel.qset (p : Panel) (port q : Nat) (f : Fld) (v : Nat) : Panel := p.fset (hostB port + 0x20 * q) f v
/-- The key of a queue. -/
def qKey (port q : Nat) : Nat := 64 * port + q
/-- Entries of an SQ: size + 1, a size of 0 acting as 1 (Table 17.3). -/
def Panel.sqN (p : Panel) (port q : Nat) : Nat := max (p.qget port q R.sqCfg_size) 1 + 1
/-- Entries of a CQ (Table 17.4). -/
def Panel.cqN (p : Panel) (port q : Nat) : Nat := max (p.qget port q R.cqCfg_size) 1 + 1
/-- An SQ's tail as last rung. -/
def Panel.sqTail (p : Panel) (port q : Nat) : Nat := sget (fun _ => 0) p.host.sqTail (qKey port q)
/-- A CQ's head as last rung. -/
def Panel.cqHead (p : Panel) (port q : Nat) : Nat := sget (fun _ => 0) p.host.cqHead (qKey port q)
/-- A CQ's phase; 1 at first (R428). -/
def Panel.cqPhase (p : Panel) (port q : Nat) : Bool := sget (fun _ => true) p.host.phase (qKey port q)
/-- The base of a CQ's ring. -/
def Panel.cqBase (p : Panel) (port q : Nat) : Nat :=
  (p.rd (hostB port + qOff R.cqBaseLo q)).toNat + 2 ^ 32 * (p.rd (hostB port + qOff R.cqBaseHi q)).toNat
/-- The base of an SQ's ring. -/
def Panel.sqBase (p : Panel) (port q : Nat) : Nat :=
  (p.rd (hostB port + qOff R.sqBaseLo q)).toNat + 2 ^ 32 * (p.rd (hostB port + qOff R.sqBaseHi q)).toNat
/-- Entries of a CQ that the host has not consumed. -/
def Panel.cqUsed (p : Panel) (port q : Nat) : Nat :=
  (p.qget port q R.qSts_cq_tail + p.cqN port q - p.cqHead port q) % p.cqN port q
/-- Entries of a CQ that commands in flight have reserved (R431). -/
def Panel.cqReserved (p : Panel) (port q : Nat) : Nat :=
  (p.host.cmds.filter (fun c => c.port == port && p.qget port c.sq R.sqCfg_cq == q)).length
/-- A CQ has a free entry that no command in flight has reserved (R431). -/
def Panel.cqFree (p : Panel) (port q : Nat) : Bool :=
  decide (p.cqUsed port q + p.cqReserved port q + 1 < p.cqN port q)

/-- An MSI-X vector: sent, or held pending while its table entry is masked (R430, R488). -/
def Panel.msix (p : Panel) (port v : Nat) : Panel :=
  if bit (p.rd (hostB port + 0x8000 + 16 * v + 12)) 0 then
    p.orReg (hostB port + 0x1000 + 4 * (v / 32)) (w32 (2 ^ (v % 32)))
  else { p with host := { p.host with msix := p.host.msix ++ [(port, v)] } }

/-- The membership epoch held by the active keeper (R404). -/
def Panel.epoch (p : Panel) : Nat := bits (p.rd (keeperB + R.epoch)) 15 0

/-- Writes a completion entry to a CQ, inverting the phase when cq_tail wraps to 0, and sends the vector if ien is 1 (R430,
R434). -/
def Panel.cqe (p : Panel) (port q tag status flags opcode sq sqHead : Nat) (result : List Byte) : Panel :=
  let tail := p.qget port q R.qSts_cq_tail
  let ph := p.cqPhase port q
  let entry := toBytes 2 tag ++ toBytes 1 status ++ toBytes 1 (flags + b2n ph) ++ toBytes 2 opcode ++ toBytes 1 sq ++
    toBytes 1 0 ++ toBytes 2 sqHead ++ toBytes 2 p.epoch ++ toBytes 4 0 ++ (result ++ toBytes 16 0).take 16
  let p := p.hostWr port (p.cqBase port q + 32 * tail) entry
  let tail' := (tail + 1) % p.cqN port q
  let p := p.qset port q R.qSts_cq_tail tail'
  let p := if tail' = 0 then
      { p with host := { p.host with phase := sset (fun _ => true) p.host.phase (qKey port q) (!ph) } } else p
  if p.qget port q R.cqCfg_ien = 1 then p.msix port (p.qget port q R.cqCfg_vec) else p

/-- Ranger runs: the KEEPER step has completed since bring-up (R350). -/
def Panel.rangerUp (p : Panel) : Bool := bit (p.rd (globB + R.bootSts)) 1

/-- One port's copy of a host event: written to the CQ of EVT_CFG, or dropped and counted (R441). -/
def hostEventPort (kind : Nat) (result : List Byte) (p : Panel) (port : Nat) : Panel :=
  let cfg := p.rd (hostB port + R.evtCfg)
  if !bit cfg 31 then p
  else
    let q := bits cfg 5 0
    if p.qget port q R.cqCfg_en = 1 ∧ p.cqFree port q then p.cqe port q 0xFFFF 0 2 kind 0xFF 0 result
    else p.count (hostB port + 0xA08) 1

/-- A host event (R441): written for every enabled port; nothing is posted while no Ranger runs. -/
def Panel.hostEvent (p : Panel) (kind : Nat) (result : List Byte) : Panel :=
  if p.rangerUp then p.each (List.range 4) (hostEventPort kind result) else p

/-- The FAULT host event (Table 17.9). -/
def Panel.faultEvent (p : Panel) (coll src : Nat) : Panel :=
  p.hostEvent 1 (toBytes 1 coll ++ toBytes 1 src)

/-- The MEMBERSHIP host event (Table 17.9). -/
def Panel.memberEvent (p : Panel) (t kind : Nat) : Panel :=
  p.hostEvent 2 (toBytes 1 t ++ toBytes 1 kind ++ toBytes 2 (p.tget t R.health_score))

end Sys2Proof.Machine
end

