-- ==== Sys2Proof/Machine/Faults.lean ====
section
/-!
DEFINITION. Fault collectors, their reactions and the health score (R381 to R393, R409, R410), and the start of a core
compute reset (R370), which a reaction may begin.
-/
namespace Sys2Proof.Machine

open Sys2Proof

/-! Compute reset. -/

/-- Offsets of a core page that belong to the compute block (Table 20.10). -/
def computeOff (o : Nat) : Bool :=
  decide (o < 0x100) && !([R.selftestRes, R.coreRetain, R.rtrPort, R.dramStatus, R.dramRetire].contains o)

/-- An address is a compute-block register of the core. -/
def isComputeReg (x : Cid) (a : Nat) : Bool :=
  decide (coreB x.t x.c ≤ a) && decide (a < coreB x.t x.c + 0x800) && computeOff (a - coreB x.t x.c)

/-- Compute-block registers at their reset values; SR_SEED takes 1 + the address of the core's sequencer (R55, R370). -/
def Panel.clearCompute (p : Panel) (x : Cid) : Panel :=
  let p := p.clearRegs (isComputeReg x)
  p.cwr x R.srSeed (w32 (1 + p.unitAddr x 0))

/-- The channel at a compute reset of the core beneath (Table 7.7): requester-0 requests not yet started are discarded. -/
def Panel.chanComputeReset (p : Panel) (x : Cid) : Panel :=
  p.updChan x (fun h => { h with
    q0 := []
    reads := h.reads.filter (fun r => r.req.q != 0)
    got := h.got.filter (fun g => match g.1 with | .desc _ _ => false | .pkt _ _ => true) })

/-- A SELFTEST running on the core reads ABORTED (R398). -/
def Panel.abortSelftest (p : Panel) (x : Cid) : Panel :=
  if p.cget x R.selftestRes_run = 1 then
    (p.cset x R.selftestRes_run 0).cset x R.selftestRes_result 3
  else p

/-- The sender field of a packet waiting for its answer names a unit of the core. -/
def Await.ofCore (p : Panel) (x : Cid) (a : Await) : Bool := (Ep.of a.src).sameUnitCore (Ep.of (p.unitAddr x 0))

/-- The period of the tile's check policy: 0 for OFF (Table 3.8; policy codes 0 OFF, 1 1_IN_16, 2 1_IN_4, 3 FULL). -/
def policyPeriod : Nat → Nat
  | 0 => 0 | 1 => 16 | 2 => 4 | _ => 1

/-- Whether the output tile n of core c is checked under an effective policy (R81). -/
def chkDueAt (eff n c : Nat) : Bool :=
  if policyPeriod eff = 0 then false else (n + c) % policyPeriod eff == 0

/-- A core compute reset at its instant T (R370 steps 1 to 5): units stopped, traps and descriptors dropped, answers to its
abandoned work no longer awaited, registers, tokens, ledger, scratchpad, planes and AccMem at their reset values.  A core
whose reset is in progress, or that is Tally-bad, is left as it is (R379, R400). -/
def Panel.coreReset (p : Panel) (x : Cid) : Panel :=
  if (p.core x).resetting || p.bad.contains x.key then p
  else
    let p := p.abortSelftest x
    let eff := p.tget x.t R.checkCtl_eff
    let p := p.setCore x { Core.zero with
      resetting := true, seq := { Seq.zero with chkDue := chkDueAt eff 0 x.c } }
    let p := p.clearCompute x
    let p := p.chanComputeReset x
    { p with awaits := p.awaits.filter (fun a => !a.ofCore p x) }

/-! Health (R409, R410). -/

/-- The weight of a source that lowers the score at each event (Table 16.1). -/
def healthWeight : Nat → Nat
  | 4 => 100 | 1 => 50 | 3 => 50 | 11 => 50 | 17 => 50 | 10 => 25 | 22 => 20 | 23 => 20 | 14 => 10 | 16 => 5 | _ => 0

/-- A source weighted per busy second (Table 16.1). -/
def busyWeighted (src : Nat) : Bool := src == 0 || src == 2 || src == 8

/-- CHECK_CTL.eff recomputed; a change restarts each core's numbering and recomputes CHK_DUE (R394). -/
def Panel.checkEff (p : Panel) (t : Nat) : Panel :=
  let eff := if p.tget t R.checkCtl_suspect = 1 then 3 else p.tget t R.checkCtl_policy
  if eff = p.tget t R.checkCtl_eff then p
  else
    let p := p.tset t R.checkCtl_eff eff
    p.each (List.range 64) (fun p c =>
      p.updSeq (cid t c) (fun q => { q with tiles := 0, chkDue := chkDueAt eff 0 c }))

/-- A HEALTH message to the keeper: type 0x52, the score, and the standing entered or left (0 SUSPECT entered, 1 left,
2 candidate entered, 3 left) (R410). -/
def Panel.sendHealth (p : Panel) (t what : Nat) : Panel :=
  p.send ⟨0x52, t, p.keeperNode, [p.tget t R.health_score, what]⟩

/-- The tile's standing after a change of score (R410). -/
def Panel.healthStanding (p : Panel) (t : Nat) : Panel :=
  let s := p.tget t R.health_score
  let p := if s < 700 ∧ p.tget t R.health_suspect = 0 then
      (((p.tset t R.health_suspect 1).tset t R.checkCtl_suspect 1).checkEff t).sendHealth t 0
    else if s ≥ 750 ∧ p.tget t R.health_suspect = 1 then
      (((p.tset t R.health_suspect 0).tset t R.checkCtl_suspect 0).checkEff t).sendHealth t 1
    else p
  if s < 400 ∧ p.tget t R.health_cand = 0 ∧ p.tget t R.tileMemb_expelled = 0 then
    (p.tset t R.health_cand 1).sendHealth t 2
  else if s ≥ 450 ∧ p.tget t R.health_cand = 1 then (p.tset t R.health_cand 0).sendHealth t 3
  else p

/-- The score lowered by w, at most to 0, by a weighted event. -/
def Panel.lowerScore (p : Panel) (t w : Nat) : Panel :=
  let p := p.tset t R.health_score (p.tget t R.health_score - w)
  let p := p.updHealth t (fun h => { h with since := p.now })
  p.healthStanding t

/-- The unit of a source that the tile counts: THERM_PREDICT, THERM_TRIP and CTRL_PARITY (R382, R409). -/
def tileUnit : Nat := 4095

/-- A weighted event of a source at a unit: it lowers the score unless one of the same source and unit did so within the
last 100 ms; sources weighted per busy second are only counted toward the second (R409). -/
def Panel.healthEvent (p : Panel) (t src unit : Nat) : Panel :=
  if busyWeighted src then
    p.updHealth t (fun h => { h with busy := supd (fun _ => 0) h.busy src (· + 1) })
  else if healthWeight src = 0 then p
  else
    let k := src * 4096 + unit
    let last := sget (fun _ => 0) (p.health t).last k
    if last ≠ 0 ∧ p.now < last - 1 + 100000 then p
    else
      let p := p.updHealth t (fun h => { h with last := sset (fun _ => 0) h.last k (p.now + 1) })
      p.lowerScore t (healthWeight src)

/-! Collectors. -/

/-- Where FC_STICKY of collector n is: tiles 0 to 143, 144 the panel collector. -/
def stickyAddr (n : Nat) : Nat := if n < 144 then tileB n + R.fcSticky else keeperB + R.kFcSticky
/-- Where FC_REACT0 of collector n is. -/
def reactAddr (n : Nat) : Nat := if n < 144 then tileB n + R.fcReact else keeperB + R.kFcReact
/-- The reaction field of a source in force (Table 15.7). -/
def Panel.reaction (p : Panel) (n src : Nat) : Nat :=
  bits (p.rd (reactAddr n + 4 * (src / 8))) (3 * (src % 8) + 2) (3 * (src % 8))
/-- The sticky bits of a collector. -/
def Panel.sticky (p : Panel) (n : Nat) : Nat := bits (p.rd (stickyAddr n)) 24 0
/-- The sticky bits whose reaction field in force is PIN (R388). -/
def Panel.pinVec (p : Panel) (n : Nat) : Nat :=
  (List.range 25).foldl (fun acc i =>
    if (p.sticky n).testBit i && p.reaction n i == 5 then acc + 2 ^ i else acc) 0

/-- A FAULT_NOTE of a tile collector to the active keeper (R388, Table 15.3); its count and renew field move on. -/
def Panel.sendNote (p : Panel) (t : Nat) : Panel :=
  let k := p.coll t
  let seq := (k.seq + 1) % 65536
  let p := p.send ⟨0x40, t, p.keeperNode, [p.sticky t, k.act, p.pinVec t, k.prst, seq, k.renew]⟩
  p.updColl t (fun k => { k with seq := seq, renew := 0 })

/-- The NMI reaction: an NMI trap pending at every sequencer of the tile in RUN or WAIT, on an unfenced core whose region
is in RUN, or in HOLD until it resumes (R116). -/
def Panel.nmi (p : Panel) (t : Nat) : Panel :=
  p.each (List.range 64) (fun p c =>
    let x := cid t c
    if p.running x && decide (p.regionState x ≤ 1) && !p.fenced x && !(p.core x).resetting then
      p.updSeq x (fun q => q.pend 0x04)
    else p)

/-- A bit set or cleared in a vector. -/
def withBit (v i : Nat) (b : Bool) : Nat := if b then v ||| 2 ^ i else v - (v &&& 2 ^ i)

/-- Bits of ALERT_STS set (R391); each that is newly set raises an in-band interrupt while they are enabled (R511). -/
def Panel.alert (p : Panel) (m : Nat) : Panel :=
  let old := (p.rd (keeperB + R.alertSts)).toNat
  let fresh := (List.range 3).filter (fun i => m.testBit i && !old.testBit i)
  let p := p.orReg (keeperB + R.alertSts) (w32 m)
  if p.keep.bmc.ibi then
    p.updKeep (fun k => { k with bmc := { k.bmc with
      raised := fresh.foldl (fun v i => withBit v i true) k.bmc.raised, count := k.bmc.count + fresh.length } })
  else p

/-- Bits of ALERT_STS cleared (R391). -/
def Panel.alertClear (p : Panel) (m : Nat) : Panel :=
  let a := keeperB + R.alertSts
  let p := p.wr a (p.rd a &&& ~~~ (w32 m))
  p.updKeep (fun k => { k with bmc := { k.bmc with raised := k.bmc.raised - (k.bmc.raised &&& m) } })

/-- The reaction of collector n taken for a source, on the cores of the raising unit's scope (R384, R385).  In the panel
collector NMI and BLOCK_RESET act as INT. -/
def Panel.react (p : Panel) (n src : Nat) (scope : List Nat) : Panel :=
  let r := p.reaction n src
  let p := p.updColl n (fun k => { k with act := withBit k.act src (r != 0), prst := withBit k.prst src (r == 4) })
  let p := if r = 5 then p.alert 2 else p
  if n < 144 then
    let p := if r = 2 then p.nmi n else p
    let p := if r = 3 then p.each scope (fun p c => p.coreReset (cid n c)) else p
    p.sendNote n
  else
    let p := if r ≠ 0 then p.faultEvent 255 src else p
    if r = 4 then { p with prst := true } else p

/-- An event of a source at collector n: the sticky bit is set, and on a change from 0 to 1 its reaction is taken (R383,
R385). -/
def Panel.stick (p : Panel) (n src : Nat) (scope : List Nat) : Panel :=
  if (p.sticky n).testBit src then p
  else (p.orReg (stickyAddr n) (w32 (2 ^ src))).react n src scope

/-- A SELFTEST runs on the core, so that events of sources 4 to 7 set nothing (R397). -/
def Panel.testing (p : Panel) (x : Cid) : Bool := p.cget x R.selftestRes_run == 1

/-- Sources raised by a core's compute block, whose events on a fenced core do not lower the score (R401). -/
def computeSource (src : Nat) : Bool := (2 ≤ src && src ≤ 7) || (20 ≤ src && src ≤ 22)

/-- An event at a core: its counter adds 1 and its source is raised (R382). -/
def Panel.coreEvent (p : Panel) (x : Cid) (src ctrOff : Nat) : Panel :=
  if p.testing x && (4 ≤ src && src ≤ 7) then p
  else
    let p := p.ccount x ctrOff 1
    let p := if p.fenced x && computeSource src then p else p.healthEvent x.t src x.c
    p.stick x.t src [x.c.val]

/-- n events of a core at once. -/
def Panel.coreEvents (p : Panel) (x : Cid) (src ctrOff n : Nat) : Panel :=
  if n = 0 then p
  else (p.coreEvent x src ctrOff).ccount x ctrOff (if p.testing x && (4 ≤ src && src ≤ 7) then 0 else n - 1)

/-- RANGE_ALARM events of a core (R54). -/
def Panel.rangeAlarm (p : Panel) (x : Cid) (n : Nat) : Panel := p.coreEvents x 6 0x100 n
/-- T2_ILLEGAL events of a core (R36). -/
def Panel.t2Illegal (p : Panel) (x : Cid) (n : Nat) : Panel := p.coreEvents x 7 0x108 n

/-- An event of a tile-scoped source at a unit of the tile, its counter counted by the caller. -/
def Panel.tileEvent (p : Panel) (t src unit : Nat) : Panel :=
  (p.healthEvent t src unit).stick t src (List.range 64)

/-- An event of a region-scoped source. -/
def Panel.regionEvent (p : Panel) (t r src : Nat) : Panel :=
  (p.healthEvent t src (64 + r)).stick t src (regionCores r)

/-- An event of the panel collector. -/
def Panel.panelEvent (p : Panel) (src : Nat) : Panel := p.stick 144 src []

/-- FAULT_N is driven low (R390): a set panel bit whose reaction is PIN, a PANEL_RESET under way; the tiles' part is held
with the kept notes. -/
def Panel.panelPin (p : Panel) : Bool := decide (p.pinVec 144 ≠ 0) || p.prst

/-- CTRL_PARITY: a parity failure at a core's router or program store (R386). -/
def Panel.ctrlParity (p : Panel) (x : Cid) : Panel := (p.tcount x.t 0x828).tileEvent x.t 23 tileUnit

end Sys2Proof.Machine
end

