-- ==== Sys2Proof/Machine/Packets.lean ====
section
/-!
DEFINITION. Packets: headers, flits, and injection with checks 2 and 3 (R201 to R209, R224, R229, R455).
-/
namespace Sys2Proof.Machine

open Sys2Proof

/-! Status codes (Table 17.13). -/

/-- OK. -/
def stOk : Nat := 0
/-- BUSY. -/
def stBusy : Nat := 1
/-- STATE_CONFLICT. -/
def stConflict : Nat := 2
/-- BAD_PARAM. -/
def stBadParam : Nat := 3
/-- BAD_LENGTH. -/
def stBadLength : Nat := 4
/-- NO_WINDOW. -/
def stNoWindow : Nat := 5
/-- OVERRUN. -/
def stOverrun : Nat := 6
/-- EPOCH_STALE. -/
def stEpochStale : Nat := 7
/-- FENCED. -/
def stFenced : Nat := 8
/-- TIMEOUT. -/
def stTimeout : Nat := 9
/-- REFUSED. -/
def stRefused : Nat := 10
/-- AUTH_FAIL. -/
def stAuthFail : Nat := 11
/-- UNSUPPORTED. -/
def stUnsupported : Nat := 12
/-- HW_FAULT. -/
def stHwFault : Nat := 13
/-- RESET_ABORT. -/
def stResetAbort : Nat := 14

/-! Packet kinds and classes (Tables 8.3 and 8.7). -/

/-- A WRITE. -/
def kWrite : Nat := 0
/-- A READ. -/
def kRead : Nat := 1
/-- An RDATA. -/
def kRdata : Nat := 2
/-- A POST. -/
def kPost : Nat := 3
/-- A STATUS. -/
def kStatus : Nat := 4
/-- A MSG. -/
def kMsg : Nat := 5
/-- Class MGMT. -/
def clsMgmt : Nat := 0
/-- Class REQ. -/
def clsReq : Nat := 1
/-- Class RSP. -/
def clsRsp : Nat := 2
/-- Class STREAM. -/
def clsStream : Nat := 3
/-- Class BULK. -/
def clsBulk : Nat := 4

/-- A packet header (Table 8.2). -/
structure Header where
  cls : Nat
  kind : Nat
  length : Nat
  epoch : Nat
  mc : Bool
  group : Nat
  token : Nat
  dst : Nat
  tokv : Bool
  fan : Bool
  det : Nat
  hops : Nat
  window : Nat
  xfer : Nat
  src : Nat
  offset : Nat
  total : Nat
  key : Nat
deriving DecidableEq, Repr

/-- The four header words (Table 8.2). -/
def Header.words (h : Header) : List W64 :=
  [w64 (h.cls * 2 ^ 61 + h.kind * 2 ^ 57 + h.length * 2 ^ 50 + h.epoch * 2 ^ 42 + b2n h.mc * 2 ^ 41 + h.group * 2 ^ 35 +
      h.token * 2 ^ 29 + h.dst),
   w64 (b2n h.tokv * 2 ^ 63 + b2n h.fan * 2 ^ 62 + h.det * 2 ^ 60 + h.hops * 2 ^ 52 + h.window * 2 ^ 44 + h.xfer * 2 ^ 32 +
      h.src),
   w64 h.offset,
   w64 (h.total * 2 ^ 32 + h.key)]

/-- The header that four words spell (Table 8.2). -/
def Header.of (a b c d : W64) : Header :=
  { cls := bits a 63 61, kind := bits a 60 57, length := bits a 56 50, epoch := bits a 49 42, mc := bit a 41,
    group := bits a 40 35, token := bits a 34 29, dst := bits a 28 0, tokv := bit b 63, fan := bit b 62,
    det := bits b 61 60, hops := bits b 59 52, window := bits b 51 44, xfer := bits b 39 32, src := bits b 28 0,
    offset := c.toNat, total := bits d 60 32, key := bits d 31 0 }

/-- Reserved bits of the header words are 0 (Table 8.2). -/
def Header.blank : Header :=
  ⟨0, 0, 1, 0, false, 0, 0, 0, false, false, 0, 0, 0, 0, 0, 0, 0, 0⟩

/-- A data packet's kind (Table 8.3). -/
def dataKind (k : Nat) : Bool := k == kWrite || k == kRdata

/-- Word i of a flit's codewords, as data. -/
def Flit.word (f : Flit) (i : Nat) : W64 := ssc76Data (f.words.getD i 0)

/-- The header of a packet, as its first flit's words read without correction. -/
def Flight.hdr (f : Flight) : Header :=
  match f.flits with
  | h :: _ => Header.of (h.word 0) (h.word 1) (h.word 2) (h.word 3)
  | [] => Header.blank

/-- The packet's header words replaced and encoded again (R203). -/
def Flight.setHdr (f : Flight) (h : Header) : Flight :=
  match f.flits with
  | fl :: rest =>
    { f with flits := { fl with words := h.words.map ssc76Enc ++ fl.words.drop 4, cls := h.cls } :: rest }
  | [] => f

/-- The codewords of the payload: words 4 to 7 of a control packet, all words of a data packet's later flits (R204). -/
def Flight.payload (f : Flight) : List W76 :=
  match f.flits with
  | fl :: rest => if dataKind f.hdr.kind then (rest.map (·.words)).flatten else fl.words.drop 4
  | [] => []

/-- The payload's data words, as they decode. -/
def Flight.data (f : Flight) : List W64 := f.payload.map (fun w => ssc76Data (ssc76Dec w).1)

/-- The flits of a packet from its header and payload codewords (R204). -/
def mkFlits (h : Header) (payload : List W76) : List Flit :=
  let hw := h.words.map ssc76Enc
  if dataKind h.kind then
    let ds := chunks 8 payload
    let n := ds.length
    ⟨hw ++ List.replicate 4 0, h.cls, true, n == 0⟩ ::
      (List.range n).map (fun i => ⟨ds.getD i [], h.cls, false, i + 1 == n⟩)
  else [⟨hw ++ (payload ++ List.replicate 4 0).take 4, h.cls, true, true⟩]

/-! Checks at injection. -/

/-- Check 2: a data packet's length is 1 to 64, a control packet's is 1 (Table 8.5). -/
def Header.lenOk (h : Header) : Bool :=
  if dataKind h.kind then decide (1 ≤ h.length ∧ h.length ≤ 64) else h.length == 1

/-- The class a kind may travel in (Table 8.3). -/
def kindClassOk (kind cls : Nat) : Bool :=
  match kind with
  | 0 => cls == clsMgmt || cls == clsStream || cls == clsBulk
  | 1 => cls == clsReq
  | 2 => cls == clsStream || cls == clsBulk
  | 3 => cls == clsReq
  | 4 => cls == clsRsp
  | 5 => cls == clsMgmt || cls == clsReq || cls == clsRsp
  | _ => false

/-- The remote-table entry of a panel id at a router (Table 8.9). -/
def Panel.remoteEntry (p : Panel) (rtr pid : Nat) : RemEntry :=
  if (p.router rtr).failed.contains (208 + pid) then ⟨false, 0⟩
  else sget (fun _ => (⟨false, 0⟩ : RemEntry)) (p.router rtr).remote pid

/-- Check 3 at an injecting router: kind, class and mc legal, the destination defined or its remote entry valid, and the
limits on packets for another panel (R221, R228, R455). -/
def Panel.check3 (p : Panel) (rtr : Nat) (h : Header) : Bool :=
  let e := Ep.of h.dst
  kindClassOk h.kind h.cls &&
    (!h.mc || (h.kind == kWrite && (h.cls == clsMgmt || h.cls == clsStream))) &&
    !(h.cls == clsBulk && h.tokv && h.total == 0) &&
    (if e.panel = p.panelId then e.defined
     else
      (decide (9216 ≤ rtr) || (p.remoteEntry rtr e.panel).valid) && e.defined && p.kget R.ykFabSts_held == 1 &&
        p.kget R.ykFabSts_dup == 0 && h.cls != clsMgmt && !h.mc &&
        !((h.kind == kWrite || h.kind == kRead) && e.unit != 2 && e.unit != 6) &&
        h.kind != kPost && h.kind != kMsg &&
        !(h.key == 0 && h.kind != kStatus && h.kind != kRdata))

/-- The epoch held at a router's tile or ring die: TILE_MEMB.epoch of a tile; a ring die's own copy is that of the keeper
for a keeper, else of the tile it is attached to (R229, R405). -/
def Panel.epochAt (p : Panel) (rtr : Nat) : Nat :=
  if rtr < 9216 then p.tget (rtr / 64) R.tileMemb_epoch
  else if isKeeper (rtr - 9216) then p.epoch
  else (p.die (rtr - 9216)).epoch

/-- A packet that draws exactly one STATUS: a unicast WRITE that is not MGMT, a POST, a REQ-class MSG (R207); a READ draws
its RDATA or a STATUS. -/
def Header.drawsStatus (h : Header) : Bool :=
  (h.kind == kWrite && !h.mc && h.cls != clsMgmt) || h.kind == kPost || (h.kind == kMsg && h.cls == clsReq) ||
    h.kind == kRead

/-- Injection at a router (R209, R229): checks 2 and 3, the epoch stamp, hops at 0.  A refused packet's status goes to the
injecting unit directly and nothing is sent; an accepted one that draws an answer is timed from now (R208). -/
def Panel.inject (p : Panel) (rtr : Nat) (h : Header) (payload : List W76) : Nat × Panel :=
  let here := p.count (if rtr < 9216 then coreB (rtr / 64) (rtr % 64) + 0x1A0
    else keeperB + 0x4000 + 0x400 * (rtr - 9216) + 0x20) 1
  if !h.lenOk then
    (stBadLength, if rtr < 9216 then here.tileEvent (rtr / 64) 12 (rtr % 64) else here.panelEvent 12)
  else if !p.check3 rtr h then (stBadParam, p)
  else
    let h := { h with epoch := p.epochAt rtr % 256, hops := 0, det := 0, fan := false }
    let f : Flight := ⟨p.nextFlight, mkFlits h payload, rtr, 4, .transit, p.now, 0, 0⟩
    let p := { p with flights := p.flights ++ [f], nextFlight := p.nextFlight + 1 }
    let p := if h.drawsStatus then
        { p with awaits := p.awaits ++ [⟨h.src, h.xfer, h.kind, h.dst, h.offset, p.now⟩] } else p
    (stOk, p)

/-- A POST packet from unit u of a core to a token of a sequencer (R90, R206). -/
def Panel.sendPost (p : Panel) (x : Cid) (u dst tok amount xfer : Nat) : Nat × Panel :=
  p.inject (rtrCore x.t x.c)
    { Header.blank with cls := clsReq, kind := kPost, dst := dst % 2 ^ 29, src := p.unitAddr x u, token := tok, tokv := true,
                        xfer := xfer }
    [ssc76Enc (w64 amount), ssc76Enc 0, ssc76Enc 0, ssc76Enc 0]

/-- A STATUS packet answering a packet (R206): the status code, the kind answered, its xfer, the bytes accepted and the
offset of the packet answered. -/
def Panel.sendStatus (p : Panel) (rtr src : Nat) (h : Header) (status accepted : Nat) : Panel :=
  (p.inject rtr
    { Header.blank with cls := clsRsp, kind := kStatus, dst := h.src, src := src, xfer := h.xfer }
    [ssc76Enc (w64 (status + 2 ^ 8 * h.kind + 2 ^ 16 * h.xfer + 2 ^ 32 * accepted)), ssc76Enc (w64 h.offset),
     ssc76Enc 0, ssc76Enc 0]).2

/-- A packet in flight by number. -/
def Panel.flight (p : Panel) (id : Nat) : Option Flight := p.flights.find? (fun f => f.id == id)
/-- A packet in flight replaced. -/
def Panel.setFlight (p : Panel) (f : Flight) : Panel :=
  { p with flights := p.flights.map (fun g => if g.id = f.id then f else g) }
/-- A packet in flight removed. -/
def Panel.dropFlight (p : Panel) (id : Nat) : Panel := { p with flights := p.flights.filter (fun f => f.id != id) }

/-- The multicast alias of a core's DMA engine that a destination matches: the lowest enabled one whose target equals the
destination's low 17 bits (R224). -/
def Panel.mcAlias (p : Panel) (x : Cid) (dst : Nat) : Option Nat :=
  if dst / 2 ^ 17 % 4096 ≠ p.panelId then none
  else (List.range 4).findSome? (fun n =>
    let v := p.crd x (R.mcAlias + 4 * n)
    if bit v 31 ∧ bits v 16 0 = dst % 2 ^ 17 then some (bits v 30 25) else none)

end Sys2Proof.Machine
end

