-- ==== Sys2Proof/Machine/Scratchpad.lean ====
section
/-!
DEFINITION. Scratchpad: words through the front, the word code's outcomes, scrub buffers, bank arbitration and retention
(R121 to R137, R235, R236).
-/
namespace Sys2Proof.Machine

open Sys2Proof

/-- The bank of a word address (R121). -/
def bankOf (a : Nat) : Nat := a / 2 ^ 14 % 32
/-- The line of a word address within its bank (R121). -/
def lineOf (a : Nat) : Nat := a / 8 % 2048

/-- A stored codeword. -/
def Core.cell (c : Core) (a : Nat) : W76 := sget spadReset c.spad (a % 2 ^ 19)
/-- The scrub buffer of a bank. -/
def Core.scrubOf (c : Core) (b : Nat) : Option Scrub := sget (fun _ => none) c.scrub b

/-- A corrected word offered to its bank's scrub buffer: placed when the buffer is empty; the same word finds its own
entry; otherwise scrub_drop is set (R132). -/
def Panel.scrubOffer (p : Panel) (x : Cid) (a : Nat) (cw : W76) : Panel :=
  match (p.core x).scrubOf (bankOf a) with
  | none => p.updCore x (fun c => { c with scrub := sset (fun _ => none) c.scrub (bankOf a) (some ⟨a, cw⟩) })
  | some s => if s.addr = a then p else p.cset x R.spadStatus_scrub_drop 1

/-- One word read from scratchpad (R131): its data, whether it was uncorrectable (then it delivers zero), and the panel after
the counting. -/
def Panel.spadRead (p : Panel) (x : Cid) (a : Nat) : W64 × Bool × Panel :=
  let a := a % 2 ^ 19
  match ssc76Dec ((p.core x).cell a) with
  | (cw, .clean) => (ssc76Data cw, false, p)
  | (cw, .corrected) =>
    let p := (p.cset x R.spadStatus_ce 1).coreEvent x 2 0x140
    (ssc76Data cw, false, p.scrubOffer x a cw)
  | (_, .uncorrectable) => (0, true, (p.cset x R.spadStatus_ue 1).coreEvent x 3 0x148)

/-- Consecutive words read: their data, whether any was uncorrectable, and the panel after them. -/
def Panel.spadReads (p : Panel) (x : Cid) : Nat → Nat → List W64 × Bool × Panel
  | _, 0 => ([], false, p)
  | a, n + 1 =>
    let (d, bad, p) := p.spadRead x a
    let (ds, bads, p) := p.spadReads x (a + 1) n
    (d :: ds, bad || bads, p)

/-- Words read at given addresses. -/
def Panel.spadAt (p : Panel) (x : Cid) : List Nat → List W64 × Bool × Panel
  | [] => ([], false, p)
  | a :: as =>
    let (d, bad, p) := p.spadRead x a
    let (ds, bads, p) := p.spadAt x as
    (d :: ds, bad || bads, p)

/-- One word written, with its check symbols; a pending write-back of the same word is cancelled (R128, R132). -/
def Core.write (c : Core) (a : Nat) (d : W64) : Core :=
  let a := a % 2 ^ 19
  let scrub := match c.scrubOf (bankOf a) with
    | some s => if s.addr = a then sdel c.scrub (bankOf a) else c.scrub
    | none => c.scrub
  { c with spad := sset spadReset c.spad a (ssc76Enc d), scrub := scrub }

/-- Consecutive words written from a word address upward. -/
def Core.writes (c : Core) : Nat → List W64 → Core
  | _, [] => c
  | a, d :: ds => (c.write a d).writes (a + 1) ds

/-- Consecutive words written to a core's scratchpad. -/
def Panel.spadWrites (p : Panel) (x : Cid) (a : Nat) (ds : List W64) : Panel := p.updCore x (fun c => c.writes a ds)

/-! Arbitration (R235 to R237). -/

/-- The priority step of a requester. -/
def Arb.p (a : Arb) (q : Nat) : Nat := sget (fun _ => 0) a.prio q

/-- The requester an arbiter of n requesters grants among those present: the highest step, ties to the lowest number at or
after the pointer (R235). -/
def Arb.pick (a : Arb) (n : Nat) (present : List Nat) : Option Nat :=
  let top := present.foldl (fun m q => max m (a.p q)) 0
  ((List.range n).map (fun i => (a.ptr + i) % n)).find? (fun q => present.contains q && a.p q == top)

/-- An arbiter's state after a round: the winner's step is 0 and its run ends, losers gain a step and lengthen their runs
(R235, R236). -/
def Arb.after (a : Arb) (n : Nat) (present : List Nat) (win : Nat) : Arb :=
  let losers := present.filter (fun q => q != win)
  { prio := sset (fun _ => 0) (losers.foldl (fun m q => supd (fun _ => 0) m q (fun k => min 15 (k + 1))) a.prio) win 0
    run := sset (fun _ => 0) (losers.foldl (fun m q => supd (fun _ => 0) m q (· + 1)) a.run) win 0
    flagged := a.flagged.filter (fun q => q != win)
    ptr := (win + 1) % n }

/-- The counters of a round: the grant, and each loser's wait and longest run, at requester sets of base + 0x20·q (R495). -/
def Panel.arbCount (p : Panel) (base win : Nat) (losers : List Nat) (a : Arb) : Panel :=
  (p.count (base + 0x20 * win) 1).each losers (fun p q =>
    (p.count (base + 0x20 * q + 8) 1).count (base + 0x20 * q + 0x10) (sget (fun _ => 0) a.run q))

/-- The arbiter of a scratchpad bank. -/
def Core.bankArb (c : Core) (b : Nat) : Arb := sget (fun _ => Arb.zero) c.banks b

/-- One bank's round in a region cycle (R122, R125): the arbiter's winner is granted, and with it every requester that reads
the same line as a winning read.  Answers the requesters granted. -/
def Panel.bankRound (p : Panel) (x : Cid) (b : Nat) (reqs : List BankReq) : List Nat × Panel :=
  let present := (reqs.map (fun r => r.q.val)).eraseDups
  let a := (p.core x).bankArb b
  match a.pick 15 present with
  | none => ([], p)
  | some w =>
    let line := (reqs.find? (fun r => r.q.val == w)).map (fun r => (r.line.val, r.read))
    let shared := match line with
      | some (l, true) => (reqs.filter (fun r => r.read && r.line.val == l)).map (fun r => r.q.val)
      | _ => [w]
    let losers := present.filter (fun q => !shared.contains q)
    let a1 := a.after 15 (w :: losers) w
    let a2 := shared.foldl (fun a q => { a with prio := sset (fun _ => 0) a.prio q 0, run := sset (fun _ => 0) a.run q 0 }) a1
    let p := p.updCore x (fun c => { c with banks := sset (fun _ => Arb.zero) c.banks b a2 })
    let base := coreB x.t x.c + 0x200
    let p := p.each (shared.filter (fun q => q != w)) (fun p q => p.count (base + 0x20 * q) 1)
    (shared, p.arbCount base w losers a2)

/-- A bank's scrub write-back: made in a cycle in which no requester asks for the bank (R132). -/
def Panel.scrubBack (p : Panel) (x : Cid) (b : Nat) : Panel :=
  p.updCore x (fun c => match c.scrubOf b with
    | some s => { c with spad := sset spadReset c.spad s.addr s.cw, scrub := sdel c.scrub b }
    | none => c)

/-- SCRUB_WRITEBACK (R132). -/
def execScrubWriteback (x : Cid) (bank : Fin 32) (s : State) : Host.Outcome State Fault Refusal :=
  onPanel (fun p => p.scrubBack x bank) s

/-- The number of bits set in a word. -/
def popcount (v : W32) : Nat := (List.range 32).foldl (fun n i => n + b2n (bit v i)) 0

/-- CORE_RETAIN_WRITE (R135): a mask of more than 8 banks is ignored and sets retain_rej. -/
def Panel.coreRetain (p : Panel) (x : Cid) (v : W32) : Panel :=
  if popcount v > 8 then p.cset x R.spadStatus_retain_rej 1 else p.cwr x R.coreRetain v

/-- CORE_RETAIN_WRITE (R135). -/
def execCoreRetainWrite (x : Cid) (v : BitVec 32) (s : State) : Host.Outcome State Fault Refusal :=
  onPanel (fun p => p.coreRetain x v) s

end Sys2Proof.Machine
end

