-- ==== Sys2Proof/Machine/Dram.lean ====
section
/-!
DEFINITION. The DRAM channels: mapping, requests and slots, the wide-row code's outcomes, refresh, scrubbing, retirement and
start-up (R169 to R198).
-/
namespace Sys2Proof.Machine

open Sys2Proof

/-- Bytes of a channel: 384 MiB (R169). -/
def chanBytes : Nat := 0x18000000
/-- Array row of a channel offset (Table 7.2). -/
def dRow (off : Nat) : Nat := off / 2 ^ 17 % 2 ^ 12
/-- Wide row within the array row. -/
def dWide (off : Nat) : Nat := off / 2 ^ 12 % 32
/-- Bank of a channel offset. -/
def dBank (off : Nat) : Nat := off / 64 % 64
/-- Array rows of a bank, with the 8 spares above (Table 7.1). -/
def bankRows : Nat := 3080
/-- The cell of a bank, array row and wide row. -/
def cellKey (bank row wide : Nat) : Nat := bank * (bankRows * 32) + row * 32 + wide
/-- What an unlisted wide row holds: zeros with valid check symbols (R193). -/
def cellReset (_ : Nat) : BitVec 528 := 0

/-- The array row that storage gives an array row: the spare of a remap, or itself (R196). -/
def Chan.rowOf (h : Chan) (bank row : Nat) : Nat :=
  match h.remaps.find? (fun r => r.bank == bank && r.row == row) with
  | some r => 3072 + r.spare
  | none => row

/-- The cell that a channel offset's wide row is in. -/
def Chan.cellOf (h : Chan) (off : Nat) : Nat := cellKey (dBank off) (h.rowOf (dBank off) (dRow off)) (dWide off)
/-- The coded wide row at an offset. -/
def Chan.raw (h : Chan) (off : Nat) : BitVec 528 := sget cellReset h.cells (h.cellOf off)

/-- A scrub entry queued for a corrected wide row (R184): none where one is held for that row; a full queue answers true for
the drop. -/
def Chan.scrubAdd (h : Chan) (row : Nat) (cw : BitVec 528) : Chan × Bool :=
  if h.scrub.any (fun s => s.row == row) then (h, false)
  else if h.scrub.length ≥ 8 then (h, true)
  else ({ h with scrub := h.scrub ++ [⟨row, cw⟩] }, false)

/-- The outcome of decoding a wide row read from cell `row` (R180): data, or none where uncorrectable, with the counts. -/
def Panel.dramDecode (p : Panel) (x : Cid) (row : Nat) (raw : BitVec 528) : Option (BitVec 512) × Panel :=
  match ssc528Dec raw with
  | (cw, .clean) => (some (ssc528Data cw), p)
  | (cw, .corrected) =>
    let p := (p.cset x R.dramStatus_ce 1).coreEvent x 0 0x170
    let (h, drop) := (p.chan x).scrubAdd row cw
    let p := p.setChan x h
    (some (ssc528Data cw), if drop then p.cset x R.dramStatus_scrub_drop 1 else p)
  | (_, .uncorrectable) => (none, (p.cset x R.dramStatus_ue 1).coreEvent x 1 0x178)

/-- A wide row written; a pending scrub of it is cancelled (R184). -/
def Chan.put (h : Chan) (off : Nat) (d : BitVec 512) : Chan :=
  let k := h.cellOf off
  { h with cells := sset cellReset h.cells k (ssc528Enc d), scrub := h.scrub.filter (fun s => s.row != k) }

/-- A wide row read at once with its outcomes, for the accesses that a whole step makes of itself (R142, R361). -/
def Panel.chanRead (p : Panel) (x : Cid) (off : Nat) : Option (BitVec 512) × Panel :=
  p.dramDecode x ((p.chan x).cellOf off) ((p.chan x).raw off)

/-- Eight words of a wide row. -/
def wideWords (d : BitVec 512) : List W64 := toWords 8 d.toNat
/-- A wide row of eight words. -/
def ofWide (ws : List W64) : BitVec 512 := BitVec.ofNat 512 (ofWords ws)

/-- Consecutive wide rows read at once, n of them; an uncorrectable one reads as zeros and is answered true. -/
def Panel.chanReads (p : Panel) (x : Cid) : Nat → Nat → List W64 × Bool × Panel
  | _, 0 => ([], false, p)
  | off, n + 1 =>
    let (d, p) := p.chanRead x off
    let (ds, bad, p) := p.chanReads x (off + 64) n
    (wideWords (d.getD 0) ++ ds, d.isNone || bad, p)

/-- Consecutive wide rows written at once. -/
def Panel.chanWrites (p : Panel) (x : Cid) : Nat → List (List W64) → Panel
  | _, [] => p
  | off, w :: ws => (p.updChan x (fun h => h.put off (ofWide w))).chanWrites x (off + 64) ws

/-! Channel slots and accesses. -/

/-- The bank slot of bank b that begins in channel slot n, numbered k from power-up (R172): the slots n with n mod 16 = b
mod 16. -/
def bankSlot (n b : Nat) : Option Nat := if n % 16 = b % 16 then some (n / 16) else none

/-- A maintenance slot (R181). -/
def isMaint (k b : Nat) : Bool := (k + b) % 64 == 0

/-- The stack of the tile is in self-refresh (R190). -/
def Panel.selfref (p : Panel) (x : Cid) : Bool := p.cget x R.dramStatus_selfref == 1

/-- The array row a retirement in progress holds its requests back from (R197). -/
def Chan.retiring (h : Chan) (off : Nat) : Bool :=
  match h.retire with
  | some r => r.bank == dBank off && r.row == dRow off
  | none => false

/-- The requests of a queue that the controller holds: its first 32 (R173). -/
def queued (q : List DReq) : List DReq := q.take 32

/-- A queued request is eligible in the present channel slot (R173): its bank starts a bank slot that is not a maintenance
slot, no older request to the same wide row waits in either queue (R174), and its array row is not being retired (R197). -/
def Chan.eligible (h : Chan) (r : DReq) : Bool :=
  (match bankSlot h.slot (dBank r.off) with
    | some k => !isMaint k (dBank r.off)
    | none => false) &&
    !(queued h.q0 ++ queued h.q1).any (fun o => o.off / 64 == r.off / 64 && decide (o.arr < r.arr)) && !h.retiring r.off

/-- A request that arrives at the controller (R173). -/
def Chan.enq (h : Chan) (q off : Nat) (wdata : Option (BitVec 512)) (tag : DTag) : Chan :=
  let r : DReq := ⟨q, h.arrived, off, wdata, tag⟩
  if q = 0 then { h with q0 := h.q0 ++ [r], arrived := h.arrived + 1 }
  else { h with q1 := h.q1 ++ [r], arrived := h.arrived + 1 }

/-- Starts per group of 16 channel slots at a cap level (Table 7.5). -/
def capStarts : Nat → Nat
  | 0 => 16 | 1 => 12 | 2 => 8 | _ => 4

/-- The channel slot passed. -/
def Chan.nextSlot (h : Chan) : Chan := { h with slot := h.slot + 1, starts := if (h.slot + 1) % 16 = 0 then 0 else h.starts }

/-- One channel slot (R173, R187): each requester's oldest eligible request is offered, the arbiter chooses between two, the
cap holds a start back and counts it, and the chosen access starts: a write is stored, a read's wide row is sensed. -/
def Panel.dramSlot (p : Panel) (x : Cid) : Panel :=
  let h := p.chan x
  if !h.inited || p.selfref x then p
  else
    let r0 := (queued h.q0).find? h.eligible
    let r1 := (queued h.q1).find? h.eligible
    let present := (if r0.isSome then [0] else []) ++ (if r1.isSome then [1] else [])
    if present.isEmpty then p.updChan x Chan.nextSlot
    else if h.starts ≥ capStarts (p.tget x.t R.dramTherm_cap) then
      (p.ccount x 0x180 1).updChan x Chan.nextSlot
    else match h.arb.pick 2 present with
      | none => p.updChan x Chan.nextSlot
      | some w =>
        match (if w = 0 then r0 else r1) with
        | none => p.updChan x Chan.nextSlot
        | some r =>
          let losers := present.filter (· != w)
          let a := h.arb.after 2 present w
          let p := p.updChan x (fun h =>
            let h := { h with
              q0 := if w = 0 then h.q0.erase r else h.q0
              q1 := if w = 1 then h.q1.erase r else h.q1
              arb := a, starts := h.starts + 1 }
            let h := match r.wdata with
              | some d => h.put r.off d
              | none => { h with reads := h.reads ++ [DRead.mk r (h.raw r.off)] }
            h.nextSlot)
          p.arbCount (coreB x.t x.c + 0x3E0) w losers a

/-- DRAM_ACCESS (R173). -/
def execDramAccess (x : Cid) (s : State) : Host.Outcome State Fault Refusal := onPanel (fun p => p.dramSlot x) s

/-- A read under way ends (R175, R180): it is decoded and its flit handed to the requester; i names the read by its place. -/
def Panel.dramReadDone (p : Panel) (x : Cid) (i : Nat) : Panel :=
  match (p.chan x).reads[i]? with
  | none => p
  | some r =>
    let row := (p.chan x).cellOf r.req.off
    let p := p.updChan x (fun h => { h with reads := h.reads.eraseIdx i })
    let (d, p) := p.dramDecode x row r.raw
    p.updChan x (fun h => { h with got := h.got ++ [(r.req.tag, d)] })

/-- DRAM_READ_DONE (R180). -/
def execDramReadDone (x : Cid) (i : Nat) (s : State) : Host.Outcome State Fault Refusal :=
  onPanel (fun p => p.dramReadDone x i) s

/-! Maintenance (R181 to R184). -/

/-- A refresh is due in maintenance slot n: one in 16 at the normal rate, one in 8 at the doubled rate (R182). -/
def refreshDue (dbl : Bool) (n : Nat) : Bool := n % (if dbl then 8 else 16) == 0

/-- The doubled refresh rate is in force on the tile (R186). -/
def Panel.dblRefresh (p : Panel) (x : Cid) : Bool := p.tget x.t R.dramTherm_dbl == 1

/-- A maintenance slot of a bank in which a refresh is due refreshes the bank's next array row, spares included (R182). -/
def Panel.refreshBank (p : Panel) (x : Cid) (b : Nat) : Panel :=
  let n := sget (fun _ => 0) (p.chan x).maint b
  if p.selfref x || !refreshDue (p.dblRefresh x) n then p
  else p.updChan x (fun h => { h with
    refresh := supd (fun _ => 0) h.refresh b (fun r => (r + 1) % bankRows)
    maint := supd (fun _ => 0) h.maint b (· + 1) })

/-- REFRESH (R182). -/
def execRefresh (x : Cid) (bank : Fin 64) (s : State) : Host.Outcome State Fault Refusal :=
  onPanel (fun p => p.refreshBank x bank) s

/-- The bank of a cell. -/
def cellBank (k : Nat) : Nat := k / (bankRows * 32)

/-- A free maintenance slot of a bank writes back the oldest scrub entry for it, or zeroes the next wide row of a spare being
brought in (R184, R197); the slot passes in any case. -/
def Panel.scrubBank (p : Panel) (x : Cid) (b : Nat) : Panel :=
  let n := sget (fun _ => 0) (p.chan x).maint b
  if p.selfref x || refreshDue (p.dblRefresh x) n then p
  else
    let p := p.updChan x (fun h => { h with maint := supd (fun _ => 0) h.maint b (· + 1) })
    match (p.chan x).scrub.find? (fun s => cellBank s.row == b) with
    | none => p
    | some s =>
      (p.updChan x (fun h => { h with cells := sset cellReset h.cells s.row s.cw, scrub := h.scrub.erase s })).ccount x 0x188 1

/-- DRAM_SCRUB_WRITE (R184). -/
def execDramScrubWrite (x : Cid) (bank : Fin 64) (s : State) : Host.Outcome State Fault Refusal :=
  onPanel (fun p => p.scrubBank x bank) s

/-! Retirement and start-up. -/

/-- A write of DRAM_RETIRE (R197): its fields are stored, and with go = 1 it starts a retirement or sets retire_rej. -/
def Panel.dramRetire (p : Panel) (x : Cid) (v : W32) : Panel :=
  let bank := bits v 23 18
  let row := bits v 11 0
  let spare := bits v 26 24
  let stored := p.cwr x R.dramRetire (v &&& 0x07FC0FFF)
  if !bit v 31 then stored
  else if p.cget x R.dramStatus_retire_busy = 1 ∨ row > 3071 ∨
      (p.chan x).remaps.any (fun r => r.bank == bank && r.spare == spare) = true then
    p.cset x R.dramStatus_retire_rej 1
  else
    let p := stored.cset x R.dramStatus_retire_busy 1
    p.updChan x (fun h =>
      let cells := (List.range 32).map (fun w => cellKey bank (h.rowOf bank row) w)
      { h with retire := some ⟨bank, row, spare, true⟩, scrub := h.scrub.filter (fun s => !cells.contains s.row) })

/-- DRAM_RETIRE (R197). -/
def execDramRetire (x : Cid) (v : BitVec 32) (s : State) : Host.Outcome State Fault Refusal :=
  onPanel (fun p => p.dramRetire x v) s

/-- A retirement ends: the spare's wide rows hold zeros, the remap takes effect and retire_busy clears (R197). -/
def Panel.retireDone (p : Panel) (x : Cid) : Panel :=
  match (p.chan x).retire with
  | none => p
  | some r =>
    let p := p.updChan x (fun h =>
      { h with
        retire := none
        remaps := h.remaps.filter (fun q => !(q.bank == r.bank && q.row == r.row)) ++ [r]
        cells := h.cells.filter (fun e => !(decide (cellKey r.bank (3072 + r.spare) 0 ≤ e.1) &&
          decide (e.1 ≤ cellKey r.bank (3072 + r.spare) 31))) })
    p.cset x R.dramStatus_retire_busy 0

/-- RETIREMENT_DONE (R197). -/
def execRetirementDone (x : Cid) (s : State) : Host.Outcome State Fault Refusal := onPanel (fun p => p.retireDone x) s

/-- A reserve tile not in service, or a tile of role 0b10 or 0b11 (R190). -/
def Panel.relayTile (p : Panel) (t : Nat) : Bool :=
  p.tget t R.tileSts_unusable == 1 || (p.tget t R.tileSts_reserve == 1 && p.tget t R.tileMemb_in_service == 0)

/-- Such a tile with its four regions DARK, whose stack is in self-refresh (R190). -/
def Panel.relayDark (p : Panel) (t : Nat) : Bool :=
  p.relayTile t && (List.range 4).all (fun r => p.rget t r R.regionState_state == 3)

/-- A channel of a powered tile finishes writing zeros to every wide row (R193); requests waiting are then served. -/
def Panel.dramInitDone (p : Panel) (x : Cid) : Panel :=
  if (p.chan x).inited || !p.tilePowered x.t then p
  else
    let p := p.updChan x (fun h => { h with inited := true, cells := [] })
    if p.relayDark x.t then p.cset x R.dramStatus_selfref 1 else p

/-- DRAM_INIT_DONE (R193). -/
def execDramInitDone (x : Cid) (s : State) : Host.Outcome State Fault Refusal := onPanel (fun p => p.dramInitDone x) s

end Sys2Proof.Machine
end

