-- ==== Sys2Proof/Machine/Larder.lean ====
section
/-!
DEFINITION. The Larder: enabling and disabling, credits, arrivals, the spill ring, refills, releases and the timer
(R138 to R146).
-/
namespace Sys2Proof.Machine

open Sys2Proof

/-- Bytes of a slot (Table 5.3). -/
def Panel.larSlot (p : Panel) (x : Cid) : Nat := (p.cget x R.larderCtl_slot + 1) * 64
/-- Slots of the scratchpad ring. -/
def Panel.larN (p : Panel) (x : Cid) : Nat := p.cget x R.larderDepth_nslots
/-- Slots of the spill ring (R141). -/
def Panel.larSpillN (p : Panel) (x : Cid) : Nat := p.cget x R.larderDepth_spill * 65536 / p.larSlot x
/-- Ready slots. -/
def Panel.larHeld (p : Panel) (x : Cid) : Nat := p.cget x R.larderStatus_held
/-- Slots in the spill ring. -/
def Panel.larSpillHeld (p : Panel) (x : Cid) : Nat := (p.crd x R.larderSpillHeld).toNat
/-- Spill mode. -/
def Panel.larSpillMode (p : Panel) (x : Cid) : Bool := p.cget x R.larderStatus_spill == 1
/-- The Larder is enabled. -/
def Panel.larOn (p : Panel) (x : Cid) : Bool := p.cget x R.larderCtl_en == 1
/-- The producer's sequencer endpoint. -/
def Panel.larProd (p : Panel) (x : Cid) : Nat := (p.crd x R.larderProd).toNat % 2 ^ 29
/-- The credit token at the producer. -/
def Panel.larPtok (p : Panel) (x : Cid) : Nat := bits (p.crd x R.larderTok) 13 8
/-- The local token of ready slots. -/
def Panel.larCtok (p : Panel) (x : Cid) : Nat := bits (p.crd x R.larderTok) 5 0
/-- larder_err set. -/
def Panel.larErr (p : Panel) (x : Cid) : Panel := p.cset x R.spadStatus_larder_err 1
/-- Free scratchpad slots F_s (R141): a slot being written or refilled is not free. -/
def Panel.larFree (p : Panel) (x : Cid) : Nat := p.larN x - p.larHeld x - (p.core x).larder.writing
/-- Free spill slots F_p (R141). -/
def Panel.larSpillFree (p : Panel) (x : Cid) : Nat := p.larSpillN x - p.larSpillHeld x
/-- Outstanding credits O (R141). -/
def Panel.larOut (p : Panel) (x : Cid) : Nat := (p.core x).larder.posted - (p.core x).larder.accepted
/-- A Larder updated. -/
def Panel.updLarder (p : Panel) (x : Cid) (f : LarderSt → LarderSt) : Panel :=
  p.updCore x (fun c => { c with larder := f c.larder })

/-- The timer's condition (R144). -/
def Panel.larWaiting (p : Panel) (x : Cid) : Bool :=
  p.larOn x && p.larFree x == 0 && p.larOut x == 0 && (!p.larSpillMode x || p.larSpillFree x == 0)

/-- LARDER_STATUS.waiting follows the timer's condition, and the timer returns to 0 when the condition ends (R144). -/
def Panel.larSettle (p : Panel) (x : Cid) : Panel :=
  let w := p.larWaiting x
  let p := p.cset x R.larderStatus_waiting (b2n w)
  if w then p else p.updLarder x (fun l => { l with timer := 0 })

/-- Posts of n credits, of at most 255 each, to ptok at the producer (R141). -/
def Panel.larPosts (p : Panel) (x : Cid) : Nat → Nat → Panel
  | 0, _ => p
  | fuel + 1, n =>
    if n = 0 then p
    else
      let k := min n 255
      let tag := (p.core x).nextXfer
      let p := p.updCore x (fun c => { c with nextXfer := (c.nextXfer + 1) % 256 })
      let (_, p) := p.sendPost x 5 (p.larProd x) (p.larPtok x) k tag
      let p := p.updLarder x (fun l => { l with posted := l.posted + k })
      p.larPosts x fuel (n - k)

/-- Credits posted while O is below min(256, F) (R141), and the timer settled. -/
def Panel.larCredit (p : Panel) (x : Cid) : Panel :=
  let f := p.larFree x + if p.larSpillMode x then p.larSpillFree x else 0
  (p.larPosts x 2 (min 256 f - p.larOut x)).larSettle x

/-! Enabling and disabling. -/

/-- The conditions of enabling with LARDER_CTL at v (R139). -/
def Panel.larEnableOk (p : Panel) (x : Cid) (v : W32) : Bool :=
  let slot := (bits v 30 25 + 1) * 64
  let base := bits v 18 0
  let ring := p.larN x * slot
  let prod := Ep.of (p.larProd x)
  let spill := p.cget x R.larderDepth_spill
  let sb := (p.crd x R.larderSpillBase).toNat % 2 ^ 29
  decide (2 ^ 18 ≤ ring) && decide (ring ≤ 2 ^ 21) && decide (8 * base + ring ≤ 2 ^ 22) && base % 8 == 0 &&
    decide (p.larPtok x ≤ 61) && decide (p.larCtok x ≤ 61) && prod.defined && prod.unit == 0 &&
    (spill == 0 || (sb % 4096 == 0 && decide (sb + spill * 65536 ≤ chanBytes)))

/-- A write of LARDER_CTL (R139, R140): while en is 0 it stores slot and base, and with en = 1 enables or sets larder_err;
while en is 1, a slot or base that differs is ignored and sets larder_err, and en = 0 disables only an empty Larder. -/
def Panel.larderCtl (p : Panel) (x : Cid) (v : W32) : Panel :=
  let v := v &&& 0xFE07FFFF
  if !p.larOn x then
    if !bit v 31 then p.cwr x R.larderCtl v
    else if !p.larEnableOk x v then (p.cwr x R.larderCtl (v &&& 0x7FFFFFFF)).larErr x
    else
      let p := p.cwr x R.larderCtl v
      let p := (p.cwr x R.larderStatus 0).cwr x R.larderHead 0
      let p := p.cwr x R.larderSpillHeld 0
      let p := p.updLarder x (fun _ => LarderSt.zero)
      p.larCredit x
  else
    let old := p.crd x R.larderCtl
    let p := if (v &&& 0x7FFFFFFF) ≠ (old &&& 0x7FFFFFFF) then p.larErr x else p
    if bit v 31 then p
    else if p.larHeld x = 0 ∧ p.larSpillHeld x = 0 ∧ (p.core x).larder.writing = 0 then
      (p.cset x R.larderCtl_en 0).larSettle x
    else p.larErr x

/-- A write of LARDER_REL (R143): releases the oldest held slots, advances the head and lets credits be posted. -/
def Panel.larderRel (p : Panel) (x : Cid) (v : W32) : Panel :=
  let n := bits v 15 0
  let k := min n (p.larHeld x)
  let p := if n > p.larHeld x then p.larErr x else p
  if k = 0 then p
  else
    let p := p.cwr x R.larderHead (w32 (((p.crd x R.larderHead).toNat + k) % max (p.larN x) 1))
    let p := p.cset x R.larderStatus_held (p.larHeld x - k)
    p.larCredit x

/-! Arrivals and refills. -/

/-- The slot placed next in scratchpad takes these words (R142); held rises and ctok is posted. -/
def Panel.larPlace (p : Panel) (x : Cid) (ws : List W64) : Panel :=
  let n := (p.core x).larder.placed
  let a := p.cget x R.larderCtl_base + (n % max (p.larN x) 1) * (p.larSlot x / 8)
  let p := p.spadWrites x a ws
  let p := p.updLarder x (fun l => { l with placed := n + 1 })
  let p := p.cset x R.larderStatus_held (p.larHeld x + 1)
  p.post x (p.larCtok x) 1

/-- The channel offset of slot position n of the spill ring. -/
def Panel.larSpillAt (p : Panel) (x : Cid) (n : Nat) : Nat :=
  (p.crd x R.larderSpillBase).toNat % 2 ^ 29 + (n % max (p.larSpillN x) 1) * p.larSlot x

/-- Why an arrival is refused, if it is (R145): 0 where it is accepted. -/
def Panel.larderRefuse (p : Panel) (x : Cid) (h : Header) (bytes : Nat) : Nat :=
  if !p.larOn x || !(Ep.of h.src).sameUnitCore (Ep.of (p.larProd x)) || h.cls != clsStream then stNoWindow
  else if (p.larFree x = 0 ∧ p.larSpillFree x = 0) ∨ bytes > p.larSlot x then stOverrun
  else stOk

/-- An accepted arrival (R142): to scratchpad when the spill ring is empty and a slot is free there, else to the spill
ring. -/
def Panel.larderAccept (p : Panel) (x : Cid) (ws : List W64) : Panel :=
  let p := p.updLarder x (fun l => { l with accepted := l.accepted + 1 })
  let p := if p.larSpillHeld x = 0 ∧ 0 < p.larFree x then p.larPlace x ws
    else
      let n := (p.core x).larder.spilled
      let p := p.chanWrites x (p.larSpillAt x n) (chunks 8 ws)
      let p := p.updLarder x (fun l => { l with spilled := n + 1 })
      p.cwr x R.larderSpillHeld (w32 (p.larSpillHeld x + 1))
  p.larCredit x

/-- A slot refilled (R142): the oldest spilled slot moves to the next scratchpad position, an uncorrectable wide row as
zeros (R180); spill mode ends when the spill ring becomes empty (R144). -/
def Panel.larderRefill (p : Panel) (x : Cid) : Panel :=
  if !p.larOn x || p.larSpillHeld x = 0 || p.larFree x = 0 then p
  else
    let n := (p.core x).larder.refilled
    let (ws, _, p) := p.chanReads x (p.larSpillAt x n) (p.larSlot x / 64)
    let p := p.updLarder x (fun l => { l with refilled := n + 1 })
    let p := p.cwr x R.larderSpillHeld (w32 (p.larSpillHeld x - 1))
    let p := p.larPlace x ws
    let p := if p.larSpillHeld x = 0 then p.cset x R.larderStatus_spill 0 else p
    p.larCredit x

/-- The Larder timer reaches its limit (R144): spill mode is entered, or the stall is recorded. -/
def Panel.larderTimeout (p : Panel) (x : Cid) : Panel :=
  let limit := bits (p.crd x R.larderTimeout) 15 0
  if !p.larWaiting x || p.regionState x ≠ 0 || (p.core x).larder.timer < limit then p
  else
    let p := p.updLarder x (fun l => { l with timer := 0 })
    if p.cget x R.larderDepth_spill ≠ 0 ∧ !p.larSpillMode x then
      ((p.cset x R.larderStatus_spill 1).coreEvent x 20 0x150).larCredit x
    else p.coreEvent x 21 0x158

/-- What the Larder answers to PREPARE (R146): true for ACCEPT, false for REFUSE. -/
def Panel.larderAccepts (p : Panel) (x : Cid) : Bool :=
  let first := bankOf (p.cget x R.larderCtl_base)
  let last := bankOf (p.cget x R.larderCtl_base + p.larN x * p.larSlot x / 8 - 1)
  let kept := ((List.range 32).filter (fun b => decide (first ≤ b ∧ b ≤ last))).all (fun b => bit (p.crd x R.coreRetain) b)
  !p.larOn x || (p.larSpillHeld x == 0 && (p.core x).larder.writing == 0 && (p.larHeld x == 0 || kept))

/-- A committed packet at a unit of a core. -/
def Panel.committedAt (p : Panel) (id : Nat) (x : Cid) (u : Nat) : Option Flight :=
  match p.flight id with
  | some f =>
    if f.stage = .committed ∧ f.loc = rtrCore x.t x.c ∧ (Ep.of f.hdr.dst).unit = u then some f else none
  | none => none

/-- The answer to a packet at a core's unit that draws a STATUS (R207): the whole payload accepted, or none. -/
def Panel.answer (p : Panel) (x : Cid) (f : Flight) (status : Nat) : Panel :=
  let h := f.hdr
  if h.drawsStatus then
    p.sendStatus (rtrCore x.t x.c) (p.unitAddr x (Ep.of h.dst).unit) h status
      (if status = stOk then (if dataKind h.kind then 64 * h.length else 0) else 0)
  else if h.mc && status != stOk then p.ccount x 0x1B0 1
  else p

/-- LARDER_ARRIVAL (R142): the packet that has entered unit 5. -/
def execLarderArrival (x : Cid) (id : Nat) (s : State) : Host.Outcome State Fault Refusal :=
  onPanel (fun p =>
    match p.committedAt id x 5 with
    | none => p
    | some f =>
      let p := p.dropFlight id
      let st := p.larderRefuse x f.hdr (64 * f.hdr.length)
      let p := if st = stOk then p.larderAccept x f.data else p
      p.answer x f st) s

/-- LARDER_REFILL (R142). -/
def execLarderRefill (x : Cid) (s : State) : Host.Outcome State Fault Refusal := onPanel (fun p => p.larderRefill x) s

/-- LARDER_TIMEOUT (R144). -/
def execLarderTimeout (x : Cid) (s : State) : Host.Outcome State Fault Refusal := onPanel (fun p => p.larderTimeout x) s

end Sys2Proof.Machine
end

