-- ==== Sys2Proof/Machine/Functions.lean ====
section
/-!
DEFINITION. The Planer's functions (Table 6.3): an exact or high-precision value of each, and a result left free within the
function's error bound.
-/
namespace Sys2Proof.Machine

open Sys2Proof

/-! Fixed-point arithmetic with 200 fractional bits, for values the bounds are checked against. -/

/-- One, in fixed point. -/
def fxOne : Int := 2 ^ 200
/-- A value in fixed point, rounded down. -/
def fxOf (x : Q) : Int := (x.mul ⟨fxOne, 1⟩).floor
/-- A fixed-point number as a value. -/
def fxQ (a : Int) : Q := ⟨a, 2 ^ 200⟩
/-- Product in fixed point. -/
def fxMul (a b : Int) : Int := a * b / fxOne

/-- Σ over k < n of the terms t_k with t_(k+1) = t_k · z ÷ (k + 1): the exponential series of z. -/
def fxExpSeries (z : Int) : Nat → Nat → Int → Int → Int
  | 0, _, _, acc => acc
  | n + 1, k, t, acc => fxExpSeries z n (k + 1) (fxMul t z / ((k : Int) + 1)) (acc + t)

/-- e^z of a fixed-point z from 0 to 1. -/
def fxExp (z : Int) : Int := fxExpSeries z 60 0 fxOne 0

/-- ln 2 = Σ 1 ÷ (k·2^k), in fixed point. -/
def fxLn2 : Int := (List.range 210).foldl (fun (acc : Int) (k : Nat) => acc + fxOne / (((k : Int) + 1) * 2 ^ (k + 1))) 0

/-- 2^x of a value from −1,000 to 1,000. -/
def exp2Q (x : Q) : Q :=
  let n := x.floor
  (fxQ (fxExp (fxMul (fxOf (x.sub (Q.int n))) fxLn2))).mul (Q.dy 1 n)

/-- e^x of a value from −500 to 500: 2^(x ÷ ln 2). -/
def expQ (x : Q) : Q := exp2Q (x.div (fxQ fxLn2))

/-- The logistic function. -/
def sigmoidQ (x : Q) : Q :=
  if (Q.int 300).lt x then Q.int 1
  else if x.lt (Q.int (-300)) then Q.zero
  else (Q.int 1).div ((Q.int 1).add (expQ x.neg))

/-- The hyperbolic tangent. -/
def tanhQ (x : Q) : Q := ((Q.int 2).mul (sigmoidQ (x.mul (Q.int 2)))).sub (Q.int 1)

/-- The integer square root of a number, by bits. -/
def isqrtAux (n : Nat) : Nat → Nat → Nat
  | 0, r => r
  | k + 1, r => let r' := r + 2 ^ k; isqrtAux n k (if r' * r' ≤ n then r' else r)

/-- floor(√n). -/
def isqrt (n : Nat) : Nat := isqrtAux n (Nat.log2 n / 2 + 1) 0

/-- √x of a value not below 0, to 200 fractional bits or 200 significant bits. -/
def sqrtQ (x : Q) : Q :=
  let k : Nat := 200 + x.d.log2
  ⟨isqrt (x.n.toNat * 2 ^ (2 * k) / x.d), 2 ^ k⟩

/-- Σ of (−1)^k z^(2k+1) ÷ (k!·(2k+1)), the error function's series without its factor. -/
def fxErfSeries (z2 : Int) : Nat → Nat → Int → Int → Int
  | 0, _, _, acc => acc
  | n + 1, k, t, acc =>
    fxErfSeries z2 n (k + 1) (-(fxMul t z2) / ((k : Int) + 1)) (acc + t / (2 * (k : Int) + 1))

/-- π in fixed point, by Machin's formula. -/
def fxAtanInv (m : Int) : Int :=
  (List.range 150).foldl (fun (acc : Int) (k : Nat) =>
    let t := fxOne / (m ^ (2 * k + 1) * (2 * (k : Int) + 1))
    if k % 2 = 0 then acc + t else acc - t) 0
/-- π. -/
def fxPi : Int := 4 * (4 * fxAtanInv 5 - fxAtanInv 239)

/-- The error function. -/
def erfQ (z : Q) : Q :=
  if (Q.int 7).lt z then Q.int 1
  else if z.lt (Q.int (-7)) then Q.int (-1)
  else
    let f := fxOf z
    (fxQ (fxErfSeries (fxMul f f) 220 0 f 0)).mul ((Q.int 2).div (sqrtQ (fxQ fxPi)))

/-- GELU in its erf form: x·(1 + erf(x ÷ √2)) ÷ 2. -/
def geluErfQ (x : Q) : Q :=
  (x.mul ((Q.int 1).add (erfQ (x.div (sqrtQ (Q.int 2)))))).mul ⟨1, 2⟩

/-- GELU in its tanh form: x·(1 + tanh(√(2/π)·(x + 0.044715·x³))) ÷ 2. -/
def geluTanhQ (x : Q) : Q :=
  if (Q.int 40).lt x then x
  else if x.lt (Q.int (-40)) then Q.zero
  else
    let c := sqrtQ ((Q.int 2).div (fxQ fxPi))
    let u := c.mul (x.add ((((x.mul x).mul x).mul ⟨44715, 1000000⟩)))
    (x.mul ((Q.int 1).add (tanhQ u))).mul ⟨1, 2⟩

/-- SILU: x·sigmoid(x). -/
def siluQ (x : Q) : Q := x.mul (sigmoidQ x)

/-- A Planer result left free within a bound: what the hardware produces where it lies within tol of the exact value less
the slack of the check, and otherwise the exact value rounded to FP32 (R153). -/
def freeWithin (func : Nat) (x y exact tol : Q) : W32 :=
  let r := Config.planerFn func x.norm y.norm
  let v := Elem.read .fp32 r.toNat
  if !v.alarm && (v.v.sub exact).abs.le (tol.mul ⟨2 ^ 30 - 1, 2 ^ 30⟩) then r else (toFp32 exact).1

/-- max(1, |x|). -/
def maxOne (x : Q) : Q := Q.max (Q.int 1) x.abs

/-- The largest finite FP32 magnitude with a sign (R154). -/
def fp32Max (neg : Bool) : W32 := if neg then 0xFF7FFFFF else 0x7F7FFFFF

/-- A function's result and whether it counts in RANGE_ALARM (R153, R154). -/
structure FnOut where
  r : W32
  alarm : Bool
deriving DecidableEq, Repr

/-- 2^x with relative bound 2^−b (EXP2, EXP): above the FP32 range the largest value is written and counted, below it zero
without a count. -/
def expOut (func : Nat) (x : Q) (x2 : Q) (b : Nat) : FnOut :=
  if (Q.int 128).le x2 then ⟨fp32Max false, true⟩
  else if x2.lt (Q.int (-151)) then ⟨0, false⟩
  else
    let e := exp2Q x2
    ⟨freeWithin func x Q.zero e (e.mul ⟨1, 2 ^ b⟩), false⟩

/-- 1 ÷ x (RECIP); of 0 the largest value with the sign of the zero, counted. -/
def recipOut (neg : Bool) (x : Q) : FnOut :=
  if x.n = 0 then ⟨fp32Max neg, true⟩
  else
    let e := (Q.int 1).div x
    if (fp32Val (fp32Max false)).lt e.abs then ⟨fp32Max (decide (x.n < 0)), true⟩
    else ⟨freeWithin 8 x Q.zero e (e.abs.mul ⟨1, 2 ^ 22⟩), false⟩

/-- 1 ÷ √x (RSQRT); of a negative value 0, of 0 the largest value, both counted (R154). -/
def rsqrtOut (x : Q) : FnOut :=
  if x.n < 0 then ⟨0, true⟩
  else if x.n = 0 then ⟨fp32Max false, true⟩
  else
    let e := sqrtQ ((Q.int 1).div x)
    ⟨freeWithin 9 x Q.zero e (e.mul ⟨1, 2 ^ 22⟩), false⟩

/-- 2^x as used by SMAX, SCAN and LMERGE, with the bound of EXP2 (R153). -/
def exp2Out (x : Q) : FnOut := expOut 1 x x 22

/-- The functions of Table 6.3 on operands x and y, neg being x's sign bit. -/
def plnFunc (func : Nat) (neg : Bool) (x y : Q) : FnOut :=
  match func with
  | 0 => ⟨(toFp32 (if x.n < 0 then Q.zero else x)).1, false⟩
  | 1 => exp2Out x
  | 2 => expOut 2 x (x.div (fxQ fxLn2)) 21
  | 3 => ⟨freeWithin 3 x Q.zero (sigmoidQ x) ⟨1, 2 ^ 22⟩, false⟩
  | 4 => ⟨freeWithin 4 x Q.zero (tanhQ x) ⟨1, 2 ^ 21⟩, false⟩
  | 5 => ⟨freeWithin 5 x Q.zero (siluQ x) ((maxOne x).mul ⟨1, 2 ^ 22⟩), false⟩
  | 6 => ⟨freeWithin 6 x Q.zero (geluErfQ x) ((maxOne x).mul ⟨1, 2 ^ 20⟩), false⟩
  | 7 => ⟨freeWithin 7 x Q.zero (geluTanhQ x) ((maxOne x).mul ⟨1, 2 ^ 20⟩), false⟩
  | 8 => recipOut neg x
  | 9 => rsqrtOut x
  | 10 =>
    let e := x.mul (siluQ y)
    ⟨freeWithin 10 x y e ((x.abs.mul (maxOne y)).mul ⟨1, 2 ^ 21⟩), (toFp32 e).2⟩
  | 11 =>
    let e := x.mul (geluErfQ y)
    ⟨freeWithin 11 x y e ((x.abs.mul (maxOne y)).mul ⟨1, 2 ^ 20⟩), (toFp32 e).2⟩
  | _ => ⟨0, false⟩

/-- A value within 2 units in the last place of the exact one (R164). -/
def statOut (which : Nat) (x y exact : Q) : W32 :=
  let e := if exact.n = 0 then (-149 : Int) else max (exact.abs.log2 - 23) (-149)
  freeWithin (16 + which) x y exact (Q.dy 2 e)

end Sys2Proof.Machine
end

