-- ==== Sys2Proof/Machine/Grid.lean ====
section
/-!
DEFINITION. The grid: weight loads and planes, vectors, the accumulator window, output tiles, readouts and the checks of
ABFT (R60 to R81, R92 to R94, R518, R522, R526).
-/
namespace Sys2Proof.Machine

open Sys2Proof

/-! Weight planes. -/

/-- Logical reduction positions of a load of a weight format (Tables 3.1 and 3.3). -/
def Fmtd.kLog (f : Fmtd) : Nat := if f.four || decide (f.fmt = 5) then 128 else if f.eight then 64 else 32
/-- Output columns of a load (R62). -/
def Fmtd.cols (f : Fmtd) : Nat := if f.doubled then 128 else 64
/-- Stored elements of a column (R45). -/
def Fmtd.kStored (f : Fmtd) : Nat := if f.sparse then 64 else f.kLog
/-- Block scales of a column. -/
def Fmtd.colBlocks (f : Fmtd) : Nat := if f.scaled then f.kLog / f.block else 0
/-- Words of the metadata array (R45). -/
def Fmtd.metaWords (f : Fmtd) : Nat := if f.sparse then 256 else 0
/-- Words of the scale array, with HN4's tensor-scale word (R44). -/
def Fmtd.scaleWords (f : Fmtd) : Nat :=
  f.cols * f.colBlocks * (fmtScale f.fmt).bytes / 8 + (if f.fmt = 3 then 1 else 0)
/-- Words of a load image (R94, Table 3.1). -/
def loadWords (f : Fmtd) (ocm : Bool) : Nat := b2n ocm + 512 + f.metaWords + f.scaleWords
/-- Cycles of a load: ceil(bytes ÷ 64) (R63). -/
def loadCycles (f : Fmtd) (ocm : Bool) : Nat := ceilDiv (8 * loadWords f ocm) 64

/-- The weight format of a plane. -/
def Plane.fmt (pl : Plane) : Fmtd := Fmtd.of pl.wf
/-- A field of w bits at field number i of the array that starts at word `base` of the image (R43). -/
def Plane.code (pl : Plane) (base w i : Nat) : Nat :=
  codeAt w (pl.img.getD (base + i * w / 64) 0).toNat (i % (64 / w))
/-- The element of stored position k of column c as loaded (R526). -/
def Plane.rawElem (pl : Plane) (k c : Nat) : Nat :=
  let f := pl.fmt
  pl.code (b2n pl.ocm) (fmtElem f.fmt).width (c * f.kStored + k)
/-- The element held now (R78). -/
def Plane.elem (pl : Plane) (k c : Nat) : Nat := sget (fun _ => pl.rawElem k c) pl.held (128 * k + c)
/-- The metadata nibble of group g of column c (R45, R526). -/
def Plane.nibble (pl : Plane) (g c : Nat) : Nat := pl.code (b2n pl.ocm + 512) 4 (32 * c + g)
/-- The logical position of stored element k of column c (R45). -/
def Plane.pos (pl : Plane) (k c : Nat) : Nat :=
  if pl.fmt.sparse then 4 * (k / 2) + (pl.nibble (k / 2) c / 4 ^ (k % 2)) % 4 else k
/-- The HN4 tensor scale of a plane (R44); 1 for other formats. -/
def Plane.tensor (pl : Plane) : ScaleRd :=
  if pl.fmt.fmt = 3 then
    ScaleTy.e8m0.read (pl.code (b2n pl.ocm + 512 + pl.fmt.metaWords) 8 0)
  else ⟨Q.int 1, false, false⟩
/-- The scale of block b of column c. -/
def Plane.scale (pl : Plane) (b c : Nat) : ScaleRd :=
  let f := pl.fmt
  if f.scaled then
    let base := b2n pl.ocm + 512 + f.metaWords + (if f.fmt = 3 then 1 else 0)
    (fmtScale f.fmt).read (pl.code base (8 * (fmtScale f.fmt).bytes) (c * f.colBlocks + b))
  else ⟨Q.int 1, false, false⟩
/-- The combined scale of a logical position of column c; zero where a scale reads as zero (R40, R41). -/
def Plane.scaleAt (pl : Plane) (pos c : Nat) : Q :=
  let f := pl.fmt
  if !f.scaled then Q.int 1
  else
    let s := pl.scale (pos / f.block) c
    let t := pl.tensor
    if s.zero || t.zero then Q.zero else s.v.mul t.v
/-- The scaled weight of stored element k of column c (R40). -/
def Plane.weight (pl : Plane) (k c : Nat) : Q :=
  ((fmtElem pl.fmt.fmt).read (pl.elem k c)).v.mul (pl.scaleAt (pl.pos k c) c)
/-- A lane that a checked plane gives to its row checksum: lane row 127 (R76).  A position of a K = 64 or K = 32 load takes
in the lane rows 128·k/K onward. -/
def Plane.rowLane (pl : Plane) (k c : Nat) : Bool :=
  pl.chk && (if pl.fmt.sparse then decide (k = 63 ∧ 64 ≤ c) else decide (k + 1 = pl.fmt.kLog))
/-- The outlier channel positions of a plane's map with their entry numbers (R47). -/
def Plane.outliers (pl : Plane) : List (Nat × Nat) :=
  if pl.ocm then
    (List.range 8).filterMap (fun j =>
      let b := codeAt 8 (pl.img.getD 0 0).toNat j
      if b ≥ 128 then some (j, b % 128) else none)
  else []

/-- The products of the main lanes of output column c with an activation vector (R61, R62, R76): one a lane, the
checksum lanes of a checked plane multiplying their sums. -/
def Plane.products (pl : Plane) (act : List Q) (c : Nat) : List Q :=
  let f := pl.fmt
  if f.cols ≤ c then []
  else
  let a (k col : Nat) : Q := act.getD (pl.pos k col) Q.zero
  let lanes := (List.range f.kStored).filter (fun k => !pl.rowLane k c)
  if pl.chk && c % 64 == 63 then
    lanes.map (fun k =>
      Q.sum ((List.range 63).map (fun j => (pl.weight k (c - 63 + j)).mul (a k (c - 63 + j)))))
  else lanes.map (fun k => (pl.weight k c).mul (a k c))

/-- The weight a side lane of column c holds for reduction position k (R67): the checksum in column 63 of a checked
plane. -/
def Plane.sideWeight (pl : Plane) (k c : Nat) : Q :=
  if pl.chk && c % 64 == 63 then Q.sum ((List.range 63).map (fun j => pl.weight k (c - 63 + j)))
  else pl.weight k c

/-- The alarms and illegal codes of a weight load (R36, R39, R41, R54): each block whose scale is an encoding of Table 2.5's
last column counts once, each NaN or infinity in a block that does not read as zeros counts once, and an HN4 tensor scale of
0xFF counts once for the load. -/
def Plane.loadAlarms (pl : Plane) : Nat × Nat :=
  let f := pl.fmt
  let cells := (List.range f.cols).flatMap (fun c =>
    if pl.chk && c % 64 == 63 then []
    else ((List.range f.kStored).filter (fun k => !pl.rowLane k c)).map (fun k => (k, c)))
  let t2 := if f.fmt = 5 then (cells.filter (fun e => isT2Illegal (pl.rawElem e.1 e.2))).length else 0
  if pl.tensor.alarm then (1, t2)
  else
    let sc := ((List.range f.cols).flatMap (fun c =>
      if pl.chk && c % 64 == 63 then []
      else (List.range f.colBlocks).filter (fun b => (pl.scale b c).alarm))).length
    let el := (cells.filter (fun e =>
      ((fmtElem f.fmt).read (pl.rawElem e.1 e.2)).alarm &&
        !(f.scaled && (pl.scale (pl.pos e.1 e.2 / f.block) e.2).zero))).length
    (sc + el, t2)

/-- A legal weight format for a mode that may name a map (R32, R67). -/
def GMode.weightOk (g : GMode) : Bool :=
  let f := Fmtd.of g.wf
  f.legal .w && (!g.ocm || (f.four && !f.sparse))

/-- A legal pairing of weights and activations (R69). -/
def GMode.pairOk (g : GMode) : Bool :=
  let w := Fmtd.of g.wf
  let a := Fmtd.of g.af
  g.weightOk && a.legal .a && ((w.fmt == 0xB) == (a.fmt == 0xB))

/-- A LOAD is legal: its format, no earlier load with reads still to make, and the checked form of the tile (R93, R104). -/
def Core.loadOk (c : Core) (mode : Nat) (chk : Bool) : Bool :=
  (c.seq.gmode mode).weightOk &&
    c.grid.load.isNone &&
    (match c.seq.lastChk with | some k => k == chk | none => true)

/-- The load in progress makes its next read, a line's worth of words, into the shadow plane (R63, R94). -/
def Panel.loadRead (p : Panel) (x : Cid) : Panel :=
  match (p.core x).grid.load with
  | none => p
  | some j =>
    let (ws, _, p) := p.spadReads x j.addr (min 8 j.left)
    p.updGrid x (fun g => { g with
      shadow := { g.shadow with img := g.shadow.img ++ ws }, load := some ⟨j.next + 1, j.addr + 8, j.left - 8⟩ })

/-- A load whose last read has been made ends: its elements and scales are counted (R39), and token 63 is posted (R94). -/
def Panel.loadEnd (p : Panel) (x : Cid) : Panel :=
  match (p.core x).grid.load with
  | some ⟨_, _, 0⟩ =>
    let (al, t2) := (p.core x).grid.shadow.loadAlarms
    (((p.updGrid x (fun g => { g with load := none })).rangeAlarm x al).t2Illegal x t2).post x 63 1
  | _ => p

/-- LOAD (R94): the shadow plane is taken, and the first read of the image is made in the cycle of issue.  c0 is the core as it
stood before the bundle issued. -/
def Panel.doLoad (p : Panel) (c0 : Core) (x : Cid) (mode : Nat) (chk : Bool) (addr : Nat) : Panel :=
  let g := c0.seq.gmode mode
  (p.updGrid x (fun q => { q with
    shadow := ⟨g.wf, g.ocm, chk, [], [], []⟩
    load := some ⟨c0.seq.cycle, addr, loadWords (Fmtd.of g.wf) g.ocm⟩ })).loadRead x

/-- SWAP (R64). -/
def Grid.swap (g : Grid) : Grid := { g with active := { g.shadow with failed := [] }, shadow := g.active }

/-! The accumulator window. -/

/-- An AccMem entry's key: column and entry. -/
def accKey (col m : Nat) : Nat := 512 * col + m
/-- An AccMem entry. -/
def Grid.entry (g : Grid) (k : Nat) : Acc := sget (fun _ => Acc.zero) g.acc k
/-- The anchor group of an entry. -/
def Grid.group (g : Grid) (m : Nat) : Group := sget (fun _ => Group.zero) g.groups (m / 16)
/-- A group's anchor exponent W. -/
def Group.W (g : Group) : Int := g.anchor.toInt

/-- A product seen by the window of anchor W (R70): its integer in units of 2^W, and whether it fell below or above. -/
def window (W : Int) (x : Q) : Int × Bool × Bool :=
  let u := x.div (Q.dy 1 W)
  if u.n = 0 then (0, false, false)
  else if (Q.dy 1 67).le u.abs then (if u.n < 0 then -(2 ^ 67 - 1) else 2 ^ 67 - 1, false, true)
  else if u.n % (u.d : Int) = 0 then (u.n / (u.d : Int), false, false)
  else (u.rne, true, false)

/-- The result of adding a column's products to an entry (R70 to R72): the entry, and whether it saturated. -/
def Acc.add (a : Acc) (W : Int) (products : List Q) : Acc × Bool :=
  let ws := products.map (window W)
  let lo := ws.any (fun w => w.2.1)
  let hi := ws.any (fun w => w.2.2)
  let sum := a.v.toInt + (ws.map (·.1)).foldl (· + ·) 0
  if sum ≥ 2 ^ 95 then (⟨BitVec.ofInt 96 (2 ^ 95 - 1), a.xlo || lo, true⟩, true)
  else if sum < -(2 ^ 95) then (⟨BitVec.ofInt 96 (-(2 ^ 95)), a.xlo || lo, true⟩, true)
  else (⟨BitVec.ofInt 96 sum, a.xlo || lo, a.xhi || hi⟩, false)

/-- A column sum added to entry m of AccMem column col, with its counts (R71, R72).  With sched set, what the entry held is
kept for the readouts of the next cycles (R66). -/
def Panel.accumulate (p : Panel) (x : Cid) (sched : Bool) (col m : Nat) (products : List Q) : Panel :=
  let c := p.core x
  let k := accKey col m
  let old := c.grid.entry k
  let (new, sat) := old.add (c.grid.group m).W products
  let p := p.updGrid x (fun g => { g with
    acc := sset (fun _ => Acc.zero) g.acc k new
    hist := if sched then g.hist ++ [⟨c.seq.cycle, k, old⟩] else g.hist })
  let p := if sat then (p.cset x R.gridStatus_sat 1).rangeAlarm x 1 else p
  if !(old.xlo || old.xhi) && (new.xlo || new.xhi) then p.coreEvent x 5 0x110 else p

/-! Vectors. -/

/-- The words of one activation vector: 8, or 16 for 128 eight-bit elements (Table 5.1). -/
def vecWords (w a : Fmtd) : Nat := if a.eight && decide (w.kLog = 128) then 16 else 8

/-- The words that an overlapping readout row takes from another access of its lane are undefined (R522): the data read, free
where a readout row uses the port in the cycle. -/
def Panel.laneData (p : Panel) (x : Cid) (port cycle : Nat) (ws : List W64) : List W64 × Panel :=
  if (p.core x).seq.pw.any (fun w => w.row && w.port == port && w.cycle == cycle) then
    ws.foldl (fun (acc : List W64 × Panel) _ => (acc.1 ++ [Config.freeWord acc.2.free], acc.2.tookFree)) ([], p)
  else (ws, p)

/-- The scale record's words, wrapping within the line of the first (R518). -/
def recordAddr (a i : Nat) : Nat := a / 8 * 8 + (a % 8 + i) % 8

/-- The activation values of a vector and the alarms its reading counts (R39, R41, R49): main elements at outlier positions
read zero and count nothing. -/
def activation (af : Fmtd) (ats : Byte) (n : Nat) (ws : List W64) (scaleWord : W64) (skip : List Nat) : List Q × Nat :=
  let e := fmtElem af.fmt
  let packed := ofWords ws
  let ts : ScaleRd := if af.fmt = 3 then ScaleTy.e8m0.read ats.toNat else ⟨Q.int 1, false, false⟩
  let scale (b : Nat) : ScaleRd :=
    if af.scaled then (fmtScale af.fmt).read (codeAt 8 scaleWord.toNat b) else ⟨Q.int 1, false, false⟩
  let nb := if af.scaled then n / af.block else 0
  if ts.zero then ((List.replicate n Q.zero), b2n ts.alarm)
  else
    let al := ((List.range nb).filter (fun b => (scale b).alarm)).length
    let rd (i : Nat) : Rd :=
      if skip.contains i then ⟨Q.zero, false⟩
      else
        let s := scale (i / af.block)
        if s.zero then ⟨Q.zero, false⟩
        else let r := e.read (codeAt e.width packed i); ⟨(r.v.mul s.v).mul ts.v, r.alarm⟩
    let rs := (List.range n).map rd
    (rs.map (·.v), al + (rs.filter (·.alarm)).length)

/-- The side values of a side record for the valid entries of a map (R48): entry, value, and the alarms counted. -/
def sideValues (outs : List (Nat × Nat)) (w0 w1 : W64) : List (Nat × Q) × Nat :=
  let s := ScaleTy.e8m0.read (codeAt 8 w1.toNat 0)
  if s.zero then (outs.map (fun o => (o.2, Q.zero)), b2n s.alarm)
  else
    let rs := outs.map (fun o => (o.2, Elem.e4m3.read (codeAt 8 w0.toNat o.1)))
    (rs.map (fun r => (r.1, r.2.v.mul s.v)), (rs.filter (fun r => r.2.alarm)).length)

/-- A VEC is legal (R67, R69). -/
def Core.vecOk (c : Core) (mode m : Nat) : Bool :=
  let g := c.seq.gmode mode
  g.pairOk && !((Fmtd.of g.wf).doubled && decide (256 ≤ m))

/-- VEC (R61, R62, R67, R518): the vector is read with its records, and each output column's products are added to its
entry. -/
def Panel.doVec (p : Panel) (c0 : Core) (x : Cid) (sched : Bool) (mode m stream : Nat) (side : Bool) (ss : Nat) : Panel :=
  let g := c0.seq.gmode mode
  let af := Fmtd.of g.af
  let pl := c0.grid.active
  let wf := Fmtd.of g.wf
  let a := (c0.seq.stream stream).addr
  let (ws, _, p) := p.spadReads x a (vecWords wf af)
  let p := if sched && decide (8 < vecWords wf af) then
      p.updSeq x (fun q => { q with acc := q.acc ++ (List.range 8).map (fun i => ⟨c0.seq.cycle + 1, i, a + 8 + i⟩) })
    else p
  let rec_ := side || af.scaled
  let b := (c0.seq.stream ss).addr
  let nrec := (if side then 2 else 0) + (if af.scaled then 1 else 0)
  let (rs, _, p) := p.spadAt x ((List.range nrec).map (recordAddr b))
  let (rs, p) := if sched then p.laneData x 10 c0.seq.cycle rs else (rs, p)
  let scaleWord := rs.getD (if side then 2 else 0) 0
  let outs := if pl.fmt.four && !pl.fmt.sparse then pl.outliers else []
  let (act, al) := activation af g.ats wf.kLog ws scaleWord (outs.map (·.2))
  let (sv, sal) := if side then sideValues outs (rs.getD 0 0) (rs.getD 1 0) else ([], 0)
  let p := p.updSeq x (fun q => let q := q.useStream stream; if rec_ then q.useStream ss else q)
  let p := p.rangeAlarm x (al + sal)
  p.each (List.range wf.cols) (fun p c =>
    let sp := sv.map (fun e => (pl.sideWeight e.1 c).mul e.2)
    p.accumulate x sched (c % 64) (if c < 64 then m else (m + 256) % 512) (pl.products act c ++ sp))

/-! Output tiles. -/

/-- The groups an OPEN covers: in a doubled mode also those of the rows' second columns (R62, R73). -/
def openGroups (dbl : Bool) (first n : Nat) : List Nat :=
  let gs := (List.range n).map (first + ·)
  if dbl then gs ++ gs.map (· + 16) else gs

/-- An OPEN is legal: within entry 511, at most 256 rows in a doubled mode, and chk equal to CHK_DUE (R69, R104). -/
def Core.openOk (c : Core) (mode first groups : Nat) (chk : Bool) : Bool :=
  let dbl := (Fmtd.of (c.seq.gmode mode).wf).doubled
  decide (first + groups + 1 ≤ if dbl then 16 else 32) && (chk == c.seq.chkDue)

/-- OPEN (R66, R73, R81): zeroes the tile's entries, sets its anchor, and recomputes CHK_DUE for the next tile. -/
def Panel.doOpen (p : Panel) (c0 : Core) (x : Cid) (mode first groups : Nat) (anchor : BitVec 10) (chk : Bool) : Panel :=
  let dbl := (Fmtd.of (c0.seq.gmode mode).wf).doubled
  let gs := openGroups dbl first (groups + 1)
  let covered (k : Nat) : Bool := gs.contains (k % 512 / 16)
  let p := p.updGrid x (fun g => { g with
    acc := g.acc.filter (fun e => !covered e.1)
    hist := g.hist.filter (fun h => !covered h.key)
    groups := gs.foldl (fun m i => sset (fun _ => Group.zero) m i ⟨anchor, chk, dbl⟩) g.groups })
  let eff := p.tget x.t R.checkCtl_eff
  p.updSeq x (fun q => { q with
    lastChk := some chk, tiles := q.tiles + 1, chkDue := chkDueAt eff (q.tiles + 1) x.c })

/-! Readouts. -/

/-- The entry a readout at a cycle includes: what it held before the first vector that entered less than 6 cycles before
(R66). -/
def Grid.entryAt (g : Grid) (cycle k : Nat) : Acc :=
  match g.hist.find? (fun h => h.key == k && decide (cycle < h.cycle + 6)) with
  | some h => h.acc
  | none => g.entry k

/-- A READ is legal: its output format, its row, and the spacing of READs to scratchpad (R69, R522). -/
def Core.readOk (c : Core) (sched : Bool) (mode m : Nat) (planer : Bool) : Bool :=
  let g := c.seq.gmode mode
  let o := Fmtd.of g.outf
  let dbl := (Fmtd.of g.wf).doubled
  o.legal .o && !(dbl && decide (256 ≤ m)) && !(o.fmt == 4 && o.gsz == 2 && !dbl) &&
    (planer || !sched || decide (c.grid.rdLast < c.seq.cycle + 8))

/-- The failed-compare effects of R79. -/
def Panel.failedCompare (p : Panel) (x : Cid) : Panel :=
  ((p.cset x R.gridStatus_mismatch 1).coreEvent x 4 0x118).cset x R.seqStatus_abft_cond 1

/-- The compare of one half of a checked row (R77): entries 0 to 62 against entry 63. -/
def Panel.compareRow (p : Panel) (x : Cid) (es : List Acc) : Panel :=
  if es.any (·.xhi) then (p.ccount x 0x120 1).cset x R.gridStatus_skipped 1
  else
    let d := ((es.take 63).map (fun e => e.v.toInt)).foldl (· + ·) 0 - (es.getD 63 Acc.zero).v.toInt
    if es.any (·.xlo) then
      (if d.natAbs > p.cget x R.checkTol_tol then p.failedCompare x else p)
    else if d ≠ 0 then p.failedCompare x else p

/-- The entries of row m, and in a doubled mode those of m + 256 (R74). -/
def Grid.rowEntries (g : Grid) (cycle m : Nat) : List Acc :=
  (List.range 64).map (fun j => g.entryAt cycle (accKey j m))

/-- The core's generator state: as seeded, or the reset seed (R55). -/
def Panel.lfsr (p : Panel) (x : Cid) : W64 :=
  match (p.core x).lfsr with
  | some g => g
  | none => lfsrSeed (w64 ((p.crd x R.srSeed).toNat + 2 ^ 32 * (p.crd x (R.srSeed + 4)).toNat))

/-- A conversion made by a core: its generator advances when the target rounds stochastically, and saturations count (R53,
R55). -/
def Panel.convertOn (p : Panel) (x : Cid) (f : Fmtd) (ts : ScaleRd) (row : List (Bool × Q)) : Converted × Panel :=
  let r := convert f ts row ⟨p.lfsr x, 0⟩
  let p := if f.rnd then p.updCore x (fun c => { c with lfsr := some r.c.g }) else p
  (r, p.rangeAlarm x r.c.alarms)

/-- A scheduled write of the Planer that shares its lane with a readout row in its cycle writes undefined data (R522). -/
def Panel.laneClash (p : Panel) (x : Cid) (row : List PendW) : Panel :=
  let clash (w : PendW) : Bool := !w.row && row.any (fun r => r.port == w.port && r.cycle == w.cycle)
  (p.core x).seq.pw.foldl (fun (acc : List PendW × Panel) w =>
    if clash w then (acc.1 ++ [{ w with data := Config.freeWord acc.2.free }], acc.2.tookFree) else (acc.1 ++ [w], acc.2)) ([], p)
  |> fun r => r.2.updSeq x (fun q => { q with pw := r.1 })

/-- Scheduled writes of a readout row placed in the front from cycle d: line j of those it touches through lane A when j is even and
through lane B when it is odd (R522); at once when not scheduled. -/
def Panel.writeRow (p : Panel) (x : Cid) (sched : Bool) (d a : Nat) (ws : List W64) : Panel :=
  if sched then
    let row : List PendW := (List.range ws.length).map (fun i =>
      let j := (a + i) / 8 - a / 8
      ⟨d + j / 2, 9 + j % 2, true, a + i, ws.getD i 0⟩)
    (p.laneClash x row).updSeq x (fun q => { q with pw := q.pw ++ row })
  else p.spadWrites x a ws

/-- READ (R74, R76, R77, R522): one conversion of each entry of the row, the checksum compare of a checked tile, and the
delivery to scratchpad or to the Planer. -/
def Panel.doRead (p : Panel) (c0 : Core) (x : Cid) (sched : Bool) (mode m : Nat) (planer : Bool) (stream : Nat) : Panel :=
  let g := c0.seq.gmode mode
  let o := Fmtd.of g.outf
  let dbl := (Fmtd.of g.wf).doubled
  let grp := c0.grid.group m
  let cyc := if sched then c0.seq.cycle else c0.seq.cycle + 6
  let e1 := c0.grid.rowEntries cyc m
  let e2 := if dbl then c0.grid.rowEntries cyc ((m + 256) % 512) else []
  let es := e1 ++ e2
  let p := if es.any (·.xlo) then p.cset x R.gridStatus_inexact_lo 1 else p
  let p := if es.any (·.xhi) then p.cset x R.gridStatus_inexact_hi 1 else p
  let p := if grp.chk then
      let p := p.compareRow x e1
      if dbl then p.compareRow x e2 else p
    else p
  let ts : ScaleRd := if o.fmt = 3 then ScaleTy.e8m0.read g.ots.toNat else ⟨Q.int 1, false, false⟩
  let vals := (List.range es.length).map (fun j =>
    (grp.chk && j % 64 == 63, Q.dy (es.getD j Acc.zero).v.toInt grp.W))
  let (r, p) := p.convertOn x o ts vals
  let codes := r.els.map (·.code)
  if planer then
    let vs := r.vals o ts
    let rows : List GridRow := ⟨c0.seq.cycle + 4, vs.take 64⟩ :: (if dbl then [⟨c0.seq.cycle + 5, vs.drop 64⟩] else [])
    p.updGrid x (fun q => { q with rows := q.rows ++ rows })
  else
    let w := (fmtElem o.fmt).width
    let half := w
    let ws1 := toWords half (packCodes w (codes.take 64))
    let ws2 := if dbl then toWords half (packCodes w (codes.drop 64)) else []
    let a := (c0.seq.stream stream).addr
    let d := c0.seq.cycle + 8
    let p := p.writeRow x sched d a ws1
    let p := p.writeRow x sched (d + 1) (a + ws1.length) ws2
    let lines (a n : Nat) : Nat := (a + n - 1) / 8 - a / 8
    let last := max (d + lines a ws1.length / 2)
      (if dbl then d + 1 + lines (a + ws1.length) ws2.length / 2 else 0)
    let p := p.updGrid x (fun q => { q with rdLast := if sched then last else q.rdLast })
    p.updSeq x (fun q => q.useStream stream)

/-! Held weights (R78). -/

/-- The sum of a lane column's held elements in element units, over data lanes, minus the same sum as loaded. -/
def Plane.columnDrift (pl : Plane) (j : Nat) : Q :=
  let e := fmtElem pl.fmt.fmt
  Q.sum (pl.held.map (fun h =>
    let k := h.1 / 128
    let c := h.1 % 128
    if c % 64 = j ∧ !pl.rowLane k c then (e.read h.2).v.sub (e.read (pl.rawElem k c)).v else Q.zero))

/-- A held element of the active plane changes; in a checked plane the lane column's compare then fails once, and may fail
anew only after it has agreed (R78). -/
def Panel.heldChange (p : Panel) (x : Cid) (k c code : Nat) : Panel :=
  let pl := (p.core x).grid.active
  let w := (fmtElem pl.fmt.fmt).width
  let pl' := { pl with held := sset (fun i => pl.rawElem (i / 128) (i % 128)) pl.held (128 * k + c) (code % 2 ^ w) }
  let j := c % 64
  let differs := decide ((pl'.columnDrift j).n ≠ 0)
  let failed := if differs then (if pl.failed.contains j then pl.failed else pl.failed ++ [j])
    else pl.failed.filter (· != j)
  let p := p.updGrid x (fun g => { g with active := { pl' with failed := if pl.chk then failed else pl.failed } })
  if pl.chk && differs && !pl.failed.contains j then p.failedCompare x else p

/-- HELD_WEIGHT_MISMATCH (R78): an element outside the plane's shape is no lane, and nothing changes. -/
def execHeldWeightMismatch (x : Cid) (k : Fin 128) (col : Fin 128) (code : BitVec 16) (s : State) :
    Host.Outcome State Fault Refusal :=
  onPanel (fun p =>
    let f := (p.core x).grid.active.fmt
    if k.val < f.kStored ∧ col.val < f.cols then p.heldChange x k col code.toNat else p) s

end Sys2Proof.Machine
end

