-- ==== Sys2Proof/Machine/Planer.lean ====
section
/-!
DEFINITION. The Planer row engine: its slot, the conversion stage, the ledger and its operations (R147 to R166).
-/
namespace Sys2Proof.Machine

open Sys2Proof

/-! The slot. -/

/-- A bit field as a number below a bound. -/
def fin {n : Nat} [NeZero n] (k : Nat) : Fin n := Fin.ofNat n k

/-- The PLN slot's operation and fields (Table 6.1). -/
def plnDecode (w : W64) : Nat × PlnSlot :=
  (bits w 63 56,
   { src := fin (bits w 55 54), w := bit w 53, fin := fin (bits w 52 51), ins := fin (bits w 50 48),
     auxs := fin (bits w 47 45), outs := fin (bits w 44 42), scs := fin (bits w 41 39), sds := fin (bits w 38 36),
     fe := fin (bits w 35 33), preg := fin (bits w 32 29), lreg := fin (bits w 28 25), func := fin (bits w 24 21),
     ocm := bit w 20, fl := bit w 19, row := fin (bits w 18 6), rsv := BitVec.ofNat 6 (bits w 5 0) })

/-- The element of an input format code fin (Table 6.1). -/
def finElem : Nat → Elem
  | 0 => .fp32 | 1 => .bf16 | 2 => .e4m3 | _ => .e5m2

/-- The target format descriptor of a slot. -/
def plnTarget (c : Core) (s : PlnSlot) : Fmtd := Fmtd.of (c.seq.gmode s.fe).outf

/-- An operation writes converted results (Table 6.2). -/
def plnConverts (op : Nat) : Bool := op == 1 || op == 3 || op == 7 || op == 8 || op == 9 || op == 10

/-- Lanes that hold input: 64 of one grid row, otherwise 128 (R147, R149). -/
def plnLanes (op : Nat) (s : PlnSlot) : Nat :=
  if s.src = 1 && !s.w && (op == 1 || op == 2 || op == 6 || op == 7 || op == 8 || op == 9) then 64 else 128

/-- Lines of n elements of b bits (R148). -/
def lines (n b : Nat) : Nat := ceilDiv (n * b) 512

/-- The second operand of a gated function (Table 6.3). -/
def gated (func : Nat) : Bool := func == 10 || func == 11

/-- Lines an operation reads through lane A (R148, Table 6.2). -/
def plnA (op : Nat) (s : PlnSlot) : Nat :=
  let n := plnLanes op s
  let b := (finElem s.fin).width
  let x := if s.src = 1 then 0 else lines n b
  (match op with
    | 1 => x | 2 => x + lines n 32 | 3 => 8 | 4 => 8 | 5 => 13 | 6 => x
    | 7 => x + (if s.func = 0 then 8 else 4)
    | 8 => x + (if gated s.func then lines n b else 0)
    | 9 => x | 10 => 2 * lines 128 b | _ => 0) + b2n (s.ocm && plnConverts op)

/-- The word addresses of the lines an operation reads through lane A, in the order it reads them: its main operand, its other
operands as Table 6.2 names them, and the outlier channel map. -/
def plnLines (c : Core) (op : Nat) (s : PlnSlot) : List Nat :=
  let n := plnLanes op s
  let b := (finElem s.fin).width
  let at_ (a k : Nat) : List Nat := (List.range k).map (fun i => a + 8 * i)
  let ins := (c.seq.stream s.ins).addr
  let aux := (c.seq.stream s.auxs).addr
  let x := if s.src = 1 then [] else at_ ins (lines n b)
  (match op with
    | 1 => x | 2 => x ++ at_ aux (lines n 32) | 3 => at_ ins 8 | 4 => at_ ins 8
    | 5 => [ins + s.func] ++ at_ (ins + 8 + 32 * s.func) 4 ++ at_ aux 8
    | 6 => x | 7 => x ++ at_ aux (if s.func = 0 then 8 else 4)
    | 8 => x ++ (if gated s.func then at_ aux (lines n b) else [])
    | 9 => x | 10 => at_ ins (lines 128 b) ++ at_ aux (lines 128 b) | _ => [])
  ++ (if s.ocm && plnConverts op then [(c.seq.stream s.sds).addr] else [])

/-- Lines an operation writes through lane B (R148, R152). -/
def plnB (c : Core) (op : Nat) (s : PlnSlot) : Nat :=
  let f := plnTarget c s
  if plnConverts op then
    lines (plnLanes op s) (fmtElem f.fmt).width + b2n f.scaled + b2n s.ocm
  else match op with
    | 2 => lines (plnLanes op s) 32 | 4 => 5 | 5 => 8 | _ => 0

/-- The occupancy of an operation (R148). -/
def plnOcc (c : Core) (op : Nat) (s : PlnSlot) : Nat :=
  max (max 1 (max (plnA op s) (plnB c op s))) (if s.src = 1 then 1 + b2n s.w else 1)

/-- The scale bytes a conversion of n elements appends (R152). -/
def scaleBytes (f : Fmtd) (n : Nat) : Nat :=
  if f.scaled then ceilDiv n f.block * (fmtScale f.fmt).bytes else 0

/-- A function code that Table 6.2's operation gives a meaning (R153, R161, R164, R165). -/
def plnFuncOk (op func : Nat) : Bool :=
  match op with
  | 4 => decide (func < 8) | 5 => decide (func < 8) | 6 => decide (func < 2) | 7 => decide (func < 2)
  | 8 => decide (func < 12) | 10 => decide (func < 2) | _ => true

/-- A PLN slot is legal (R151); an operation of 0 does nothing and is legal.  `sched` adds the occupancy of the operation
before. -/
def Core.plnOk (c : Core) (sched : Bool) (op : Nat) (s : PlnSlot) : Bool :=
  if op = 0 then true
  else
    let f := plnTarget c s
    decide (op ≤ 0xB) && decide (s.src.val ≤ 1) && decide (s.rsv = 0) &&
      (!sched || decide (c.pln.freeAt ≤ c.seq.cycle)) && plnFuncOk op s.func &&
      !(op == 10 && decide (8128 < s.row.val)) &&
      (!plnConverts op ||
        (f.legal .o && !(s.ocm && !(fmtRole f.fmt .a)) &&
          !(s.ocm && decide (5 < (c.seq.stream s.sds).addr % 8)) &&
          decide (c.pln.asm.length + scaleBytes f (plnLanes op s) ≤ 8)))

/-! Inputs. -/

/-- n elements read from scratchpad at a word address: values, codes' alarms counted, and the panel (R39). -/
def Panel.plnRead (p : Panel) (x : Cid) (e : Elem) (n a : Nat) : List Q × Panel :=
  let (ws, _, p) := p.spadReads x a (ceilDiv (n * e.width) 64)
  let packed := ofWords ws
  let rs := (List.range n).map (fun i => e.read (codeAt e.width packed i))
  (rs.map (·.v), p.rangeAlarm x (rs.filter (·.alarm)).length)

/-- The grid row an operation takes in a cycle: that cycle's row, or the oldest where not scheduled; zeros and src_miss where
there is none (R149). -/
def Panel.takeRow (p : Panel) (x : Cid) (sched : Bool) (cycle : Nat) : List Q × Panel :=
  match (p.core x).grid.rows.find? (fun r => !sched || r.cycle == cycle) with
  | some r => (r.vals, p.updGrid x (fun g => { g with rows := g.rows.erase r }))
  | none => (List.replicate 64 Q.zero, p.cset x R.plnStatus_src_miss 1)

/-- The main input of an operation: grid rows or the ins stream (R149). -/
def Panel.plnInput (p : Panel) (c0 : Core) (x : Cid) (sched : Bool) (op : Nat) (s : PlnSlot) : List Q × Panel :=
  if s.src = 1 then
    let (a, p) := p.takeRow x sched c0.seq.cycle
    if s.w then
      let (b, p) := p.takeRow x sched (c0.seq.cycle + 1)
      (a ++ b, p)
    else (a, p)
  else
    let (v, p) := p.plnRead x (finElem s.fin) (plnLanes op s) (c0.seq.stream s.ins).addr
    (v, p.updSeq x (fun q => q.useStream s.ins))

/-- The FP32 operand at a stream of the slot. -/
def Panel.plnFp32 (p : Panel) (c0 : Core) (x : Cid) (n : Nat) (stream : Nat) : List Q × Panel :=
  let (v, p) := p.plnRead x .fp32 n (c0.seq.stream stream).addr
  (v, p.updSeq x (fun q => q.useStream stream))

/-- Whether lane i is valid (R149). -/
def laneValid (c0 : Core) (s : PlnSlot) (i : Nat) : Bool :=
  s.lreg.val == 0 || decide (i < (c0.seq.sreg s.lreg).toNat)

/-! Outputs. -/

/-- Words written by the Planer through lane B from line j0 of an operation's lines onward: at cycle q + 24 + j for line j, or at
once where not scheduled (R148). -/
def Panel.plnWrite (p : Panel) (c0 : Core) (x : Cid) (sched : Bool) (j0 a : Nat) (ws : List W64) : Panel :=
  if sched then
    p.updSeq x (fun q => { q with
      pw := q.pw ++ (List.range ws.length).map (fun i => ⟨c0.seq.cycle + 24 + j0 + i / 8, 10, false, a + i, ws.getD i 0⟩) })
  else p.spadWrites x a ws

/-- FP32 results written at a stream, with those beyond the FP32 range counted (R154). -/
def Panel.plnOutFp32 (p : Panel) (c0 : Core) (x : Cid) (sched : Bool) (stream : Nat) (vs : List Q) : Panel :=
  let rs := vs.map toFp32
  let p := p.rangeAlarm x (rs.filter (·.2)).length
  let p := p.plnWrite c0 x sched 0 (c0.seq.stream stream).addr
    (toWords (ceilDiv vs.length 2) (packCodes 32 (rs.map (·.1.toNat))))
  p.updSeq x (fun q => q.useStream stream)

/-- The outlier watch (R57): the channel positions of main-path elements that exceed the threshold or saturate. -/
def watchMask (en : Bool) (thresh : Q) (skip : List Nat) (row : List Q) (els : List Wr) : Nat :=
  (List.range row.length).foldl (fun m i =>
    if !skip.contains i && ((en && thresh.lt (row.getD i Q.zero).abs) || (els.getD i ⟨0, false⟩).sat) then
      m ||| 2 ^ (i % 128) else m) 0

/-- The scale assembly after appending bytes (R152): the word to write, if any, and the bytes held. -/
def assemble (asm new : List Nat) (flush : Bool) : Option W64 × List Nat :=
  let l := asm ++ new
  if l.length ≥ 8 then (some (w64 (packCodes 8 (l.take 8))), l.drop 8)
  else if flush && !l.isEmpty then (some (w64 (packCodes 8 l)), [])
  else (none, l)

/-- Bytes of block-scale codes, in block order (R44). -/
def scaleCodeBytes (f : Fmtd) (codes : List Nat) : List Nat :=
  codes.flatMap (fun c => if (fmtScale f.fmt).bytes = 2 then [c % 256, c / 256 % 256] else [c % 256])

/-- The conversion stage (R152): elements at outs, scales through the assembly word, the side record of an outlier target and
the outlier watch.  Answers the values as written, in lane order with those of the side record. -/
def Panel.plnConvert (p : Panel) (c0 : Core) (x : Cid) (sched : Bool) (s : PlnSlot) (row : List Q) : List Q × Panel :=
  let f := plnTarget c0 s
  let sdA := (c0.seq.stream s.sds).addr
  let (mapW, p) := if s.ocm then (let (w, _, p) := p.spadRead x sdA; (w, p)) else ((0 : W64), p)
  let outs := if s.ocm then
      (List.range 8).map (fun j => let b := codeAt 8 mapW.toNat j; (decide (b ≥ 128), b % 128)) else []
  let skip := (outs.filter (·.1)).map (·.2)
  let ts : ScaleRd := if f.fmt = 3 then ScaleTy.e8m0.read ((c0.seq.sreg s.preg).toNat % 256) else ⟨Q.int 1, false, false⟩
  let (r, p) := p.convertOn x f ts ((List.range row.length).map (fun i => (skip.contains i, row.getD i Q.zero)))
  let en := p.cget x R.outlierThresh_en == 1
  let thr := (Elem.read .bf16 (p.cget x R.outlierThresh_thresh % 0x8000)).v
  let finite := decide (p.cget x R.outlierThresh_thresh % 0x8000 < 0x7F80)
  let m := watchMask (en && finite) thr skip row r.els
  let p := p.each (List.range 4) (fun p k => p.orReg (coreB x.t x.c + R.outlierMask + 4 * k) (w32 (m / 2 ^ (32 * k))))
  let w := (fmtElem f.fmt).width
  let nl := lines row.length w
  let p := p.plnWrite c0 x sched 0 (c0.seq.stream s.outs).addr
    (toWords (ceilDiv (row.length * w) 64) (packCodes w (r.els.map (·.code))))
  let p := p.updSeq x (fun q => q.useStream s.outs)
  let p := if f.scaled then
      let (word, held) := assemble (p.core x).pln.asm (scaleCodeBytes f r.scales) s.fl
      let p := p.updPln x (fun l => { l with asm := held })
      let p := p.cset x R.plnStatus_asm_held (b2n (!held.isEmpty))
      match word with
      | some v => (p.plnWrite c0 x sched nl (c0.seq.stream s.scs).addr [v]).updSeq x (fun q => q.useStream s.scs)
      | none => p
    else p
  if s.ocm then
    let sv := outs.map (fun o => if o.1 then row.getD o.2 Q.zero else Q.zero)
    let code := mxScale (Q.int 448) (amaxOf sv)
    let sc := (ScaleTy.e8m0.read code).v
    let (ws, cv) := convElems 6 f.rnd sc sv ⟨p.lfsr x, 0⟩
    let p := if f.rnd then p.updCore x (fun c => { c with lfsr := some cv.g }) else p
    let p := p.rangeAlarm x cv.alarms
    let p := p.plnWrite c0 x sched (nl + b2n f.scaled) (sdA + 1) [w64 (packCodes 8 (ws.map (·.code))), w64 code]
    let p := p.updSeq x (fun q => q.useStream s.sds)
    (r.vals f ts ++ ws.map (fun e => (Elem.read .e4m3 e.code).v.mul sc), p)
  else (r.vals f ts, p)

/-! The ledger (R155). -/

/-- A ledger row. -/
def Core.ledger (c : Core) (r : Nat) : W64 := sget ledgerReset c.pln.ledger r
/-- A ledger row written. -/
def Panel.setLedger (p : Panel) (x : Cid) (r : Nat) (v : W64) : Panel :=
  p.updPln x (fun l => { l with ledger := sset ledgerReset l.ledger r v })
/-- The attention view of a row: empty, max, shift and sum (Table 6.4). -/
def rowMax (v : W64) : Int := (BitVec.ofNat 16 (bits v 63 48)).toInt
/-- The shift field. -/
def rowShift (v : W64) : Nat := bits v 47 32
/-- The low word: sum, or M2, or a state. -/
def rowLow (v : W64) : W32 := w32 (bits v 31 0)
/-- The high word: mean, or a state. -/
def rowHigh (v : W64) : W32 := w32 (bits v 63 32)
/-- An empty row. -/
def rowEmpty (v : W64) : Bool := bits v 63 48 == 0x8000
/-- An attention row from its fields. -/
def mkRow (max : Int) (shift : Nat) (sum : W32) : W64 :=
  BitVec.ofInt 16 max ++ (BitVec.ofNat 16 shift ++ sum : BitVec 48)
/-- 2^−k, and 0 for a k of 0xFFFF or more. -/
def shiftQ (k : Nat) : Q := if k ≥ 0xFFFF then Q.zero else Q.dy 1 (-(k : Int))

/-! Operations. -/

/-- SMAX (R158). -/
def Panel.doSmax (p : Panel) (c0 : Core) (x : Cid) (sched : Bool) (s : PlnSlot) : Panel :=
  let (xs, p) := p.plnInput c0 x sched 1 s
  let old := (p.core x).ledger s.row
  let sigma := fp32Val (c0.seq.sreg s.preg)
  let valid := (List.range xs.length).filter (laneValid c0 s)
  if valid.isEmpty then
    let (_, p) := p.plnConvert c0 x sched s (List.replicate xs.length Q.zero)
    p.setLedger x s.row (setBits old 47 32 (if rowEmpty old then 0xFFFF else 0))
  else
    let top := Q.int 32767
    let raw := (List.range xs.length).map (fun i => fp32Val (toFp32 (sigma.mul (xs.getD i Q.zero))).1)
    let above := (valid.filter (fun i => top.lt (raw.getD i Q.zero))).length
    let y (i : Nat) : Q := let v := raw.getD i Q.zero; if top.lt v then top else v
    let m0 := valid.foldl (fun m i => Q.max m (y i)) (y (valid.headD 0))
    let b := max (-32767) m0.ceil
    let mNew := if rowEmpty old then b else max (rowMax old) b
    let k := if rowEmpty old then 0xFFFF else (mNew - rowMax old).toNat
    let ps := (List.range xs.length).map (fun i =>
      if valid.contains i then (exp2Out ((y i).sub (Q.int mNew))).r else 0)
    let p := p.rangeAlarm x above
    let (written, p) := p.plnConvert c0 x sched s (ps.map fp32Val)
    let l := ((shiftQ k).mul (fp32Val (rowLow old))).add (Q.sum written)
    p.setLedger x s.row (mkRow mNew k (toFp32 l).1)

/-- OFOLD (R159). -/
def Panel.doOfold (p : Panel) (c0 : Core) (x : Cid) (sched : Bool) (s : PlnSlot) : Panel :=
  let (g, p) := p.plnInput c0 x sched 2 s
  let k := rowShift ((p.core x).ledger s.row)
  if k = 0xFFFF then (p.updSeq x (fun q => q.useStream s.auxs)).plnOutFp32 c0 x sched s.outs g
  else
    let (o, p) := p.plnFp32 c0 x g.length s.auxs
    p.plnOutFp32 c0 x sched s.outs
      ((List.range g.length).map (fun i => ((shiftQ k).mul (o.getD i Q.zero)).add (g.getD i Q.zero)))

/-- ODIV (R160). -/
def Panel.doOdiv (p : Panel) (c0 : Core) (x : Cid) (sched : Bool) (s : PlnSlot) : Panel :=
  let (o, p) := p.plnFp32 c0 x 128 s.ins
  let row := (p.core x).ledger s.row
  let sum := fp32Val (rowLow row)
  if rowEmpty row || sum.n == 0 then (p.plnConvert c0 x sched s (List.replicate 128 Q.zero)).2
  else
    let r := recipOut false sum
    let rs := o.map (fun v => toFp32 (v.mul (fp32Val r.r)))
    let p := p.rangeAlarm x (b2n r.alarm + (rs.filter (·.2)).length)
    (p.plnConvert c0 x sched s (rs.map (fun v => fp32Val v.1))).2

/-- LPACK (R161): the header of slot j and the row's O in BF16. -/
def Panel.doLpack (p : Panel) (c0 : Core) (x : Cid) (sched : Bool) (s : PlnSlot) : Panel :=
  let (o, p) := p.plnFp32 c0 x 128 s.ins
  let row := (p.core x).ledger s.row
  let a := (c0.seq.stream s.outs).addr
  let rs := o.map (fun v => roundElem 0xB .rne v)
  let p := p.rangeAlarm x (rs.filter (·.sat)).length
  let p := p.plnWrite c0 x sched 0 (a + s.func) [setBits row 47 32 0]
  let p := p.plnWrite c0 x sched 1 (a + 8 + 32 * s.func) (toWords 32 (packCodes 16 (rs.map (·.code))))
  p.updSeq x (fun q => q.useStream s.outs)

/-- LMERGE (R162). -/
def Panel.doLmerge (p : Panel) (c0 : Core) (x : Cid) (sched : Bool) (s : PlnSlot) : Panel :=
  let a := (c0.seq.stream s.ins).addr
  let (hd, _, p) := p.spadRead x (a + s.func)
  let (bo, p) := p.plnRead x .bf16 128 (a + 8 + 32 * s.func)
  let p := p.updSeq x (fun q => q.useStream s.ins)
  let (ao, p) := p.plnFp32 c0 x 128 s.auxs
  let old := (p.core x).ledger s.row
  let p := p.rangeAlarm x (b2n (fp32Rd (rowLow hd)).alarm)
  let lb := fp32Val (rowLow hd)
  if rowEmpty hd then
    p.plnOutFp32 c0 x sched s.outs (ao.map (fun v => (shiftQ (rowShift old)).mul v))
  else if rowEmpty old then
    (p.setLedger x s.row (mkRow (rowMax hd) 0 (toFp32 lb).1)).plnOutFp32 c0 x sched s.outs bo
  else
    let m := max (rowMax old) (rowMax hd)
    let ka := (m - rowMax old).toNat + rowShift old
    let kb := (m - rowMax hd).toNat
    let l := ((shiftQ ka).mul (fp32Val (rowLow old))).add ((shiftQ kb).mul lb)
    (p.setLedger x s.row (mkRow m 0 (toFp32 l).1)).plnOutFp32 c0 x sched s.outs
      ((List.range 128).map (fun i =>
        ((shiftQ ka).mul (ao.getD i Q.zero)).add ((shiftQ kb).mul (bo.getD i Q.zero))))

/-- STAT (R164): each field within 2 units in the last place of the exact value.  The statistics of no lane at all, with no
element before them, have no stated value: both fields are then free. -/
def Panel.doStat (p : Panel) (c0 : Core) (x : Cid) (sched : Bool) (s : PlnSlot) : Panel :=
  let (xs, p) := p.plnInput c0 x sched 6 s
  let old := (p.core x).ledger s.row
  let na := (c0.seq.sreg s.preg).toNat
  let vs := ((List.range xs.length).filter (laneValid c0 s)).map (fun i => xs.getD i Q.zero)
  let nb := vs.length
  let sq (l : List Q) : Q := Q.sum (l.map (fun v => v.mul v))
  if s.func = 0 then
    if nb = 0 then
      if na = 0 then (p.setLedger x s.row (Config.freeWord p.free)).tookFree else p
    else
      let mx := (Q.sum vs).div (Q.int nb)
      let m2x := sq (vs.map (fun v => v.sub mx))
      let mean := fp32Val (rowHigh old)
      let d := mx.sub mean
      let (em, e2) :=
        if na = 0 then (mx, m2x)
        else (mean.add ((d.mul (Q.int nb)).div (Q.int (na + nb))),
              ((fp32Val (rowLow old)).add m2x).add
                ((((d.mul d).mul (Q.int na)).mul (Q.int nb)).div (Q.int (na + nb))))
      p.setLedger x s.row (statOut 0 mx mean em ++ statOut 1 m2x mean e2)
  else
    let e2 := if na = 0 then sq vs else (fp32Val (rowLow old)).add (sq vs)
    p.setLedger x s.row ((0 : W32) ++ statOut 1 (sq vs) Q.zero e2)

/-- NORM (R164). -/
def Panel.doNorm (p : Panel) (c0 : Core) (x : Cid) (sched : Bool) (s : PlnSlot) : Panel :=
  let (xs, p) := p.plnInput c0 x sched 7 s
  let a := (c0.seq.stream s.auxs).addr
  let (ga, p) := p.plnRead x .bf16 128 a
  let (be, p) := if s.func = 0 then p.plnRead x .bf16 128 (a + 32) else ([], p)
  let p := p.updSeq x (fun q => q.useStream s.auxs)
  let n := (c0.seq.sreg s.preg).toNat
  if n = 0 then
    ((p.rangeAlarm x 1).plnConvert c0 x sched s (List.replicate xs.length Q.zero)).2
  else
    let row := (p.core x).ledger s.row
    let eps := fp32Val (p.crd x R.plnEps)
    let r := rsqrtOut (((fp32Val (rowLow row)).div (Q.int n)).add eps)
    let mean := if s.func = 0 then fp32Val (rowHigh row) else Q.zero
    let rs := (List.range xs.length).map (fun i =>
      toFp32 (((((xs.getD i Q.zero).sub mean).mul (fp32Val r.r)).mul (ga.getD i Q.zero)).add (be.getD i Q.zero)))
    let p := p.rangeAlarm x (b2n r.alarm + (rs.filter (·.2)).length)
    (p.plnConvert c0 x sched s (rs.map (fun v => fp32Val v.1))).2

/-- ACT (R153). -/
def Panel.doAct (p : Panel) (c0 : Core) (x : Cid) (sched : Bool) (s : PlnSlot) : Panel :=
  let (xs, p) := p.plnInput c0 x sched 8 s
  let (ys, p) := if gated s.func then
      let (v, p) := p.plnRead x (finElem s.fin) xs.length (c0.seq.stream s.auxs).addr
      (v, p.updSeq x (fun q => q.useStream s.auxs))
    else ([], p)
  let rs := (List.range xs.length).map (fun i =>
    let v := xs.getD i Q.zero
    plnFunc s.func (decide (v.n < 0)) v (ys.getD i Q.zero))
  let p := p.rangeAlarm x (rs.filter (·.alarm)).length
  (p.plnConvert c0 x sched s (rs.map (fun r => fp32Val r.r))).2

/-- QUANT (R152): conversion only. -/
def Panel.doQuant (p : Panel) (c0 : Core) (x : Cid) (sched : Bool) (s : PlnSlot) : Panel :=
  let (xs, p) := p.plnInput c0 x sched 9 s
  (p.plnConvert c0 x sched s xs).2

/-- The 128 states in ledger rows r to r + 63 (Table 6.4). -/
def Core.scanState (c : Core) (r : Nat) : List Q :=
  (List.range 128).map (fun i =>
    let v := c.ledger (r + i / 2)
    fp32Val (if i % 2 = 0 then rowLow v else rowHigh v))

/-- SCAN (R165). -/
def Panel.doScan (p : Panel) (c0 : Core) (x : Cid) (sched : Bool) (s : PlnSlot) : Panel :=
  let e := finElem s.fin
  let (b, p) := p.plnRead x e 128 (c0.seq.stream s.ins).addr
  let (a, p) := p.plnRead x e 128 (c0.seq.stream s.auxs).addr
  let p := p.updSeq x (fun q => (q.useStream s.ins).useStream s.auxs)
  let h := if s.fl then List.replicate 128 Q.zero else (p.core x).scanState s.row
  let ae := a.map (fun v => if s.func = 1 then (let o := exp2Out v; (fp32Val o.r, o.alarm)) else (v, false))
  let rs := (List.range 128).map (fun i =>
    toFp32 (((ae.getD i (Q.zero, false)).1.mul (h.getD i Q.zero)).add (b.getD i Q.zero)))
  let p := p.rangeAlarm x ((ae.filter (·.2)).length + (rs.filter (·.2)).length)
  let p := p.each (List.range 64) (fun p i =>
    p.setLedger x (s.row + i) ((rs.getD (2 * i + 1) (0, false)).1 ++ (rs.getD (2 * i) (0, false)).1))
  (p.plnConvert c0 x sched s (rs.map (fun v => fp32Val v.1))).2

/-- LCLR (R156): empties rows row to min(row + n, 8,192) − 1. -/
def Panel.doLclr (p : Panel) (c0 : Core) (x : Cid) (s : PlnSlot) : Panel :=
  let n := (c0.seq.sreg s.preg).toNat
  p.updPln x (fun l => { l with ledger := l.ledger.filter (fun e => !(decide (s.row.val ≤ e.1) && decide (e.1 < s.row + n))) })

/-- The scheduled reads of an operation after its first (R148). -/
def Core.laterLines (c0 : Core) (op : Nat) (s : PlnSlot) : List Access :=
  let ls := plnLines c0 op s
  (List.range (ls.length - 1)).map (fun i => ⟨c0.seq.cycle + 1 + i, 9, ls.getD (i + 1) 0⟩)

/-- The words of the lines that an operation reads while a readout row uses lane A are undefined (R522): the panel with free
words in them, and the cells they had. -/
def Panel.laneA (p : Panel) (c0 : Core) (x : Cid) (op : Nat) (s : PlnSlot) : List (Nat × W76) × Panel :=
  let ls := plnLines c0 op s
  let bad := (List.range ls.length).filter (fun j =>
    c0.seq.pw.any (fun w => w.row && w.port == 9 && w.cycle == c0.seq.cycle + j))
  let as := bad.flatMap (fun j => (List.range 8).map (fun i => (ls.getD j 0 + i) % 2 ^ 19))
  as.foldl (fun (acc : List (Nat × W76) × Panel) a =>
    (acc.1 ++ [(a, (p.core x).cell a)],
     (acc.2.updCore x (fun c => { c with spad := sset spadReset c.spad a (ssc76Enc (Config.freeWord acc.2.free)) })).tookFree))
    ([], p)

/-- Cells put back. -/
def Panel.putCells (p : Panel) (x : Cid) (l : List (Nat × W76)) : Panel :=
  p.updCore x (fun c => { c with spad := l.foldl (fun m e => sset spadReset m e.1 e.2) c.spad })

/-- A Planer operation by its code, with its occupancy and time in the pipeline (R147, R148, Table 6.2). -/
def Panel.doPln (p : Panel) (c0 : Core) (x : Cid) (sched : Bool) (op : Nat) (s : PlnSlot) : Panel :=
  if op = 0 then p
  else
    let (old, p) := if sched then p.laneA c0 x op s else ([], p)
    let p := match op with
      | 1 => p.doSmax c0 x sched s
      | 2 => p.doOfold c0 x sched s
      | 3 => p.doOdiv c0 x sched s
      | 4 => p.doLpack c0 x sched s
      | 5 => p.doLmerge c0 x sched s
      | 6 => p.doStat c0 x sched s
      | 7 => p.doNorm c0 x sched s
      | 8 => p.doAct c0 x sched s
      | 9 => p.doQuant c0 x sched s
      | 10 => p.doScan c0 x sched s
      | _ => p.doLclr c0 x s
    let p := if old.isEmpty then p else p.putCells x old
    if !sched then p else (p.updSeq x (fun q => { q with acc := q.acc ++ c0.laterLines op s })).updPln x (fun l => { l with
      freeAt := c0.seq.cycle + plnOcc c0 op s, busyTo := c0.seq.cycle + 24 + max 1 (plnB c0 op s) })

end Sys2Proof.Machine
end

