-- ==== Sys2Proof/Machine/CoreRegs.lean ====
section
/-!
DEFINITION. Reading registers with the latch of R481, and writes of a core page (R134, R135, R138 to R143, R197, R494,
R496, R497).
-/
namespace Sys2Proof.Machine

open Sys2Proof

/-- A compute-block register reads 0 and ignores writes: its region is in NAP or DARK, its compute reset is in progress, or
the core is held in reset as Tally-bad (R494). -/
def Panel.computeDead (p : Panel) (x : Cid) : Bool :=
  decide (2 ≤ p.regionState x) || (p.core x).resetting || p.bad.contains x.key

/-- A trap is pending at a sequencer: one made pending, or an ABFT condition whose trap is enabled (R113). -/
def Panel.trapPending (p : Panel) (x : Cid) : Bool :=
  !(p.core x).seq.traps.isEmpty || (p.cget x R.seqStatus_abft_cond == 1 && p.cget x R.seqCtl_abft_trap == 1)

/-- The value a read of a register or counter word returns, with no latch held (R479). -/
def Panel.regVal (p : Panel) (a : Nat) : W32 :=
  if (ctrKindAt a).isSome then (p.ctr a).lo
  else if a % 8 = 4 ∧ (ctrKindAt (a - 4)).isSome then (p.ctr (a - 4)).hi
  else match blkOf a with
  | .tile t o =>
    if o = R.ptcVal then w32 (p.ptcNs t) else if o = R.ptcVal + 4 then w32 (p.ptcNs t / 2 ^ 32) else p.rd a
  | .keep o =>
    if o = R.kPtcVal then w32 (p.ptcNs p.keeperNode)
    else if o = R.kPtcVal + 4 then w32 (p.ptcNs p.keeperNode / 2 ^ 32) else p.rd a
  | .core t c o =>
    let x := cid t c
    if computeOff o && p.computeDead x then 0
    else if o = R.seqStatus then setBits (p.rd a) 11 11 (b2n (p.trapPending x))
    else p.rd a
  | _ => p.rd a

/-- The LO words whose reads latch their HI halves (R481). -/
def isLo (a : Nat) : Bool :=
  (ctrKindAt a).isSome || (match blkOf a with
    | .tile _ o => o == R.ptcVal
    | .keep o => o == R.kPtcVal || o == R.ptcPpsCap
    | .glob o => o == R.tallyData
    | .core _ _ o => o == R.srSeed
    | _ => false)

/-- A read of a register by an accessor (R479, R481): accessors 0 to 3 are the host ports, 4 the keeper, and 5 + 64t + c the
sequencer of core c of tile t. -/
def Panel.regRead (p : Panel) (acc a : Nat) : W32 × Panel :=
  match p.latches.find? (fun l => l.1 == acc && l.2.1 == a) with
  | some l => (l.2.2, { p with latches := p.latches.erase l })
  | none =>
    (p.regVal a,
      if isLo a then
        { p with latches := p.latches.filter (fun l => !(l.1 == acc && l.2.1 == a + 4)) ++ [(acc, a + 4, p.regVal (a + 4))] }
      else p)

/-- A write by the access types (R11, R479): RW fields take the value, W1C bits written as 1 clear. -/
def Panel.plainWrite (p : Panel) (a : Nat) (v : W32) : Panel :=
  match rowAt a with
  | none => p
  | some r =>
    let old := p.rd a
    p.wr a ((old &&& ~~~ (w32 r.rw) &&& ~~~ (v &&& w32 r.w1c)) ||| (v &&& w32 r.rw))

/-- SR_SEED_LO written: the held value changes and the generator does not (R496). -/
def Panel.seedLo (p : Panel) (x : Cid) (v : W32) : Panel :=
  let g := p.lfsr x
  (p.updCore x (fun c => { c with lfsr := some g })).cwr x R.srSeed v

/-- SR_SEED_HI written: the generator is loaded from HI:LO, a value of 0 loading 1 (R496). -/
def Panel.seedHi (p : Panel) (x : Cid) (v : W32) : Panel :=
  let p := p.cwr x (R.srSeed + 4) v
  let seed := lfsrSeed (w64 ((p.crd x R.srSeed).toNat + 2 ^ 32 * v.toNat))
  p.updCore x (fun c => { c with lfsr := some seed })

/-- A write at an offset of a core's page (R493, R494). -/
def Panel.coreWrite (p : Panel) (x : Cid) (o : Nat) (v : W32) : Panel :=
  if computeOff o && p.computeDead x then p
  else if o = R.larderCtl then p.larderCtl x v
  else if (o = R.larderDepth ∨ o = R.larderProd ∨ o = R.larderTok ∨ o = R.larderSpillBase) ∧ p.larOn x then p.larErr x
  else if o = R.larderRel then p.larderRel x v
  else if o = R.coreRetain then p.coreRetain x v
  else if o = R.dramRetire then p.dramRetire x v
  else if o = R.srSeed then p.seedLo x v
  else if o = R.srSeed + 4 then p.seedHi x v
  else p.plainWrite (coreB x.t x.c + o) v

/-- LARDER_ENABLE: a write of LARDER_CTL (R139). -/
def execLarderEnable (x : Cid) (v : BitVec 32) (s : State) : Host.Outcome State Fault Refusal :=
  onPanel (fun p => p.coreWrite x R.larderCtl v) s

/-- LARDER_DISABLE: a write of LARDER_CTL (R140). -/
def execLarderDisable (x : Cid) (v : BitVec 32) (s : State) : Host.Outcome State Fault Refusal :=
  onPanel (fun p => p.coreWrite x R.larderCtl v) s

/-- LARDER_REL: a write of LARDER_REL (R143). -/
def execLarderRel (x : Cid) (v : BitVec 32) (s : State) : Host.Outcome State Fault Refusal :=
  onPanel (fun p => p.coreWrite x R.larderRel v) s

/-- SR_SEED_HI_WRITE (R496). -/
def execSrSeedHiWrite (x : Cid) (v : BitVec 32) (s : State) : Host.Outcome State Fault Refusal :=
  onPanel (fun p => p.coreWrite x (R.srSeed + 4) v) s

/-- SR_SEED_LO_WRITE (R496). -/
def execSrSeedLoWrite (x : Cid) (v : BitVec 32) (s : State) : Host.Outcome State Fault Refusal :=
  onPanel (fun p => p.coreWrite x R.srSeed v) s

end Sys2Proof.Machine
end

