-- ==== Sys2Proof/Machine/HostCmd.lean ====
section
/-!
DEFINITION. Commands in flight: finding, waiting and completing them (R430 to R440).
-/
namespace Sys2Proof.Machine

open Sys2Proof

/-- The opcode of a descriptor (Table 17.7). -/
def Cmd.opcode (c : Cmd) : Nat := bits c.desc 15 0
/-- The flags of a descriptor. -/
def Cmd.flags (c : Cmd) : Nat := bits c.desc 39 32
/-- The epoch a descriptor carries. -/
def Cmd.epoch (c : Cmd) : Nat := bits c.desc 63 48
/-- The time limit in ms; 0 stands for 10,000. -/
def Cmd.tmo (c : Cmd) : Nat := if bits c.desc 79 64 = 0 then 10000 else bits c.desc 79 64
/-- The target word (R433). -/
def Cmd.target (c : Cmd) : Nat := bits c.desc 127 96
/-- The tile field of the target. -/
def Cmd.tile (c : Cmd) : Nat := c.target % 256
/-- The core field of the target. -/
def Cmd.core (c : Cmd) : Nat := c.target / 256 % 64
/-- The region field of the target. -/
def Cmd.region (c : Cmd) : Nat := c.target / 2 ^ 14 % 4
/-- The stand field of the target. -/
def Cmd.stand (c : Cmd) : Nat := c.target / 2 ^ 16 % 16
/-- P[a], one byte of the parameters. -/
def Cmd.p (c : Cmd) (a : Nat) : Nat := bits c.desc (128 + 8 * a + 7) (128 + 8 * a)
/-- n bytes of the parameters from P[a]. -/
def Cmd.pn (c : Cmd) (a n : Nat) : Nat := bits c.desc (128 + 8 * a + 8 * n - 1) (128 + 8 * a)
/-- The port and tag that name a command. -/
def Cmd.key (c : Cmd) : Nat × Nat := (c.port, c.tag)

/-- A command in flight by its port and tag. -/
def Panel.cmd (p : Panel) (k : Nat × Nat) : Option Cmd := p.host.cmds.find? (fun c => c.key == k)
/-- A command in flight replaced. -/
def Panel.setCmd (p : Panel) (c : Cmd) : Panel :=
  { p with host := { p.host with cmds := p.host.cmds.map (fun d => if d.key = c.key then c else d) } }

/-- A command completes (R430, R434): its entry is written, unless its port has been reset since (R369). -/
def Panel.cmdEnd (p : Panel) (k : Nat × Nat) (st : Nat) (res : List Byte) : Panel :=
  match p.cmd k with
  | none => p
  | some c =>
    let p := { p with host := { p.host with cmds := p.host.cmds.filter (fun d => d.key != k) } }
    if c.mute then p
    else p.cqe c.port (p.qget c.port c.sq R.sqCfg_cq) c.tag st 0 c.opcode c.sq (p.qget c.port c.sq R.qSts_sq_head) res

/-- The result of a SELFTEST (Table 17.10): the targets that passed, failed and were aborted, the lowest that failed and its first
failing phase. -/
def Panel.testResult (p : Panel) (t mask : Nat) : List Byte :=
  let cs := (List.range 64).filter (fun c => mask.testBit c && !p.bad.contains (coreKey t c))
  let of (k : Nat) : List Nat := cs.filter (fun c => p.cget (cid t c) R.selftestRes_result == k)
  let low := match (of 2).head? with
    | some c => toBytes 1 c ++ toBytes 1 (p.cget (cid t c) R.selftestRes_first)
    | none => [0xFF, 0]
  toBytes 1 (of 1).length ++ toBytes 1 (of 2).length ++ toBytes 1 (of 3).length ++ low

/-- The result of a command whose parts have all ended (Table 17.10): POWER_STATE reads the state reached, which a
region whose entry is committed is on its way to, and other commands have kept theirs. -/
def Panel.cmdResult (p : Panel) (c : Cmd) : List Byte :=
  if c.opcode = 0x40 then
    match c.p 0 with
    | 0 => toBytes 1 (((p.region c.tile c.region).commit).getD (p.rget c.tile c.region R.regionState_state))
    | 1 => toBytes 1 (if (p.tile c.tile).rails then 0 else 3)
    | _ => toBytes 1 (bits (p.rd (keeperB + R.panelState)) 1 0)
  else if c.opcode = 0x23 then toBytes 4 (p.rd (keeperB + R.stepSts)).toNat
  else if c.opcode = 0x61 then p.testResult c.tile (c.pn 0 8)
  else if c.opcode = 0x90 then
    toBytes 1 ((List.range 64).filter (fun q => [3, 6].contains (bits (p.rd (keeperB + R.ykPortSts + 4 * q)) 31 28))).length ++ [0] ++
      toBytes 2 p.panelId
  else c.res

/-- One part of a command's work ends with a status: with the last part the command completes, with the first status that was
not OK. -/
def Panel.cmdPart (p : Panel) (k : Nat × Nat) (part st : Nat) : Panel :=
  match p.cmd k with
  | none => p
  | some c =>
    if !c.waits.contains part then p
    else
      let c := { c with waits := c.waits.erase part, st := if c.st = 0 then st else c.st }
      let p := p.setCmd c
      if c.waits.isEmpty then p.cmdEnd k c.st (p.cmdResult c) else p

/-- The same part of every command of a list. -/
def Panel.cmdParts (p : Panel) (ks : List (Nat × Nat)) (part st : Nat) : Panel :=
  p.each ks (fun p k => p.cmdPart k part st)

/-! The parts commands wait for. -/

/-- Region r of tile t reaches its state. -/
def partRegion (t r : Nat) : Nat := 4 * t + r
/-- Region r of tile t settles at its frequency. -/
def partClock (t r : Nat) : Nat := 1000 + 4 * t + r
/-- Core c of tile t ends its reset. -/
def partReset (t c : Nat) : Nat := 10000 + 64 * t + c
/-- Core c of tile t ends its self-test. -/
def partTest (t c : Nat) : Nat := 20000 + 64 * t + c
/-- Tile t reaches its state. -/
def partTile (t : Nat) : Nat := 2000 + t
/-- The membership change settles. -/
def partEpoch : Nat := 3000
/-- The step barrier. -/
def partStep : Nat := 3001
/-- The transfer of DMA_COPY. -/
def partCopy : Nat := 3002
/-- The boot step an opcode performs. -/
def partBoot : Nat := 3003
/-- The trust engine's signature. -/
def partSign : Nat := 3004
/-- The panel's state. -/
def partPanel : Nat := 3005
/-- The fabric's discovery. -/
def partFabric : Nat := 3006
/-- Window index of tile t drains. -/
def partWin : Nat := 3007
/-- Router n forwards again. -/
def partRouter (n : Nat) : Nat := 40000 + n
/-- Legacy drain k of the command's reset. -/
def partDrain : Nat := 3008

end Sys2Proof.Machine
end

