-- ==== Sys2Proof/Machine/Steps.lean ====
section
/-!
DEFINITION. Work that commands wait for and that other commands end: the step barrier with its timing (R414, R421) and the drain of a
closed window (R462).
-/
namespace Sys2Proof.Machine

open Sys2Proof

/-- A core by its key. -/
def cidOf (k : Nat) : Cid := cid (k / 64) (k % 64)

/-- The cores of the launch set that are not fenced (R414). -/
def Panel.launchSet (p : Panel) : List Cid := (p.keep.launch.map cidOf).filter (fun x => !p.fenced x)

/-- Every core of the launch set that is not fenced has HALTed. -/
def Panel.allHalted (p : Panel) : Bool := p.launchSet.all (fun x => p.seqState x == 3)

/-- A 32-bit time, saturating (R422). -/
def sat32 (n : Nat) : W32 := w32 (min n (2 ^ 32 - 1))

/-- The step timing of a tile (R421, Table 16.7). -/
def Panel.stepTimes (p : Panel) (n t : Nat) : Panel :=
  let xs := p.launchSet.filter (fun x => decide (x.t.val = t))
  match xs with
  | [] => p
  | x0 :: _ =>
    let halt (x : Cid) : Nat := ((p.core x).seq.haltAt).getD 0
    let last := xs.foldl (fun b x => if halt b < halt x then x else b) x0
    let first := xs.foldl (fun m x => min m (halt x)) (halt x0)
    let start := xs.foldl (fun m x => min m (p.core x).seq.launched) (p.core x0).seq.launched
    let p := p.tset t R.stepTiming_step n
    let p := (p.tset t R.stepTiming_last last.c).tset t R.stepTiming_nhalt xs.length
    (p.wr (tileB t + R.stepDur) (sat32 (halt last - start))).wr (tileB t + R.stepSpread) (sat32 (halt last - first))

/-- The barrier of step n is complete: STEP_STS and the timing of every tile of the launch set (R414, R421). -/
def Panel.stepEnd (p : Panel) (n : Nat) : Panel :=
  let p := p.wr (keeperB + R.stepSts) (w32 n)
  p.each ((p.launchSet.map (·.t.val)).eraseDups) (fun p t => p.stepTimes n t)

/-- A STEP_BARRIER that waits completes when the cores have HALTed. -/
def Panel.barrierCheck (p : Panel) : Panel :=
  if !p.allHalted then p
  else p.each (p.host.cmds.filter (fun c => c.opcode == 0x23 && c.waits.contains partStep)) (fun p c =>
    (p.stepEnd (c.pn 0 4)).cmdPart c.key partStep 0)

/-- A packet that was admitted by window i of tile t has been neither committed nor refused. -/
def Panel.winBusy (p : Panel) (t i : Nat) : Bool :=
  p.flights.any (fun f => f.stage == .dest && decide (f.loc < 9216) && decide (f.loc / 64 = t) && f.verdict == 0 &&
    decide ((Ep.of f.hdr.src).panel ≠ p.panelId) && f.hdr.window == i && (f.hdr.kind == kWrite || f.hdr.kind == kRead))

/-- A WINDOW_CLOSE that waits completes when its window has drained (R462). -/
def Panel.winDrain (p : Panel) : Panel :=
  p.each (p.host.cmds.filter (fun c => c.opcode == 0x31 && c.waits.contains partWin && !p.winBusy c.tile (c.p 0)))
    (fun p c => p.cmdPart c.key partWin 0)

end Sys2Proof.Machine
end

