-- ==== Sys2Proof/Machine/Sequencer.lean ====
section
/-!
DEFINITION. The sequencer: bundles and their slots, holds, control operations, loops, tokens, traps and the watchdog
(R86 to R105, R113 to R120, R125, R126, R130, R524).
-/
namespace Sys2Proof.Machine

open Sys2Proof

/-! Program store and pieces of a bundle. -/

/-- A bundle of the program store. -/
def Seq.bundle (q : Seq) (i : Nat) : BitVec 256 := sget (fun _ => (0 : BitVec 256)) q.prog i
/-- A bundle written, its parity computed anew (R87, R386). -/
def Seq.setBundle (q : Seq) (i : Nat) (b : BitVec 256) : Seq :=
  { q with prog := sset (fun _ => (0 : BitVec 256)) q.prog i b, badPar := q.badPar.filter (· != i) }
/-- Consecutive bundles written. -/
def Seq.setBundles (q : Seq) : Nat → List (BitVec 256) → Seq
  | _, [] => q
  | i, b :: bs => (q.setBundle i b).setBundles (i + 1) bs

/-- A 64-bit slot of a bundle: 0 CTL, 1 GRD, 2 SPD, 3 PLN (Table 4.2). -/
def slotOf (b : BitVec 256) (i : Nat) : W64 := w64 (bits b (64 * i + 63) (64 * i))

/-- The CTL slot's fields (Table 4.3). -/
structure Ctl where
  wtok : Nat
  wcnt : Nat
  ptok : Nat
  pen : Bool
  gap : Nat
  cop : Nat
  opd : W32
deriving DecidableEq, Repr

/-- The CTL slot (Table 4.3). -/
def ctlOf (w : W64) : Ctl :=
  ⟨bits w 63 58, bits w 57 54, bits w 53 48, bit w 47, bits w 46 39, bits w 31 24, w32 (bits w 23 0)⟩

/-! Illegal slots (R105). -/

/-- A GMODE write names legal format descriptors (R32, R90). -/
def gmodeOk (a b : W32) : Bool :=
  (Fmtd.of (BitVec.ofNat 16 (bits a 15 0))).legal .w && (Fmtd.of (BitVec.ofNat 16 (bits a 31 16))).legal .a &&
    (Fmtd.of (BitVec.ofNat 16 (bits b 15 0))).legal .o

/-- A control operation is legal at bundle pc of the core (R90, R103, R524, Table 4.4). -/
def Core.ctlOk (c : Core) (pc : Nat) (k : Ctl) : Bool :=
  let q := c.seq
  decide (k.cop ≤ 0x0E) && !(k.pen && decide (62 ≤ k.ptok)) &&
    (match k.cop with
      | 0x02 => decide (bits k.opd 23 20 < 4)
      | 0x03 => decide (pc < bits k.opd 10 0) &&
          (decide (q.sreg (bits k.opd 19 16) = 0) || decide (q.loops.length < 4))
      | 0x08 => gmodeOk (q.sreg (bits k.opd 15 12)) (q.sreg (bits k.opd 11 8))
      | 0x09 => k.wtok == 62 && k.wcnt == 1
      | 0x0A => bits k.opd 7 0 != 0
      | _ => true)

/-- A GRD slot is legal (R92). -/
def Core.grdOk (c : Core) (sched : Bool) (k : Ctl) (w : W64) : Bool :=
  match bits w 63 60 with
  | 0 => true
  | 1 => c.vecOk (bits w 59 57) (bits w 56 48)
  | 2 => c.openOk (bits w 59 57) (bits w 56 52) (bits w 51 47) (bit w 36)
  | 3 => c.readOk sched (bits w 59 57) (bits w 56 48) (bit w 47)
  | 4 => k.wtok == 63 && k.wcnt == 1
  | _ => false

/-- An SPD slot is legal (R93). -/
def Core.spdOk (c : Core) (w : W64) : Bool :=
  match bits w 63 60 with
  | 0 => true
  | 1 => c.loadOk (bits w 59 57) (bit w 56)
  | 2 => bits w 59 56 != 15
  | 3 => bits w 59 56 != 15
  | _ => false

/-- A bundle is legal at index pc (R105). -/
def Core.bundleOk (c : Core) (pc : Nat) (b : BitVec 256) : Bool :=
  let k := ctlOf (slotOf b 0)
  let (op, ps) := plnDecode (slotOf b 3)
  c.ctlOk pc k && c.grdOk true k (slotOf b 1) && c.spdOk (slotOf b 2) && c.plnOk true op ps

/-- The effect of an illegal bundle (R105, R115): counted, and the ILLEGAL trap pending; raised in a handler, it stops the
sequencer. -/
def Panel.illegal (p : Panel) (x : Cid) : Panel :=
  let p := p.ccount x 0x128 1
  p.updSeq x (fun q => q.pend (if p.cget x R.seqStatus_in_trap = 1 then 0x11 else 0x01))

/-! Scalar and stream operations (Table 4.4). -/

/-- The present bundle index. -/
def Panel.pc (p : Panel) (x : Cid) : Nat := bits (p.crd x R.seqPc) 10 0
/-- The bundle index replaced. -/
def Panel.setPc (p : Panel) (x : Cid) (n : Nat) : Panel := p.cwr x R.seqPc (w32 (n % 2048))
/-- SETL (Table 4.4). -/
def Panel.doSetl (p : Panel) (x : Cid) (r imm : Nat) : Panel := p.updSeq x (fun q => q.setSreg r (w32 (imm % 65536)))
/-- SETH (Table 4.4). -/
def Panel.doSeth (p : Panel) (x : Cid) (r imm : Nat) : Panel :=
  p.updSeq x (fun q => q.setSreg r (setBits (q.sreg r) 31 16 imm))
/-- ADDI (Table 4.4). -/
def Panel.doAddi (p : Panel) (x : Cid) (r imm : Nat) : Panel :=
  p.updSeq x (fun q => q.setSreg r (q.sreg r + (BitVec.ofNat 16 imm).signExtend 32))
/-- STRM (R91): the stream is configured at its base. -/
def Panel.doStrm (p : Panel) (c0 : Core) (x : Cid) (i b s n : Nat) : Panel :=
  let q := c0.seq
  let st : Stream :=
    ⟨BitVec.ofNat 19 (q.sreg b).toNat, BitVec.ofNat 19 (q.sreg s).toNat, BitVec.ofNat 16 (q.sreg n).toNat, 0⟩
  p.updSeq x (fun q' => { q' with streams := sset (fun _ => Stream.zero) q'.streams i st })
/-- GMODE (Table 4.4). -/
def Panel.doGmode (p : Panel) (c0 : Core) (x : Cid) (i a b c : Nat) : Panel :=
  let ra := c0.seq.sreg a
  let rb := c0.seq.sreg b
  let rc := c0.seq.sreg c
  let g : GMode :=
    ⟨BitVec.ofNat 16 (bits ra 15 0), BitVec.ofNat 16 (bits ra 31 16), BitVec.ofNat 16 (bits rb 15 0), bit rb 16,
     BitVec.ofNat 8 (bits rc 7 0), BitVec.ofNat 8 (bits rc 15 8)⟩
  p.updSeq x (fun q => { q with gmodes := sset (fun _ => GMode.zero) q.gmodes i g })
/-- DMAQ: a descriptor queued (R106). -/
def Panel.doDmaq (p : Panel) (x : Cid) (a : Nat) : Panel := p.updCore x (fun c => { c with dmaq := c.dmaq ++ [a] })
/-- POSTR: a POST packet to the sequencer held in a register (Table 4.4). -/
def Panel.doPostr (p : Panel) (c0 : Core) (x : Cid) (tok r amount : Nat) : Panel :=
  let tag := (p.core x).nextXfer
  let p := p.updCore x (fun c => { c with nextXfer := (c.nextXfer + 1) % 256 })
  (p.sendPost x 0 (c0.seq.sreg r).toNat tok amount tag).2
/-- WREG (R497): bits [1:0] of the offset are ignored, and an offset of 0x800 or above is ignored. -/
def Panel.doWreg (p : Panel) (c0 : Core) (x : Cid) (r off : Nat) : Panel :=
  if 0x800 ≤ off then p else p.coreWrite x (off / 4 * 4) (c0.seq.sreg r)
/-- RREG (R497). -/
def Panel.doRreg (p : Panel) (x : Cid) (r off : Nat) : Panel :=
  let o := off / 4 * 4
  let a := if o < 0x800 then coreB x.t x.c + o else tileB x.t + (o - 0x800)
  let (v, p) := p.regRead (5 + x.key) a
  p.updSeq x (fun q => q.setSreg r v)
/-- HALT: the program ends and its time is reported to the Warden (Table 4.4, R414, R418). -/
def Panel.doHalt (p : Panel) (x : Cid) : Panel :=
  let p := p.cset x R.seqStatus_state 3
  (p.updSeq x (fun q => { q with loops := [], traps := q.traps.filter (· != 4), haltAt := some (p.ptcNs x.t) })).barrierCheck

/-! Control transfer. -/

/-- BR's condition (Table 4.4). -/
def Panel.brTaken (p : Panel) (c0 : Core) (x : Cid) (cond r : Nat) : Bool :=
  match cond with
  | 0 => c0.seq.chkDue
  | 1 => p.cget x R.seqStatus_abft_cond == 1
  | 2 => c0.seq.sreg r == 0
  | _ => c0.seq.sreg r != 0
/-- A branch on the ABFT condition clears it (Table 4.4). -/
def Panel.brClear (p : Panel) (x : Cid) (cond : Nat) : Panel := if cond = 1 then p.cset x R.seqStatus_abft_cond 0 else p
/-- LOOP's entry (R524): the next bundle, and the level pushed. -/
def Panel.doLoop (p : Panel) (c0 : Core) (x : Cid) (pc r last : Nat) : Nat × Panel :=
  let n := (c0.seq.sreg r).toNat
  if n = 0 then (last + 1, p)
  else (pc + 1, p.updSeq x (fun q => { q with loops := ⟨pc + 1, last, n⟩ :: q.loops }))

/-- The end test of the loop levels when the bundle at pc issues (R524): the levels left, and the bundle that follows where
a body repeats. -/
def loopEnd (pc : Nat) : List LoopLvl → List LoopLvl × Option Nat
  | [] => ([], none)
  | l :: ls =>
    if l.last ≠ pc then (l :: ls, none)
    else if 1 < l.count then ({ l with count := l.count - 1 } :: ls, some l.first)
    else loopEnd pc ls

/-- A CTL operation (Table 4.4): the next bundle, whether it transferred control itself, and the panel. -/
def Panel.ctlOp (p : Panel) (c0 : Core) (x : Cid) (pc : Nat) (k : Ctl) : Nat × Bool × Panel :=
  let o := k.opd
  let r := bits o 19 16
  let go (p : Panel) : Nat × Bool × Panel := (pc + 1, false, p)
  match k.cop with
  | 0x01 => (bits o 10 0, true, p)
  | 0x02 =>
    let c := bits o 23 20
    if p.brTaken c0 x c r then (bits o 10 0, true, p.brClear x c) else go p
  | 0x03 => let (n, p) := p.doLoop c0 x pc r (bits o 10 0); (n, false, p)
  | 0x04 => go (p.doSetl x r (bits o 15 0))
  | 0x05 => go (p.doSeth x r (bits o 15 0))
  | 0x06 => go (p.doAddi x r (bits o 15 0))
  | 0x07 => go (p.doStrm c0 x (bits o 18 16) (bits o 15 12) (bits o 11 8) (bits o 7 4))
  | 0x08 => go (p.doGmode c0 x (bits o 18 16) (bits o 15 12) (bits o 11 8) (bits o 7 4))
  | 0x09 => go (p.doDmaq x (bits o 18 0))
  | 0x0A => go (p.doPostr c0 x (bits o 23 18) (bits o 17 14) (bits o 7 0))
  | 0x0B => go (p.doWreg c0 x r (bits o 11 0))
  | 0x0C => go (p.doRreg x r (bits o 11 0))
  | 0x0D => (bits (p.crd x R.seqEpc) 10 0, true, p.cset x R.seqStatus_in_trap 0)
  | 0x0E => (pc, true, p.doHalt x)
  | _ => go p

/-! The other slots. -/

/-- A GRD slot's effect (Table 4.5). -/
def Panel.grdOp (p : Panel) (c0 : Core) (x : Cid) (w : W64) : Panel :=
  match bits w 63 60 with
  | 1 => p.doVec c0 x true (bits w 59 57) (bits w 56 48) (bits w 47 45) (bit w 44) (bits w 43 41)
  | 2 => p.doOpen c0 x (bits w 59 57) (bits w 56 52) (bits w 51 47) (BitVec.ofNat 10 (bits w 46 37)) (bit w 36)
  | 3 => p.doRead c0 x true (bits w 59 57) (bits w 56 48) (bit w 47) (bits w 46 44)
  | 4 => p.updGrid x Grid.swap
  | _ => p

/-- SRD (Table 4.6, R130): the registers take the word four cycles after issue, or at once where not scheduled. -/
def Panel.doSrd (p : Panel) (x : Cid) (sched : Bool) (r a : Nat) : Panel :=
  let (d, _, p) := p.spadRead x a
  let lo := w32 (bits d 31 0)
  let hi := w32 (bits d 63 32)
  if sched then
    p.updSeq x (fun q => { q with pr := q.pr ++ [⟨q.cycle + 4, r, lo⟩, ⟨q.cycle + 4, r + 1, hi⟩] })
  else p.updSeq x (fun q => (q.setSreg r lo).setSreg (r + 1) hi)

/-- SWR (Table 4.6). -/
def Panel.doSwr (p : Panel) (c0 : Core) (x : Cid) (r a : Nat) : Panel :=
  p.spadWrites x a [w64 ((c0.seq.sreg r).toNat + 2 ^ 32 * (c0.seq.sreg (r + 1)).toNat)]

/-- An SPD slot's effect (Table 4.6). -/
def Panel.spdOp (p : Panel) (c0 : Core) (x : Cid) (w : W64) : Panel :=
  match bits w 63 60 with
  | 1 => p.doLoad c0 x (bits w 59 57) (bit w 56) (bits w 18 0)
  | 2 => p.doSrd x true (bits w 59 56) (bits w 18 0)
  | 3 => p.doSwr c0 x (bits w 59 56) (bits w 18 0)
  | _ => p

/-! Schedule cycles and holds. -/

/-- Scheduled writes and register writes whose cycles have passed take effect (R130). -/
def Panel.flush (p : Panel) (x : Cid) (cycle : Nat) : Panel :=
  let q := (p.core x).seq
  let ws := q.pw.filter (fun w => decide (w.cycle < cycle))
  let rs := q.pr.filter (fun r => decide (r.cycle ≤ cycle))
  let p := p.updCore x (fun c => ws.foldl (fun c w => c.write w.addr w.data) c)
  p.updSeq x (fun q =>
    let q := rs.foldl (fun q r => q.setSreg r.reg r.v) q
    { q with pw := q.pw.filter (fun w => !decide (w.cycle < cycle)), pr := q.pr.filter (fun r => !decide (r.cycle ≤ cycle)) })

/-- A COPY descriptor in progress writes the program-store half that holds bundle pc (R87). -/
def Core.storeBusy (c : Core) (pc : Nat) (own : Nat) : Bool :=
  c.descs.any (fun d =>
    (d.words.getD 0 0).toNat % 256 == 1 && bits (d.words.getD 3 0) 28 0 == own && d.status == 0 &&
      (d.words.getD 4 0).toNat / 2 ^ 15 == pc / 1024)

/-- The bank accesses that a bundle's slots make in its issue cycle (R92, R93, R130, Table 5.1): requester and word
addresses, a read or a write. -/
def Core.accesses (c : Core) (b : BitVec 256) : List (Nat × Nat × Bool) :=
  let g := slotOf b 1
  let s := slotOf b 2
  let (op, ps) := plnDecode (slotOf b 3)
  let grd := if bits g 63 60 = 1 then
      let a := (c.seq.stream (bits g 47 45)).addr
      let scaled := (Fmtd.of (c.seq.gmode (bits g 59 57)).af).scaled
      (List.range 8).map (fun i => (i, a + i, true)) ++
        (if bit g 44 || scaled then [(10, (c.seq.stream (bits g 43 41)).addr, true)] else [])
    else []
  let spd := match bits s 63 60 with
    | 1 => [(8, bits s 18 0, true)]
    | 2 => [(11, bits s 18 0, true)]
    | 3 => [(11, bits s 18 0, false)]
    | _ => []
  let pln := match plnLines c op ps with | a :: _ => [(9, a, true)] | [] => []
  grd ++ spd ++ pln

/-- A bank's number and line as a request. -/
def mkReq (e : Nat × Nat × Bool) : BankReq :=
  ⟨⟨e.1 % 15, Nat.mod_lt _ (by decide)⟩, ⟨bankOf e.2.1, Nat.mod_lt _ (by decide)⟩,
   ⟨lineOf e.2.1, Nat.mod_lt _ (by decide)⟩, e.2.2⟩

/-- The requests of one region cycle arbitrated bank by bank (R125): answers the requester and bank pairs granted. -/
def Panel.bankRounds (p : Panel) (x : Cid) (reqs : List BankReq) : List (Nat × Nat) × Panel :=
  (List.range 32).foldl (fun (acc : List (Nat × Nat) × Panel) b =>
    let rs := reqs.filter (fun r => r.bank.val == b)
    if rs.isEmpty then acc
    else
      let (g, p) := acc.2.bankRound x b rs
      (acc.1 ++ g.map (fun q => (q, b)), p)) ([], p)

/-- The scheduled requests of the present schedule cycle by operations issued before it: the reads and writes due in it and the
next read of a weight load (R130). -/
def Core.dueReqs (c : Core) : List BankReq :=
  let n := c.seq.cycle
  let ld := match c.grid.load with
    | some j => if j.next ≤ n ∧ 0 < j.left then [mkReq (8, j.addr, true)] else []
    | none => []
  ((c.seq.acc.filter (fun a => decide (a.cycle ≤ n))).map (fun a => mkReq (a.port, a.addr, true)) ++
    (c.seq.pw.filter (fun w => decide (w.cycle ≤ n))).map (fun w => mkReq (w.port, w.addr, false)) ++ ld).eraseDups

/-- The requests of a list not yet granted in the present schedule cycle (R126). -/
def Core.ungranted (c : Core) (l : List BankReq) : List BankReq :=
  l.filter (fun r => !c.seq.granted.contains (r.q.val, r.bank.val))

/-- One region cycle's arbitration of the scheduled requests not yet granted and of asynchronous ones: whether all the scheduled
ones have been granted now (R126). -/
def Panel.grantRound (p : Panel) (x : Cid) (want req : List BankReq) : Bool × Panel :=
  let left := (p.core x).ungranted want
  let (got, p) := p.bankRounds x (left ++ req)
  let p := p.updSeq x (fun q => { q with granted := q.granted ++ got })
  (left.all (fun r => got.contains (r.q.val, r.bank.val)), p)

/-- A schedule cycle whose accesses have all been made passes: a load reads on and ends, writes take effect, old accumulator
history is dropped, and grid rows that no operation took are discarded with src_miss (R94, R130, R149). -/
def Panel.endCycle (p : Panel) (x : Cid) : Panel :=
  let n := (p.core x).seq.cycle
  let p := match (p.core x).grid.load with
    | some j => if j.next ≤ n ∧ 0 < j.left then p.loadRead x else p
    | none => p
  let p := p.loadEnd x
  let p := p.updSeq x (fun q => { q with
    cycle := n + 1, granted := [], acc := q.acc.filter (fun a => !decide (a.cycle ≤ n)) })
  let p := p.flush x (n + 1)
  let stale := (p.core x).grid.rows.any (fun r => decide (r.cycle ≤ n))
  let p := p.updGrid x (fun g => { g with
    hist := g.hist.filter (fun h => decide (n + 1 < h.cycle + 6)), rows := g.rows.filter (fun r => !decide (r.cycle ≤ n)) })
  if stale then p.cset x R.plnStatus_src_miss 1 else p

/-- The region cycles that a schedule cycle in which no bundle is due is held for, each counted, until its accesses are all granted
(R96, R98, R126). -/
def Panel.holds (p : Panel) (x : Cid) : Nat → Panel
  | 0 => p
  | fuel + 1 =>
    let r := p.grantRound x (p.core x).dueReqs []
    if r.1 then r.2 else (r.2.ccount x 0x138 1).holds x fuel

/-- The schedule runs on to a cycle with no bundle issuing on the way (R95, R97). -/
def Panel.reach (p : Panel) (x : Cid) (cycle : Nat) : Panel :=
  p.each (List.range (cycle - (p.core x).seq.cycle)) (fun p _ => (p.holds x (p.core x).dueReqs.length).endCycle x)

/-! Issue. -/

/-- A cycle held by a wait on token 63 while a load is in progress: the load makes its next read if the arbiter grants it, and posts
when its last has passed (R97). -/
def Panel.loadStep (p : Panel) (x : Cid) (req : List BankReq) : Panel :=
  match (p.core x).grid.load with
  | some j =>
    let r := mkReq (8, j.addr, true)
    let (got, p) := p.bankRounds x (r :: req)
    if got.contains (8, r.bank.val) then (p.loadRead x).loadEnd x else p
  | none => (p.bankRounds x req).2

/-- The last schedule cycle that work in the scheduled pipelines needs (R114). -/
def Core.drainEnd (c : Core) : Nat :=
  let q := c.seq
  let m := (q.pw.map (·.cycle + 1)).foldl max ((q.pr.map (·.cycle)).foldl max ((q.acc.map (·.cycle + 1)).foldl max q.cycle))
  let m := match c.grid.load with | some j => max m (max j.next q.cycle + ceilDiv j.left 8) | none => m
  max (max m c.pln.busyTo) ((c.grid.rows.map (·.cycle + 1)).foldl max 0)

/-- The scheduled pipelines run out after the last bundle. -/
def Panel.runOut (p : Panel) (x : Cid) : Panel := p.reach x (p.core x).drainEnd

/-- The pen post of a bundle: 1 to ptok; a saturation raised by a handler's own bundle is one it raised itself (R102,
R115). -/
def Panel.penPost (p : Panel) (x : Cid) (tok : Nat) : Panel :=
  if (p.core x).seq.token tok + 1 > 65535 ∧ p.cget x R.seqStatus_in_trap = 1 then
    (p.cset x R.seqStatus_tok_sat 1).updSeq x (fun q => q.pend 0x13)
  else p.post x tok 1

/-- The due bundle issues (R95): its wait is consumed, its slots take effect in one cycle, its control operation names the
next bundle, and the loop end test is made (R524). -/
def Panel.issue (p : Panel) (x : Cid) (pc : Nat) (b : BitVec 256) : Panel :=
  let k := ctlOf (slotOf b 0)
  let p := if k.wcnt = 0 then p else p.consume x k.wtok k.wcnt
  let c0 := p.core x
  let p := if k.pen then p.penPost x k.ptok else p
  let p := p.cset x R.seqStatus_state 1
  let p := p.grdOp c0 x (slotOf b 1)
  let (op, ps) := plnDecode (slotOf b 3)
  let p := p.doPln c0 x true op ps
  let p := p.spdOp c0 x (slotOf b 2)
  let (next, own, p) := p.ctlOp c0 x pc k
  let (next, p) :=
    if own then (next, p)
    else
      let (ls, rep) := loopEnd pc (p.core x).seq.loops
      (rep.getD next, p.updSeq x (fun q => { q with loops := ls }))
  let p := p.setPc x next
  let p := (p.updSeq x (fun q => { q with wdog := 0, due := q.cycle + 1 + k.gap })).endCycle x
  if k.cop = 0x0E then p.runOut x else p

/-- A trap that the sequencer would take at this bundle boundary (R113, R115). -/
def Panel.trapDue (p : Panel) (x : Cid) : Bool :=
  let ts := (p.core x).seq.traps
  ts.contains 0x11 || ts.contains 0x13 || (p.cget x R.seqStatus_in_trap == 0 && p.trapPending x)

/-- BUNDLE_ISSUE's region cycle (R95 to R98, R105, R126): the bundle at SEQ_PC is due.  A trap to be taken comes first
(R114). -/
def Panel.bundleIssue (p : Panel) (x : Cid) (req : List BankReq) : Panel :=
  if !p.active x || p.trapDue x then p
  else
    let p := p.reach x (p.core x).seq.due
    let pc := p.pc x
    let b := (p.core x).seq.bundle pc
    let k := ctlOf (slotOf b 0)
    let req := req.filter (fun r => decide (12 ≤ r.q.val))
    if (p.core x).storeBusy pc (p.unitAddr x 0) then
      ((p.bankRounds x req).2).ccount x 0x138 1
    else if (p.core x).seq.badPar.contains pc then (((p.bankRounds x req).2).ctrlParity x).illegal x
    else if !(p.core x).bundleOk pc b then ((p.bankRounds x req).2).illegal x
    else if k.wcnt ≠ 0 ∧ (p.core x).seq.token k.wtok < k.wcnt then
      let p := (p.ccount x 0x130 1).cset x R.seqStatus_state 2
      if k.wtok = 63 then p.loadStep x req else (p.bankRounds x req).2
    else
      let (all, p) := p.grantRound x ((p.core x).dueReqs ++ ((p.core x).accesses b).map mkReq) req
      if all then p.issue x pc b else (p.ccount x 0x138 1).cset x R.seqStatus_state 1

/-- BUNDLE_ISSUE (R95). -/
def execBundleIssue (x : Cid) (req : List BankReq) (s : State) : Host.Outcome State Fault Refusal :=
  onPanel (fun p => p.bundleIssue x req) s

/-! The slots as commands. -/

/-- A slot of a bundle alone: it acts while the sequencer executes, and an illegal one acts as an illegal bundle. -/
def Panel.slot (p : Panel) (x : Cid) (ok : Core → Bool) (f : Core → Panel → Panel) : Panel :=
  if !p.active x then p
  else if ok (p.core x) then f (p.core x) p
  else p.illegal x

/-- A CTL operation alone, at the present bundle index. -/
def Panel.ctlSlot (p : Panel) (x : Cid) (k : Ctl) : Panel :=
  p.slot x (fun c => c.ctlOk (p.pc x) k) (fun c0 p => (p.ctlOp c0 x (p.pc x) k).2.2)

/-- A control operation with no wait, post or gap. -/
def bareCtl (cop opd : Nat) : Ctl := ⟨0, 0, 0, false, 0, cop, w32 opd⟩

/-- NOP (Table 4.4): nothing. -/
def execNop (_x : Cid) (s : State) : Host.Outcome State Fault Refusal := onPanel (fun p => p) s

/-- JMP (Table 4.4): the next bundle is the target. -/
def execJmp (x : Cid) (target : Fin 2048) (s : State) : Host.Outcome State Fault Refusal :=
  onPanel (fun p => p.slot x (fun _ => true) (fun _ p => p.setPc x target)) s

/-- BR (Table 4.4). -/
def execBr (x : Cid) (cond : Fin 16) (reg : Fin 16) (target : Fin 2048) (s : State) : Host.Outcome State Fault Refusal :=
  onPanel (fun p => p.slot x (fun _ => decide (cond.val < 4)) (fun c0 p =>
    if p.brTaken c0 x cond reg then (p.brClear x cond).setPc x target else p.setPc x (p.pc x + 1))) s

/-- LOOP (R524). -/
def execLoop (x : Cid) (reg : Fin 16) (last : Fin 2048) (s : State) : Host.Outcome State Fault Refusal :=
  onPanel (fun p => p.slot x (fun c => c.ctlOk (p.pc x) (bareCtl 0x03 (65536 * reg + last))) (fun c0 p =>
    let (n, p) := p.doLoop c0 x (p.pc x) reg last
    p.setPc x n)) s

/-- SETL (Table 4.4). -/
def execSetl (x : Cid) (reg : Fin 16) (imm : BitVec 16) (s : State) : Host.Outcome State Fault Refusal :=
  onPanel (fun p => p.slot x (fun _ => true) (fun _ p => p.doSetl x reg imm.toNat)) s

/-- SETH (Table 4.4). -/
def execSeth (x : Cid) (reg : Fin 16) (imm : BitVec 16) (s : State) : Host.Outcome State Fault Refusal :=
  onPanel (fun p => p.slot x (fun _ => true) (fun _ p => p.doSeth x reg imm.toNat)) s

/-- ADDI (Table 4.4). -/
def execAddi (x : Cid) (reg : Fin 16) (imm : BitVec 16) (s : State) : Host.Outcome State Fault Refusal :=
  onPanel (fun p => p.slot x (fun _ => true) (fun _ p => p.doAddi x reg imm.toNat)) s

/-- STRM (R91). -/
def execStrm (x : Cid) (stream : Fin 8) (base stride count : Fin 16) (s : State) : Host.Outcome State Fault Refusal :=
  onPanel (fun p => p.slot x (fun _ => true) (fun c0 p => p.doStrm c0 x stream base stride count)) s

/-- GMODE (Table 4.4, R105). -/
def execGmode (x : Cid) (entry : Fin 8) (a b c : Fin 16) (s : State) : Host.Outcome State Fault Refusal :=
  onPanel (fun p => p.slot x (fun c0 => gmodeOk (c0.seq.sreg a) (c0.seq.sreg b)) (fun c0 p => p.doGmode c0 x entry a b c)) s

/-- DMAQ (R103, R106): it waits while token 62 is 0, and takes one queue slot. -/
def execDmaq (x : Cid) (addr : BitVec 19) (s : State) : Host.Outcome State Fault Refusal :=
  onPanel (fun p => p.slot x (fun _ => true) (fun c0 p =>
    if c0.seq.token 62 = 0 then p else (p.consume x 62 1).doDmaq x addr.toNat)) s

/-- POSTR (Table 4.4). -/
def execPostr (x : Cid) (token : Fin 64) (ep : Fin 16) (amount : BitVec 8) (s : State) :
    Host.Outcome State Fault Refusal :=
  onPanel (fun p => p.slot x (fun _ => amount != 0) (fun c0 p => p.doPostr c0 x token ep amount.toNat)) s

/-- WREG (R497). -/
def execWreg (x : Cid) (reg : Fin 16) (off : BitVec 12) (s : State) : Host.Outcome State Fault Refusal :=
  onPanel (fun p => p.slot x (fun _ => true) (fun c0 p => p.doWreg c0 x reg off.toNat)) s

/-- RREG (R497). -/
def execRreg (x : Cid) (reg : Fin 16) (off : BitVec 12) (s : State) : Host.Outcome State Fault Refusal :=
  onPanel (fun p => p.slot x (fun _ => true) (fun _ p => p.doRreg x reg off.toNat)) s

/-- RETI (R114). -/
def execReti (x : Cid) (s : State) : Host.Outcome State Fault Refusal :=
  onPanel (fun p => p.slot x (fun _ => true) (fun _ p =>
    (p.cset x R.seqStatus_in_trap 0).setPc x (bits (p.crd x R.seqEpc) 10 0))) s

/-- HALT (Table 4.4). -/
def execHalt (x : Cid) (s : State) : Host.Outcome State Fault Refusal :=
  onPanel (fun p => p.slot x (fun _ => true) (fun _ p => p.doHalt x)) s

/-- VEC (R61). -/
def execVec (x : Cid) (mode : Fin 8) (row : Fin 512) (stream : Fin 8) (side : Bool) (sstream : Fin 8) (s : State) :
    Host.Outcome State Fault Refusal :=
  onPanel (fun p => p.slot x (fun c => c.vecOk mode row) (fun c0 p => p.doVec c0 x false mode row stream side sstream)) s

/-- OPEN (R73). -/
def execOpen (x : Cid) (mode : Fin 8) (first groups : Fin 32) (anchor : BitVec 10) (chk : Bool) (s : State) :
    Host.Outcome State Fault Refusal :=
  onPanel (fun p => p.slot x (fun c => c.openOk mode first groups chk)
    (fun c0 p => p.doOpen c0 x mode first groups anchor chk)) s

/-- READ (R74). -/
def execRead (x : Cid) (mode : Fin 8) (row : Fin 512) (planer : Bool) (stream : Fin 8) (s : State) :
    Host.Outcome State Fault Refusal :=
  onPanel (fun p => p.slot x (fun c => c.readOk false mode row planer)
    (fun c0 p => p.doRead c0 x false mode row planer stream)) s

/-- SWAP (R64, R103): it waits while token 63 is 0, and consumes one. -/
def execSwap (x : Cid) (s : State) : Host.Outcome State Fault Refusal :=
  onPanel (fun p => p.slot x (fun _ => true) (fun c0 p =>
    if c0.seq.token 63 = 0 then p else (p.consume x 63 1).updGrid x Grid.swap)) s

/-- LOAD (R94). -/
def execLoad (x : Cid) (mode : Fin 8) (chk : Bool) (addr : BitVec 19) (s : State) : Host.Outcome State Fault Refusal :=
  onPanel (fun p => p.slot x (fun c => c.loadOk mode chk) (fun c0 p => p.doLoad c0 x mode chk addr.toNat)) s

/-- The schedule of an executing core runs on to the end of the load in progress (R94). -/
def Panel.weightLoadDone (p : Panel) (x : Cid) : Panel :=
  match (p.core x).grid.load with
  | some j => if p.active x then p.reach x (max j.next (p.core x).seq.cycle + ceilDiv j.left 8) else p
  | none => p

/-- WEIGHT_LOAD_DONE (R94). -/
def execWeightLoadDone (x : Cid) (s : State) : Host.Outcome State Fault Refusal :=
  onPanel (fun p => p.weightLoadDone x) s

/-- SRD (Table 4.6). -/
def execSrd (x : Cid) (reg : Fin 16) (addr : BitVec 19) (s : State) : Host.Outcome State Fault Refusal :=
  onPanel (fun p => p.slot x (fun _ => reg != 15) (fun _ p => p.doSrd x false reg addr.toNat)) s

/-- SWR (Table 4.6). -/
def execSwr (x : Cid) (reg : Fin 16) (addr : BitVec 19) (s : State) : Host.Outcome State Fault Refusal :=
  onPanel (fun p => p.slot x (fun _ => reg != 15) (fun c0 p => p.doSwr c0 x reg addr.toNat)) s

/-- A PLN slot alone (Table 6.1). -/
def Panel.plnSlot (p : Panel) (x : Cid) (op : Nat) (sl : PlnSlot) : Panel :=
  p.slot x (fun c => c.plnOk false op sl) (fun c0 p => p.doPln c0 x false op sl)

/-- SMAX (R158). -/
def execSmax (x : Cid) (sl : PlnSlot) (s : State) : Host.Outcome State Fault Refusal := onPanel (fun p => p.plnSlot x 1 sl) s
/-- OFOLD (R159). -/
def execOfold (x : Cid) (sl : PlnSlot) (s : State) : Host.Outcome State Fault Refusal := onPanel (fun p => p.plnSlot x 2 sl) s
/-- ODIV (R160). -/
def execOdiv (x : Cid) (sl : PlnSlot) (s : State) : Host.Outcome State Fault Refusal := onPanel (fun p => p.plnSlot x 3 sl) s
/-- LPACK (R161). -/
def execLpack (x : Cid) (sl : PlnSlot) (s : State) : Host.Outcome State Fault Refusal := onPanel (fun p => p.plnSlot x 4 sl) s
/-- LMERGE (R162). -/
def execLmerge (x : Cid) (sl : PlnSlot) (s : State) : Host.Outcome State Fault Refusal :=
  onPanel (fun p => p.plnSlot x 5 sl) s
/-- STAT (R164). -/
def execStat (x : Cid) (sl : PlnSlot) (s : State) : Host.Outcome State Fault Refusal := onPanel (fun p => p.plnSlot x 6 sl) s
/-- NORM (R164). -/
def execNorm (x : Cid) (sl : PlnSlot) (s : State) : Host.Outcome State Fault Refusal := onPanel (fun p => p.plnSlot x 7 sl) s
/-- ACT (R153). -/
def execAct (x : Cid) (sl : PlnSlot) (s : State) : Host.Outcome State Fault Refusal := onPanel (fun p => p.plnSlot x 8 sl) s
/-- QUANT (R152). -/
def execQuant (x : Cid) (sl : PlnSlot) (s : State) : Host.Outcome State Fault Refusal := onPanel (fun p => p.plnSlot x 9 sl) s
/-- SCAN (R165). -/
def execScan (x : Cid) (sl : PlnSlot) (s : State) : Host.Outcome State Fault Refusal := onPanel (fun p => p.plnSlot x 10 sl) s
/-- LCLR (R156). -/
def execLclr (x : Cid) (sl : PlnSlot) (s : State) : Host.Outcome State Fault Refusal := onPanel (fun p => p.plnSlot x 11 sl) s

/-! Traps, launch and the watchdog. -/

/-- The sequencer stops (R115): STOPPED, with the WATCHDOG source set at once. -/
def Panel.seqStop (p : Panel) (x : Cid) : Panel :=
  let p := (p.runOut x).updSeq x (fun q => { q with traps := [] })
  (p.cset x R.seqStatus_state 4).coreEvent x 22 0x160

/-- The trap taken first of those pending (R113): NMI, ILLEGAL, TOKSAT, ABFT. -/
def Panel.firstTrap (p : Panel) (x : Cid) : Nat :=
  let ts := (p.core x).seq.traps
  if ts.contains 4 then 4 else if ts.contains 1 then 1 else if ts.contains 3 then 3 else 2

/-- A pending trap is taken at a bundle boundary (R114), or stops the sequencer (R115). -/
def Panel.trapEntry (p : Panel) (x : Cid) : Panel :=
  if !p.active x || !p.trapDue x then p
  else
    let ts := (p.core x).seq.traps
    let vec := p.cget x R.seqCtl_vec
    if ts.contains 0x11 || ts.contains 0x13 || vec == 0 then p.seqStop x
    else
      let code := p.firstTrap x
      let n := (p.core x).seq.cycle
      let p := p.reach x (min (n + 32) (max n (p.core x).drainEnd))
      let p := p.cwr x R.seqEpc (w32 (p.pc x))
      let p := (p.cset x R.seqStatus_cause code).cset x R.seqStatus_in_trap 1
      let p := if code = 2 then p.cset x R.seqStatus_abft_cond 0
        else p.updSeq x (fun q => { q with traps := q.traps.filter (· != code) })
      let p := p.updSeq x (fun q => { q with granted := [], due := q.cycle })
      p.setPc x vec

/-- TRAP_ENTRY (R114). -/
def execTrapEntry (x : Cid) (s : State) : Host.Outcome State Fault Refusal := onPanel (fun p => p.trapEntry x) s

/-- The watchdog's count reaches its limit (R117). -/
def Panel.watchdog (p : Panel) (x : Cid) : Panel :=
  let limit := p.cget x R.seqWdog_limit
  if !p.active x || limit == 0 || (p.core x).seq.wdog < limit then p
  else
    let p := p.updSeq x (fun q => { q with wdog := 0 })
    (p.cset x R.seqStatus_wdog 1).coreEvent x 22 0x160

/-- WATCHDOG_EXPIRY (R117). -/
def execWatchdogExpiry (x : Cid) (s : State) : Host.Outcome State Fault Refusal := onPanel (fun p => p.watchdog x) s

/-- A sequencer starts at a bundle (R87, R326, R442): in RUN, with the loop levels empty and no trap pending. -/
def Panel.launch (p : Panel) (x : Cid) (i : Nat) : Panel :=
  let p := p.setPc x i
  let p := (p.cset x R.seqStatus_state 1).cset x R.seqStatus_in_trap 0
  p.updSeq x (fun q => { q with
    loops := [], traps := [], granted := [], wdog := 0, due := q.cycle, launched := p.ptcNs x.t, haltAt := none })

end Sys2Proof.Machine
end

