-- ==== Sys2Proof/Machine/Dma.lean ====
section
/-!
DEFINITION. The DMA engine of a core: descriptors, their checks, the movement of their data, expert dispatch and write-back
(R87, R106 to R112, R224, R520, R521, R523).
-/
namespace Sys2Proof.Machine

open Sys2Proof

/-! Descriptor fields (Table 4.8). -/

/-- Word i of a descriptor. -/
def Desc.w (d : Desc) (i : Nat) : W64 := d.words.getD i 0
/-- The operation. -/
def Desc.op (d : Desc) : Nat := bits (d.w 0) 7 0
/-- The completion token. -/
def Desc.token (d : Desc) : Nat := bits (d.w 0) 21 16
/-- BULK rather than STREAM; DISPATCH is always STREAM. -/
def Desc.bulk (d : Desc) : Bool := bit (d.w 0) 23 && d.op != 4
/-- The remote token. -/
def Desc.rtok (d : Desc) : Nat := bits (d.w 0) 29 24
/-- The packets carry the remote token. -/
def Desc.rtv (d : Desc) : Bool := bit (d.w 0) 31
/-- The source endpoint. -/
def Desc.src (d : Desc) : Nat := bits (d.w 1) 28 0
/-- The source offset. -/
def Desc.srcOff (d : Desc) : Nat := (d.w 2).toNat
/-- The destination endpoint. -/
def Desc.dst (d : Desc) : Nat := bits (d.w 3) 28 0
/-- The destination offset. -/
def Desc.dstOff (d : Desc) : Nat := (d.w 4).toNat
/-- The length. -/
def Desc.len (d : Desc) : Nat := bits (d.w 5) 31 0
/-- The rows; 0 means 65,536. -/
def Desc.rows (d : Desc) : Nat := if bits (d.w 5) 63 32 = 0 then 65536 else bits (d.w 5) 63 32
/-- The row stride. -/
def Desc.stride (d : Desc) : Nat := bits (d.w 6) 63 32
/-- DISPATCH's destinations per row. -/
def Desc.k (d : Desc) : Nat := bits (d.w 6) 23 20
/-- The index or code array's word address. -/
def Desc.idx (d : Desc) : Nat := bits (d.w 6) 18 0
/-- The count table's word address. -/
def Desc.table (d : Desc) : Nat := bits (d.w 7) 18 0
/-- The traffic class. -/
def Desc.cls (d : Desc) : Nat := if d.bulk then clsBulk else clsStream

/-! Ends. -/

/-- An endpoint is unit u of the core itself. -/
def Panel.ownUnit (p : Panel) (x : Cid) (a u : Nat) : Bool := a == p.unitAddr x u
/-- An end that the engine reaches itself: scratchpad or channel of the issuing core (R520). -/
def Panel.ownEnd (p : Panel) (x : Cid) (a : Nat) : Bool := p.ownUnit x a 2 || p.ownUnit x a 6
/-- A reachable end (R109, R427): unit 2 or 6 of a core; as a destination also the memory of a host port. -/
def reachable (panel a : Nat) (dst : Bool) : Bool :=
  let e := Ep.of a
  if e.isDie then dst && e.panel == panel && decide (16 ≤ e.core ∧ e.core ≤ 19) && e.unit == 3
  else e.defined && (e.unit == 2 || e.unit == 6)

/-- A descriptor's COPY into the program store is allowed when it starts (R87, R109): from the core's own scratchpad or
channel, within one half, and not the half of the current bundle of a running sequencer. -/
def Panel.storeOk (p : Panel) (x : Cid) (d : Desc) : Bool :=
  p.ownEnd x d.src && decide (d.dstOff + d.len ≤ 65536) && decide (0 < d.len) &&
    d.dstOff / 32768 == (d.dstOff + d.len - 1) / 32768 &&
    !(p.running x && p.pc x / 1024 == d.dstOff / 32768)

/-- The length is at fault (R109). -/
def Desc.badLen (d : Desc) : Bool :=
  d.len % 64 != 0 || decide (d.len < 64) || decide ((if d.op = 1 then 2 ^ 28 else 4096) < d.len)

/-- The status a descriptor completes with before moving anything, 0 where it may move (R100, R108, R109, R521). -/
def Panel.descCheck (p : Panel) (x : Cid) (d : Desc) : Nat :=
  if d.op = 0 ∨ 4 < d.op then stUnsupported
  else
    let store := d.op == 1 && p.ownUnit x d.dst 0
    let other :=
      decide (62 ≤ d.token) || (d.rtv && decide (62 ≤ d.rtok)) || d.srcOff % 64 != 0 ||
        !reachable p.panelId d.src false ||
        (if d.op = 4 then d.rtv || d.k == 0 || decide (8 < d.k)
         else d.dstOff % 64 != 0 || !(store || reachable p.panelId d.dst true)) ||
        (store && !p.storeOk x d)
    if other then stBadParam else if d.badLen then stBadLength else stOk

/-! Starting. -/

/-- A descriptor in progress replaced. -/
def Panel.setDesc (p : Panel) (x : Cid) (d : Desc) : Panel :=
  p.updCore x (fun c => { c with descs := c.descs.map (fun e => if e.id = d.id then d else e) })
/-- The descriptor's first failure in time. -/
def Desc.fail (d : Desc) (st : Nat) : Desc := if d.status = 0 then { d with status := st } else d

/-- The next queued descriptor is read and started when fewer than four are in progress (R106, R523). -/
def Panel.descStart (p : Panel) (x : Cid) : Panel :=
  let c := p.core x
  match c.dmaq with
  | [] => p
  | a :: rest =>
    if 4 ≤ c.descs.length ∨ p.computeDead x = true ∨ p.draining x = true then p
    else
      let p := p.updCore x (fun c => { c with dmaq := rest, nextDesc := c.nextDesc + 1 })
      let (w0, bad0, p) := p.spadRead x a
      let (ws, bad, p) := p.spadReads x (a + 1) 7
      let d : Desc := ⟨c.nextDesc, a, w0 :: ws, false, 0, [], 0, [], 0, bad0, [], 0, [], []⟩
      let st := if bad0 || bad then stHwFault else p.descCheck x d
      p.updCore x (fun c => { c with descs := c.descs ++ [d.fail st] })

/-- DESCRIPTOR_START (R106). -/
def execDescriptorStart (x : Cid) (s : State) : Host.Outcome State Fault Refusal := onPanel (fun p => p.descStart x) s

/-! Planning. -/

/-- The 32-bit entry i of an index array: its value and whether its word was uncorrectable (R108). -/
def Panel.indexAt (p : Panel) (x : Cid) (a i : Nat) : Nat × Bool × Panel :=
  let (w, bad, p) := p.spadRead x (a + i / 2)
  (codeAt 32 w.toNat (i % 2), bad, p)

/-- The pieces of rows from i on, by their index entries, and how the planning ends. -/
def Panel.planRows (p : Panel) (x : Cid) (d : Desc) : Nat → Nat → List Piece × Nat × Panel
  | _, 0 => ([], 0, p)
  | i, n + 1 =>
    let (v, bad, p) := p.indexAt x d.idx i
    let far := v * d.stride
    if bad then ([], stHwFault, p)
    else if far % 64 ≠ 0 then ([], stBadParam, p)
    else
      let near := i * d.len
      let pc : Piece := if d.op = 2 then ⟨d.srcOff + far, d.dstOff + near, d.dst, d.len⟩
        else ⟨d.srcOff + near, d.dstOff + far, d.dst, d.len⟩
      let (ps, st, p) := p.planRows x d (i + 1) n
      (pc :: ps, st, p)

/-- The pieces of a COPY: 4 KiB at a time. -/
def planCopy (d : Desc) : List Piece :=
  (List.range (ceilDiv d.len 4096)).map (fun i =>
    ⟨d.srcOff + 4096 * i, d.dstOff + 4096 * i, d.dst, min 4096 (d.len - 4096 * i)⟩)

/-- A count table's entry (Table 4.10): capacity, destination, base, notice token and notice offset. -/
structure CtEntry where
  cap : Nat
  dst : Nat
  base : Nat
  ntok : Nat
  notice : Nat
deriving DecidableEq, Repr

/-- A count-table entry from its four words. -/
def ctEntry (ws : List W64) (j : Nat) : CtEntry :=
  let w (i : Nat) := ws.getD (4 * j + i) 0
  ⟨bits (w 0) 63 32, bits (w 0) 28 0, (w 1).toNat, bits (w 2) 37 32, (w 3).toNat⟩

/-- The result of assigning rows to entries (R112): rows sent by entry, pieces with their entries, and overflow entries. -/
structure Assign where
  counts : List Nat
  pieces : List (Piece × Nat)
  ovf : List Nat
deriving DecidableEq, Repr

/-- One choice assigned: to its entry while below capacity, else to the overflow list (R112). -/
def assignOne (d : Desc) (es : List CtEntry) (a : Assign) (row choice code : Nat) : Assign :=
  if code = 0xFF then a
  else
    let e := es.getD code ⟨0, 0, 0, 0, 0⟩
    let n := a.counts.getD code 0
    if n < e.cap then
      { a with counts := a.counts.set code (n + 1),
               pieces := a.pieces ++ [(⟨d.srcOff + row * d.len, e.base + n * d.len, e.dst, d.len⟩, code)] }
    else { a with ovf := a.ovf ++ [choice * 2 ^ 24 + code * 2 ^ 16 + row % 65536] }

/-- Rows assigned in row order, and within a row in choice order (R112). -/
def assignRows (d : Desc) (es : List CtEntry) (codes : List Nat) : Assign :=
  (List.range (d.rows * d.k)).foldl
    (fun a i => assignOne d es a (i / d.k) (i % d.k) (codes.getD i 0xFF)) ⟨List.replicate es.length 0, [], []⟩

/-- Two overflow entries to a word; the last word of an odd list keeps its upper half. -/
def ovfWords (last : W64) : List Nat → List W64
  | [] => []
  | [a] => [w64 (a + 2 ^ 32 * bits last 63 32)]
  | a :: b :: rest => w64 (a + 2 ^ 32 * b) :: ovfWords last rest

/-- DISPATCH's first pass and its assignment (R112): codes checked, rows assigned, the overflow list written. -/
def Panel.planDispatch (p : Panel) (x : Cid) (d : Desc) : Desc × Panel :=
  let (hd, badH, p) := p.spadReads x d.table 2
  let n := bits (hd.getD 0 0) 8 0
  let ovfBase := bits (hd.getD 0 0) 50 32
  let cap := bits (hd.getD 1 0) 15 0
  if badH then ({ d with status := stHwFault }, p)
  else if n = 0 ∨ 256 < n then ({ d with status := stBadParam }, p)
  else
    let (ew, badE, p) := p.spadReads x (d.table + 2) (4 * n)
    let nb := d.rows * d.k
    let (cw, badC, p) := p.spadReads x d.idx (ceilDiv nb 8)
    let packed := ofWords cw
    let codes := (List.range nb).map (codeAt 8 packed)
    if badE || badC then ({ d with status := stHwFault }, p)
    else if codes.any (fun c => c != 0xFF && decide (n ≤ c)) then ({ d with status := stBadParam }, p)
    else
      let a := assignRows d ((List.range n).map (ctEntry ew)) codes
      if cap < a.ovf.length then ({ d with status := stOverrun }, p)
      else
        let last := ssc76Data ((p.core x).cell (ovfBase + a.ovf.length / 2))
        let p := p.spadWrites x ovfBase (ovfWords last a.ovf)
        ({ d with pieces := a.pieces.map (·.1), entryOf := a.pieces.map (·.2), counts := a.counts, ovfUsed := a.ovf.length }, p)

/-- Queues the channel reads of pieces from the channel above the core (R106, R173): wide row k of the transfer. -/
def enqReads (id : Nat) (h : Chan) (ps : List Piece) : Chan :=
  ((ps.flatMap (fun pc => (List.range (pc.bytes / 64)).map (fun i => pc.src + 64 * i))).foldl
    (fun (acc : Chan × Nat) off => (acc.1.enq 0 off none (.desc id acc.2), acc.2 + 1)) (h, 0)).1

/-- The pieces whose source lies within the channel; the transfer ends at the first that does not (R176). -/
def inChannel (ps : List Piece) : List Piece := ps.takeWhile (fun pc => decide (pc.src + pc.bytes ≤ chanBytes))

/-- The pieces planned, and reads of the core's own channel queued. -/
def Panel.plan (p : Panel) (x : Cid) (d : Desc) : Desc × Panel :=
  let (d, p) := match d.op with
    | 1 => ({ d with pieces := planCopy d }, p)
    | 4 => p.planDispatch x d
    | _ =>
      let (ps, st, p) := p.planRows x d 0 d.rows
      ({ d with pieces := ps, endSt := st }, p)
  let d := { d with planned := true }
  if d.status = 0 ∧ p.ownUnit x d.src 6 then
    let ps := inChannel d.pieces
    let d := if ps.length < d.pieces.length then { d with pieces := ps, endSt := stOverrun } else d
    (d, p.updChan x (fun h => enqReads d.id h ps))
  else (d, p)

/-! Moving. -/

/-- A transfer tag that no packet of the core in flight uses (R204). -/
def Panel.freeTag (p : Panel) (x : Cid) : Option Nat :=
  let used := (p.awaits.filter (fun a => (Ep.of a.src).sameUnitCore (Ep.of (p.unitAddr x 0)))).map (·.xfer)
  let n := (p.core x).nextXfer
  ((List.range 256).map (fun i => (n + i) % 256)).find? (fun t => !used.contains t)

/-- The wide rows handed for pieces before piece i. -/
def Desc.wideBefore (d : Desc) (i : Nat) : Nat := ((d.pieces.take i).map (fun pc => pc.bytes / 64)).foldl (· + ·) 0

/-- The words of a piece from the engine's own end: none where a word is uncorrectable (R131, R180). -/
def Panel.pieceData (p : Panel) (x : Cid) (d : Desc) (i : Nat) (pc : Piece) : Option (List W64) × Panel :=
  if p.ownUnit x d.src 2 then
    let (ws, bad, p) := p.spadReads x (pc.src / 8) (pc.bytes / 8)
    (if bad then none else some ws, p)
  else
    let k := d.wideBefore i
    let got := (p.chan x).got
    let rows := (List.range (pc.bytes / 64)).map (fun j =>
      (got.find? (fun g => g.1 == DTag.desc d.id (k + j))).bind (·.2))
    (if rows.any (·.isNone) then none else some (rows.flatMap (fun r => wideWords (r.getD 0))), p)

/-- Every wide row that pieces need has been handed. -/
def Panel.readsIn (p : Panel) (x : Cid) (d : Desc) : Bool :=
  let h := p.chan x
  !(h.q0.any (fun r => (match r.tag with | .desc i _ => i == d.id | _ => false) && r.wdata.isNone)) &&
    !(h.reads.any (fun r => match r.req.tag with | .desc i _ => i == d.id | _ => false))

/-- Bytes that the descriptor sends to its destination (R521). -/
def Desc.total (d : Desc) : Nat := if d.op = 1 then d.len else d.rows * d.len

/-- The header token of piece i (R521). -/
def Desc.tok (d : Desc) (i : Nat) : Bool :=
  d.rtv && (d.bulk || (i + 1 == d.pieces.length && d.endSt == 0))

/-- The WRITE header of a piece. -/
def Panel.writeHdr (p : Panel) (x : Cid) (d : Desc) (i : Nat) (pc : Piece) (tag : Nat) : Header :=
  let mc := p.mcAlias x pc.ep
  { Header.blank with
    cls := d.cls, kind := kWrite, length := pc.bytes / 64, dst := pc.ep, src := p.unitAddr x 3, offset := pc.dst % 2 ^ 64,
    mc := mc.isSome, group := mc.getD 0, tokv := d.tok i, token := if d.tok i then d.rtok else 0, xfer := tag,
    total := if d.bulk then d.total else 0 }

/-- A packet injected for a descriptor: refused, it is the descriptor's failure; a packet that draws no STATUS counts as
delivered (R110, R207, R223). -/
def Panel.sendPiece (p : Panel) (x : Cid) (d : Desc) (i : Nat) (h : Header) (payload : List W76) (relay : Bool) :
    Desc × Panel :=
  let (st, p) := p.inject (rtrCore x.t x.c) h payload
  let p := p.updCore x (fun c => { c with nextXfer := (h.xfer + 1) % 256 })
  if st = stOk then ({ d with next := d.next + 1, xfers := d.xfers ++ [⟨i, h.src, h.xfer, relay, !h.drawsStatus, false⟩] }, p)
  else (d.fail st, p)

/-- A piece from the engine's own end goes to the channel above the core, to its own scratchpad or program store, or out as a
WRITE (R106, R520). -/
def Panel.movePiece (p : Panel) (x : Cid) (d : Desc) (i : Nat) (pc : Piece) : Desc × Panel :=
  if p.ownUnit x d.src 2 && decide (2 ^ 22 < pc.src + pc.bytes) then (d.fail stOverrun, p)
  else
    let (data, p) := p.pieceData x d i pc
    match data with
    | none => (d.fail stHwFault, p)
    | some ws =>
      if p.ownUnit x pc.ep 6 then
        if chanBytes < pc.dst + pc.bytes then (d.fail stOverrun, p)
        else
          ({ d with next := d.next + 1 },
            p.updChan x (fun h => (List.range (pc.bytes / 64)).foldl (fun h j =>
              h.enq 0 (pc.dst + 64 * j) (some (ofWide ((ws.drop (8 * j)).take 8))) (.desc d.id j)) h))
      else if p.ownUnit x pc.ep 2 && p.ownUnit x d.src 6 then
        if 2 ^ 22 < pc.dst + pc.bytes then (d.fail stOverrun, p)
        else ({ d with next := d.next + 1 }, p.spadWrites x (pc.dst / 8) ws)
      else if p.ownUnit x pc.ep 0 then
        ({ d with next := d.next + 1 },
          p.updSeq x (fun q => q.setBundles (pc.dst / 32) ((chunks 4 ws).map (fun b => BitVec.ofNat 256 (ofWords b)))))
      else
        match p.freeTag x with
        | none => (d, p)
        | some tag => p.sendPiece x d i (p.writeHdr x d i pc tag) (ws.map ssc76Enc) false

/-- A piece that the engine fetches with a READ: to its own end directly, or to its unit 3 to be relayed (R520). -/
def Panel.fetchPiece (p : Panel) (x : Cid) (d : Desc) (i : Nat) (pc : Piece) : Desc × Panel :=
  match p.freeTag x with
  | none => (d, p)
  | some tag =>
    let direct := p.ownEnd x pc.ep
    let h := { Header.blank with
      cls := clsReq, kind := kRead, dst := d.src, src := if direct then pc.ep else p.unitAddr x 3, xfer := tag,
      offset := pc.src % 2 ^ 64 }
    let tok := direct && d.tok i
    let w1 := pc.bytes + 2 ^ 32 * d.cls + (if tok then 2 ^ 40 * (d.rtok + 128) else 0)
    p.sendPiece x d i h [ssc76Enc (w64 (if direct then pc.dst else 0)), ssc76Enc (w64 w1), ssc76Enc 0, ssc76Enc 0] (!direct)

/-- Pieces moved from the next on, until one fails, tags run out, or all have been sent. -/
def Panel.movePieces (p : Panel) (x : Cid) : Nat → Desc → Desc × Panel
  | 0, d => (d, p)
  | fuel + 1, d =>
    if d.status ≠ 0 then (d, p)
    else match d.pieces[d.next]? with
      | none => (d, p)
      | some pc =>
        let n := d.next
        let (d, p) := if p.ownEnd x d.src then p.movePiece x d n pc else p.fetchPiece x d n pc
        if d.next = n then (d, p) else p.movePieces x fuel d

/-- A piece has been delivered (R110): moved by the engine itself, or its packet answered with OK. -/
def Desc.delivered (d : Desc) (i : Nat) : Bool :=
  decide (i < d.next) && d.xfers.all (fun t => t.piece != i || (t.done && !t.failed))

/-- The notice of an entry (R112): 64 B with the count and the sender's endpoint, which posts ntok. -/
def Panel.sendNotice (p : Panel) (x : Cid) (d : Desc) (j : Nat) : Desc × Panel :=
  match p.freeTag x with
  | none => (d, p)
  | some tag =>
    let ws := ((List.range 4).map (fun i => ssc76Data ((p.core x).cell (d.table + 2 + 4 * j + i))))
    let e := ctEntry ws 0
    let h := { Header.blank with
      cls := clsStream, kind := kWrite, length := 1, dst := e.dst, src := p.unitAddr x 3, offset := e.notice,
      tokv := true, token := e.ntok, xfer := tag }
    let w0 := w64 (d.counts.getD j 0 + 2 ^ 32 * p.unitAddr x 3)
    let (d, p) := p.sendPiece x d (d.pieces.length + j) h ((w0 :: List.replicate 7 0).map ssc76Enc) false
    ({ d with next := min d.next d.pieces.length, notices := d.notices ++ [j] }, p)

/-- The notices due (R112): of each entry all of whose rows have been delivered, in entry order. -/
def Panel.sendNotices (p : Panel) (x : Cid) (d : Desc) : Desc × Panel :=
  (List.range d.counts.length).foldl (fun (acc : Desc × Panel) j =>
    let d := acc.1
    let rows := (List.range d.pieces.length).filter (fun i => d.entryOf.getD i 0 == j)
    if d.status ≠ 0 ∨ d.notices.contains j = true ∨ rows.all (d.delivered ·) = false then acc
    else acc.2.sendNotice x d j) (d, p)

/-- The engine's movement for descriptor i of those in progress, if it has operation op: planned once, its reads awaited, its
pieces moved as far as they go, and a planning failure recorded behind them (R108, R110, R112). -/
def Panel.moveStep (p : Panel) (x : Cid) (i op : Nat) : Panel :=
  match (p.core x).descs[i]? with
  | none => p
  | some d =>
    if d.op ≠ op ∨ d.status ≠ 0 ∨ p.computeDead x = true ∨ p.draining x = true then p
    else
      let (d, p) := if d.planned then (d, p) else p.plan x d
      if p.ownUnit x d.src 6 && !p.readsIn x d then p.setDesc x d
      else
        let (d, p) := p.movePieces x d.pieces.length d
        let d := if d.status = 0 ∧ d.next = d.pieces.length then d.fail d.endSt else d
        let (d, p) := if d.op = 4 ∧ d.status = 0 then p.sendNotices x d else (d, p)
        p.setDesc x d

/-- COPY (R108). -/
def execCopy (x : Cid) (i : Nat) (s : State) : Host.Outcome State Fault Refusal := onPanel (fun p => p.moveStep x i 1) s
/-- GATHER (R108). -/
def execGather (x : Cid) (i : Nat) (s : State) : Host.Outcome State Fault Refusal := onPanel (fun p => p.moveStep x i 2) s
/-- SCATTER (R108). -/
def execScatter (x : Cid) (i : Nat) (s : State) : Host.Outcome State Fault Refusal := onPanel (fun p => p.moveStep x i 3) s
/-- DISPATCH (R112). -/
def execDispatch (x : Cid) (i : Nat) (s : State) : Host.Outcome State Fault Refusal := onPanel (fun p => p.moveStep x i 4) s

/-! Answers and write-back. -/

/-- A packet of a core's engine is answered (R110): the descriptor that sent it takes the answer. -/
def Panel.dmaAnswer (p : Panel) (x : Cid) (src tag st : Nat) : Panel :=
  p.updCore x (fun c => { c with descs := c.descs.map (fun d =>
    if d.xfers.any (fun t => t.src == src && t.tag == tag && !t.done && !t.failed) then
      let d := { d with xfers := d.xfers.map (fun t =>
        if t.src == src && t.tag == tag && !t.done && !t.failed then
          { t with done := st == 0, failed := st != 0 } else t) }
      if st = 0 then d else d.fail st
    else d) })

/-- The RDATA of a relay reaches the engine (R520): its words go on to the destination as a WRITE of the descriptor's class. -/
def Panel.dmaRelay (p : Panel) (x : Cid) (tag : Nat) (ws : List W76) : Panel :=
  let src := p.unitAddr x 3
  match (p.core x).descs.find? (fun d => d.xfers.any (fun t => t.relay && t.src == src && t.tag == tag && !t.done && !t.failed)) with
  | none => p
  | some d =>
    match d.xfers.find? (fun t => t.relay && t.src == src && t.tag == tag && !t.done && !t.failed) with
    | none => p
    | some t =>
      let dropped := { d with xfers := d.xfers.map (fun u => if u = t then { u with failed := true } else u) }
      let d := { d with xfers := d.xfers.erase t }
      if d.status ≠ 0 then p.setDesc x dropped
      else match d.pieces[t.piece]?, p.freeTag x with
        | some pc, some tag' =>
          let n := d.next
          let (d, p) := p.sendPiece x d t.piece (p.writeHdr x d t.piece pc tag') ws false
          p.setDesc x { d with next := n }
        | _, _ => p.setDesc x { d.fail stHwFault with xfers := d.xfers ++ [{ t with failed := true }] }

/-- The bytes of the longest leading part delivered (R110). -/
def Desc.doneBytes (d : Desc) : Nat :=
  (((List.range d.pieces.length).takeWhile (d.delivered ·)).map (fun i => (d.pieces.getD i ⟨0, 0, 0, 0⟩).bytes)).foldl (· + ·) 0

/-- Nothing of the descriptor is under way (R110): every packet answered, and every channel access of it made. -/
def Panel.descQuiet (p : Panel) (x : Cid) (d : Desc) : Bool :=
  let h := p.chan x
  let mine (t : DTag) : Bool := match t with | .desc i _ => i == d.id | _ => false
  d.xfers.all (fun t => t.done || t.failed) && !h.q0.any (fun r => mine r.tag) && !h.reads.any (fun r => mine r.req.tag)

/-- The descriptor has nothing more to send: it failed, or its pieces, and its notices, have all been sent. -/
def Desc.sent (d : Desc) : Bool :=
  d.status != 0 || (d.planned && d.next == d.pieces.length && (d.op != 4 || d.notices.length == d.counts.length))

/-- A descriptor completes (R99, R107, R110, R112, R521, R523): written back, its slot freed and its tokens posted. -/
def Panel.descWriteback (p : Panel) (x : Cid) (i : Nat) : Panel :=
  match (p.core x).descs[i]? with
  | none => p
  | some d =>
    if !d.sent || !p.descQuiet x d || p.computeDead x then p
    else
      let p := p.updCore x (fun c => { c with descs := c.descs.eraseIdx i })
      let p := p.updChan x (fun h => { h with
        got := h.got.filter (fun g => match g.1 with | .desc n _ => n != d.id | _ => true) })
      let p :=
        if d.op = 4 ∧ !d.counts.isEmpty then
          let p := p.each (List.range d.counts.length) (fun p j =>
            let a := d.table + 2 + 4 * j + 2
            let old := ssc76Data ((p.core x).cell a)
            p.spadWrites x a [setBits old 31 0 (d.counts.getD j 0)])
          let old := ssc76Data ((p.core x).cell (d.table + 1))
          p.spadWrites x (d.table + 1) [setBits old 31 16 d.ovfUsed]
        else p
      let p := if d.noWord0 then p
        else p.spadWrites x d.addr [setBits (setBits (d.w 0) 15 8 d.status) 63 32 d.doneBytes]
      let noPackets := d.status == 0 && d.op != 4 && p.ownEnd x d.src &&
        (p.ownUnit x d.dst 0 || (p.ownUnit x d.dst 6 || (p.ownUnit x d.dst 2 && p.ownUnit x d.src 6)))
      let p := if noPackets && d.rtv then p.post x d.rtok 1 else p
      let p := if d.noWord0 || decide (62 ≤ d.token) then p else p.post x d.token 1
      p.post x 62 1

/-- DESCRIPTOR_WRITEBACK (R107, R110). -/
def execDescriptorWriteback (x : Cid) (i : Nat) (s : State) : Host.Outcome State Fault Refusal :=
  onPanel (fun p => p.descWriteback x i) s

end Sys2Proof.Machine
end

