-- ==== Sys2Proof/Machine/Region.lean ====
section
/-!
DEFINITION. Regions: their clocks and voltages (R270 to R276, R301, R304 to R307), header switches (R308 to R310), the entry
handshake (R319 to R324), retention and wake (R325, R326).
-/
namespace Sys2Proof.Machine

open Sys2Proof

/-! Frequency (R270). -/

/-- The cap of failed cells (Table 11.4). -/
def cellCap (n : Nat) : Nat :=
  if n ≤ 8 then 140 else if n ≤ 10 then 124 else if n ≤ 12 then 116 else if n ≤ 14 then 108 else 100

/-- f_cap: the lowest of the thermal, budget, keeper and cell caps (R270). -/
def Panel.capCode (p : Panel) (t r : Nat) : Nat :=
  min (min (p.rget t r R.thermSts_cap) (p.region t r).bcap) (min (p.tile t).kcap (cellCap (p.rget t r R.regionPwr_cells)))

/-- f_c of a region whose DCO is not in wake mode. -/
def Panel.fcCode (p : Panel) (t r : Nat) : Nat :=
  min (min (p.rget t r R.dcoCtl_target) (p.rget t r R.dcoSts_adapt)) (p.capCode t r)

/-- DCO_STS follows the terms of f_c: the cap, the term that sets f_c, and a lock that is lost while the DCO glides to a new f_c. -/
def Panel.clkRefresh (p : Panel) (t r : Nat) : Panel :=
  let cap := p.capCode t r
  let p := p.rset t r R.dcoSts_cap cap
  if p.rget t r R.dcoSts_wake = 1 then p.rset t r R.dcoSts_lim 3
  else
    let f := p.fcCode t r
    let p := p.rset t r R.dcoSts_lim
      (if f = p.rget t r R.dcoCtl_target then 0 else if f = p.rget t r R.dcoSts_adapt then 1 else 2)
    if f = p.rget t r R.dcoSts_fc then p else p.rset t r R.dcoSts_locked 0

/-- The same for every region of a tile. -/
def Panel.clkRefreshAll (p : Panel) (t : Nat) : Panel := p.each (List.range 4) (fun p r => p.clkRefresh t r)

/-! Voltage (R301, R304). -/

/-- V(f): the voltage of the lowest point whose code is f or above, and of the last point beyond it (R304). -/
def Panel.vf (p : Panel) (t code : Nat) : Nat :=
  let pts := (List.range 8).map (fun n => (bits (p.rd (tileB t + R.vfPoint + 4 * n)) 7 0, bits (p.rd (tileB t + R.vfPoint + 4 * n)) 25 16))
  match pts.find? (fun e => decide (code ≤ e.1)) with
  | some e => e.2
  | none => (pts.getLastD (0, 0)).2

/-- The set voltage that a region needs for a code: V(f), or the pinned voltage (R304, R307). -/
def Panel.needV (p : Panel) (t r code : Nat) : Nat :=
  if p.rget t r R.vcoreSet_pin = 1 then p.rget t r R.vcoreSet_mv else p.vf t code

/-- A voltage raised to the converters' 5 mV steps (R299). -/
def step5 (v : Nat) : Nat := ceilDiv v 5 * 5

/-- The highest V_r among the tile's regions that are not DARK, region r counted at v (R301). -/
def Panel.topV (p : Panel) (t r v : Nat) : Nat :=
  (List.range 4).foldl (fun m i =>
    max m (if i = r then v else if p.rget t i R.regionState_state = 3 ∧ (p.region t i).up.isNone = true then 0
      else (p.region t i).vr)) 0

/-- VCORE for a highest V_r (R301). -/
def vcoreFor (v : Nat) : Nat := step5 (v + 20)
/-- VSRAM for a highest V_r (R304). -/
def vsramFor (v : Nat) : Nat := min 850 (max 700 (step5 (v + 50)))

/-- REGION_PWR.vset of the tile's regions: the set voltage, or VCORE − 80 mV where that is higher (R301). -/
def Panel.showV (p : Panel) (t : Nat) : Panel :=
  p.each (List.range 4) (fun p r =>
    let v := (p.region t r).vr
    p.rset t r R.regionPwr_vset (if v = 0 then 0 else max v ((p.tile t).vcore - 80)))

/-- A region's set voltage replaced. -/
def Panel.setVr (p : Panel) (t r v : Nat) : Panel := (p.updRegion t r (fun s => { s with vr := v })).showV t

/-- VCORE and VSRAM lowered to what the regions need (R305). -/
def Panel.lowerRails (p : Panel) (t : Nat) : Panel :=
  let top := p.topV t 4 0
  (p.updTile t (fun s => { s with vcore := min s.vcore (vcoreFor top), vsram := min s.vsram (vsramFor top) })).showV t

/-! Transitions (R305, R306). -/

/-- A transition ends: the trim falls to what the target needs, and the rails to what the regions need; its CLOCK_SET completes. -/
def Panel.vfEnd (p : Panel) (t r : Nat) : Panel :=
  match (p.region t r).vf with
  | none => p
  | some m =>
    let p := p.updRegion t r (fun s => { s with vf := none })
    let p := (p.setVr t r (p.needV t r m.code)).lowerRails t
    match m.cmd with
    | some k => p.cmdPart k (partClock t r) 0
    | none => p

/-- The next step of a transition toward its newest target, once the step before it has ended (R305): VSRAM, VCORE and the trim are
raised first, each with its settling; then f_target takes the code and the DCO locks and glides; a lowered voltage follows. -/
def Panel.vfNext (p : Panel) (t r : Nat) : Panel :=
  match (p.region t r).vf with
  | none => p
  | some m =>
    let v := p.needV t r m.code
    let goto (p : Panel) (n : Nat) : Panel := p.updRegion t r (fun s => { s with vf := some { m with step := n } })
    let top := p.topV t r v
    if (p.region t r).vr < v ∧ (p.tile t).vsram < vsramFor top then
      goto (p.updTile t (fun s => { s with vsram := vsramFor top })) 0
    else if (p.region t r).vr < v ∧ (p.tile t).vcore < v + 20 then
      goto ((p.updTile t (fun s => { s with vcore := vcoreFor top })).showV t) 1
    else if (p.region t r).vr < v then goto (p.setVr t r v) 2
    else if p.rget t r R.dcoSts_wake = 1 then goto ((p.rset t r R.dcoCtl_target m.code).clkRefresh t r) 3
    else
      let p := if p.rget t r R.dcoCtl_target = m.code then p
        else ((p.rset t r R.dcoCtl_target m.code).rset t r R.dcoSts_adapt m.code).clkRefresh t r
      if p.rget t r R.dcoSts_fc = p.fcCode t r then (p.rset t r R.dcoSts_locked 1).vfEnd t r else goto p 4

/-- A new target for a region that runs (R306): it starts a transition, or replaces the target of the one in progress, whose
CLOCK_SET completes. -/
def Panel.vfStart (p : Panel) (t r code : Nat) (cmd : Option (Nat × Nat)) : Panel :=
  match (p.region t r).vf with
  | some m =>
    let p := match m.cmd with | some k => p.cmdPart k (partClock t r) 0 | none => p
    p.updRegion t r (fun s => { s with vf := some { m with code := code, cmd := cmd } })
  | none => (p.updRegion t r (fun s => { s with vf := some ⟨code, 0, cmd⟩ })).vfNext t r

/-- VF_STEP: a converter or trim setting has settled (R305). -/
def Panel.vfStep (p : Panel) (t r : Nat) : Panel :=
  match (p.region t r).vf with
  | some m => if m.step ≤ 2 then p.vfNext t r else p
  | none => p

/-- VF_STEP (R305). -/
def execVfStep (x : Rid) (s : State) : Host.Outcome State Fault Refusal := onPanel (fun p => p.vfStep x.t x.r) s

/-- DCO_LOCK: the DCO locks at code 64, ending wake mode, and takes f_adapt from f_target (R273, R276). -/
def Panel.dcoLock (p : Panel) (t r : Nat) : Panel :=
  match (p.region t r).vf with
  | some m =>
    if m.step ≠ 3 then p
    else
      let p := ((p.rset t r R.dcoSts_wake 0).rset t r R.dcoSts_fc 64).rset t r R.dcoSts_locked 1
      ((p.rset t r R.dcoSts_adapt (p.rget t r R.dcoCtl_target)).clkRefresh t r).vfNext t r
  | none => p

/-- DCO_LOCK (R276). -/
def execDcoLock (x : Rid) (s : State) : Host.Outcome State Fault Refusal := onPanel (fun p => p.dcoLock x.t x.r) s

/-- The region's DCO runs: RUN or HOLD (Table 12.1). -/
def Panel.dcoOn (p : Panel) (t r : Nat) : Bool := decide (p.rget t r R.regionState_state ≤ 1)

/-- GLIDE_END: the DCO has reached f_c (R271); a transition that was gliding goes on. -/
def Panel.glideEnd (p : Panel) (t r : Nat) : Panel :=
  if !p.dcoOn t r || p.rget t r R.dcoSts_wake == 1 then p
  else
    let p := ((p.rset t r R.dcoSts_fc (p.fcCode t r)).rset t r R.dcoSts_locked 1).clkRefresh t r
    match (p.region t r).vf with
    | some m => if m.step = 4 then p.vfNext t r else p
    | none => p

/-- GLIDE_END (R271). -/
def execGlideEnd (x : Rid) (s : State) : Host.Outcome State Fault Refusal := onPanel (fun p => p.glideEnd x.t x.r) s

/-- ADAPT_WINDOW: the lowest slack that the region's monitors reported in a window, in 1/32 of a period (R273). -/
def Panel.adaptWindow (p : Panel) (t r slack : Nat) : Panel :=
  if p.rget t r R.regionState_state ≠ 0 ∨ p.rget t r R.dcoSts_wake = 1 then p
  else
    let a := p.rget t r R.dcoSts_adapt
    let calm := if slack ≥ 4 then (p.region t r).calm + 1 else 0
    let up := decide (calm ≥ 100)
    let p := p.updRegion t r (fun s => { s with calm := if up then 0 else calm })
    let a' := if slack < 2 then max 32 (a - 1) else if up then max a (min (a + 1) (p.rget t r R.dcoCtl_target)) else a
    (p.rset t r R.dcoSts_adapt a').clkRefresh t r

/-- ADAPT_WINDOW (R273). -/
def execAdaptWindow (x : Rid) (slack : Fin 33) (s : State) : Host.Outcome State Fault Refusal :=
  onPanel (fun p => p.adaptWindow x.t x.r slack) s

/-- The stretch level shown: the greater of the droop level and 1 where the region is forced (R310). -/
def Panel.showStretch (p : Panel) (t r : Nat) : Panel :=
  p.rset t r R.dcoSts_stretch (max (p.region t r).droop (p.rget t r R.regionPwr_forced))

/-- DROOP_TRIP: a detector trips and stays tripped for n cycles, the level rising by 1 in each, to 8 (R274). -/
def Panel.droopTrip (p : Panel) (t r n : Nat) : Panel :=
  if !p.dcoOn t r || n == 0 then p
  else
    let p := if p.rget t r R.dcoSts_stretch = 0 then p.count (regionB t r + 0x100) 1 else p
    let p := p.count (regionB t r + 0x108) n
    (p.updRegion t r (fun s => { s with droop := min 8 (s.droop + n) })).showStretch t r

/-- DROOP_TRIP (R274). -/
def execDroopTrip (x : Rid) (cycles : BitVec 32) (s : State) : Host.Outcome State Fault Refusal :=
  onPanel (fun p => p.droopTrip x.t x.r cycles.toNat) s

/-- DROOP_CLEAR: for n cycles all detectors are clear, and the level falls by 1 every 4 cycles (R274); cycles at level 1 or above count. -/
def Panel.droopClear (p : Panel) (t r n : Nat) : Panel :=
  if !p.dcoOn t r then p
  else
    let d := (p.region t r).droop
    let p := p.count (regionB t r + 0x108) (if p.rget t r R.regionPwr_forced = 1 then n else min n (4 * d))
    (p.updRegion t r (fun s => { s with droop := d - n / 4 })).showStretch t r

/-- DROOP_CLEAR (R274). -/
def execDroopClear (x : Rid) (cycles : BitVec 32) (s : State) : Host.Outcome State Fault Refusal :=
  onPanel (fun p => p.droopClear x.t x.r cycles.toNat) s

/-! VCORE_SET (R307). -/

/-- A write of VCORE_SET: one that pins below V(f_target), or outside 550 to 880 mV, is refused; clearing pin returns the region to
V(f_target). -/
def Panel.vcoreWrite (p : Panel) (t r : Nat) (v : W32) : Panel :=
  let p := if bit v 30 then p.rset t r R.vcoreSet_rej 0 else p
  let mv := bits v 9 0
  let code := if p.rget t r R.dcoSts_wake = 1 then 68 else p.rget t r R.dcoCtl_target
  let powered := p.dcoOn t r
  if bit v 31 then
    if mv < p.vf t code ∨ mv < 550 ∨ 880 < mv then p.rset t r R.vcoreSet_rej 1
    else
      let p := (p.rset t r R.vcoreSet_pin 1).rset t r R.vcoreSet_mv mv
      if powered && p.rget t r R.dcoSts_wake == 0 then p.vfStart t r code (((p.region t r).vf).bind (·.cmd)) else
        if powered then
          ((p.updTile t (fun s => { s with
            vcore := max s.vcore (vcoreFor mv), vsram := max s.vsram (vsramFor mv) })).setVr t r mv).lowerRails t
        else p
  else
    let was := p.rget t r R.vcoreSet_pin = 1
    let p := (p.rset t r R.vcoreSet_pin 0).rset t r R.vcoreSet_mv mv
    if was && powered then
      if p.rget t r R.dcoSts_wake = 1 then (p.setVr t r (p.vf t code)).lowerRails t
      else p.vfStart t r code (((p.region t r).vf).bind (·.cmd))
    else p

/-- VCORE_SET_WRITE (R307). -/
def execVcoreSetWrite (x : Rid) (v : BitVec 32) (s : State) : Host.Outcome State Fault Refusal :=
  onPanel (fun p => p.vcoreWrite x.t x.r v) s

/-! Leaving RUN. -/

/-- A transition is cut short: its CLOCK_SET completes and its target is recorded (R306). -/
def Panel.vfCut (p : Panel) (t r : Nat) : Panel :=
  match (p.region t r).vf with
  | none => p
  | some m =>
    let p := p.updRegion t r (fun s => { s with vf := none })
    let p := (p.rset t r R.dcoCtl_target m.code).rset t r R.dcoCtl_pend 1
    match m.cmd with
    | some k => p.cmdPart k (partClock t r) 0
    | none => p

/-- The contents that a core keeps across NAP (R325): retained banks, the program store and the sequencer's registers. -/
def Core.napped (c : Core) (mask : W32) : Core :=
  { Core.zero with
    seq := { Seq.zero with
      sregs := c.seq.sregs, tokens := c.seq.tokens, streams := c.seq.streams, gmodes := c.seq.gmodes, prog := c.seq.prog,
      badPar := c.seq.badPar, bulk := c.seq.bulk, chkDue := c.seq.chkDue, tiles := c.seq.tiles, cycle := c.seq.cycle,
      due := c.seq.cycle }
    spad := c.spad.filter (fun e => bit mask (bankOf e.1))
    larder := c.larder, nextDesc := c.nextDesc, nextXfer := c.nextXfer, lfsr := c.lfsr, resetting := c.resetting }

/-- A core's region loses its supply for NAP: GRID_STATUS is lost with the arrays, the sequencer will be IDLE (R325, R326). -/
def Panel.coreNap (p : Panel) (x : Cid) : Panel :=
  let p := p.abortSelftest x
  let mask := p.crd x R.coreRetain
  let p := (p.updCore x (fun c => c.napped mask)).cwr x R.gridStatus 0
  ((p.cset x R.seqStatus_state 0).cset x R.seqStatus_in_trap 0).cset x R.seqStatus_abft_cond 0

/-- A core's region goes DARK: nothing of its units 0 to 5 is kept, nor CORE_RETAIN (R325); a reset in progress ends with it (R379). -/
def Panel.coreDark (p : Panel) (x : Cid) : Panel :=
  let p := p.abortSelftest x
  let p := p.setCore x Core.zero
  let p := ((p.clearCompute x).cwr x R.coreRetain 0).chanComputeReset x
  let p := { p with awaits := p.awaits.filter (fun a => !a.ofCore p x) }
  p.cmdParts (p.host.cmds.map (·.key)) (partReset x.t x.c) 0

/-- Self-refresh of a tile's stack entered or left (R190); entering empties the scrub queues (R184). -/
def Panel.selfRefresh (p : Panel) (t : Nat) (on : Bool) : Panel :=
  p.each (List.range 64) (fun p c =>
    let p := p.cset (cid t c) R.dramStatus_selfref (b2n on)
    if on then p.updChan (cid t c) (fun h => { h with scrub := [] }) else p)

/-- The tile being powered has its rails up and no region left to power: the next follows (R311), and the commands that asked for it
complete. -/
def Panel.queueStep (p : Panel) : Panel :=
  match p.keep.queue with
  | [] => p
  | t :: ts =>
    if (p.tile t).vcoreOn && (p.tile t).upq.isEmpty then
      (p.updKeep (fun k => { k with queue := ts, holds := 0 })).cmdParts (p.host.cmds.map (·.key)) (partTile t) 0
    else p

/-- DCO_CTL and VCORE_SET of a region that goes DARK are lost (R325), but for a recorded target (R306). -/
def Panel.regDark (p : Panel) (t r : Nat) : Panel :=
  let p := p.wr (regionB t r + R.vcoreSet) 0
  let p := p.rset t r R.dcoCtl_dith 1
  if p.rget t r R.dcoCtl_pend = 1 then p else p.rset t r R.dcoCtl_target 64

/-- A region's switches open and it is in NAP (2) or DARK (3) (R314, R325): from NAP to DARK what was kept is dropped. -/
def Panel.regionDown (p : Panel) (t r s : Nat) : Panel :=
  let p := p.vfCut t r
  let xs := (regionCores r).map (fun c => cid t c)
  let p := if s = 3 then (p.each xs (fun p x => p.coreDark x)).regDark t r else p.each xs (fun p x => p.coreNap x)
  let p := ((p.rset t r R.regionState_state s).rset t r R.regionState_hs 0).rset t r R.regionState_target s
  let p := ((p.rset t r R.regionPwr_stage 0).rset t r R.regionPwr_held 0).rset t r R.dcoSts_locked 0
  let p := (p.rset t r R.regionPwr_forced 0).rset t r R.dcoSts_stretch 0
  let p := p.updTile t (fun s => { s with upq := s.upq.filter (· != r) })
  let cmds := (p.region t r).cmds
  let p := p.updRegion t r (fun g => { g with
    hs := none, commit := none, up := none, cmds := [], vr := 0, droop := 0, calm := 0, resetOwed := false })
  let p := p.lowerRails t
  let p := if p.relayDark t then p.selfRefresh t true else p
  (p.cmdParts cmds (partRegion t r) 0).queueStep

/-- REGION_SWITCH_OFF: the switches of a region whose entry has been committed open (R314, R321). -/
def Panel.switchOff (p : Panel) (t r : Nat) : Panel :=
  match (p.region t r).commit with
  | some s => if s = 2 ∨ s = 3 then p.regionDown t r s else p
  | none => p

/-- REGION_SWITCH_OFF (R314). -/
def execRegionSwitchOff (x : Rid) (s : State) : Host.Outcome State Fault Refusal := onPanel (fun p => p.switchOff x.t x.r) s

/-- A region is sent to DARK without a handshake (R303, R324, R332, R411): a handshake or a power-up in progress ends, and what waited
for it completes with a status. -/
def Panel.forceDark (p : Panel) (t r st : Nat) : Panel :=
  if p.rget t r R.regionState_state = 3 ∧ (p.region t r).up.isNone = true then p
  else
    let cmds := (p.region t r).cmds
    let p := p.updRegion t r (fun g => { g with hs := none, up := none, cmds := [], commit := some 3 })
    let p := p.updTile t (fun s => { s with upq := s.upq.filter (· != r) })
    let p := (p.rset t r R.regionState_hs 0).rset t r R.regionState_target 3
    (p.cmdParts cmds (partRegion t r) st).queueStep

/-! The entry handshake (R319 to R323). -/

/-- The units that PREPARE asks. -/
def hsUnits : List Nat := [0, 1, 3, 4, 5, 6]

/-- A handshake starts: PREPARE goes to the blocks of every unfenced core of the region. -/
def Panel.hsStart (p : Panel) (t r target : Nat) : Panel :=
  let cs := (regionCores r).filter (fun c => !p.fenced (cid t c))
  let answers := cs.flatMap (fun c => hsUnits.map (fun u => HsAnswer.mk c u false true 0))
  let p := (p.rset t r R.regionState_hs 1).rset t r R.regionState_target target
  p.updRegion t r (fun g => { g with hs := some ⟨target, p.now, answers⟩ })

/-- An answer to PREPARE (Table 12.5). -/
inductive Answer where
  | accept
  | delay (n : Nat)
  | refuse (reason : Nat)
deriving DecidableEq, Repr

/-- The bytes that a core's DMA engine has left to move (R319). -/
def Core.dmaLeft (c : Core) : Nat :=
  (c.descs.map (fun d => ((d.pieces.drop d.next).map (·.bytes)).foldl (· + ·) 0)).foldl (· + ·) 0

/-- What a block answers to PREPARE for a target state (Table 12.5). A block whose pipeline was busy when it was first asked has drained
when it is asked again. -/
def Panel.hsAnswer (p : Panel) (x : Cid) (unit target : Nat) (again : Bool) : Answer :=
  let c := p.core x
  let st := p.seqState x
  let moving := p.running x && !again
  match unit with
  | 0 => if st = 0 ∨ st = 3 ∨ st = 4 ∨ (target = 1 ∧ st = 2) then .accept else .refuse 1
  | 1 => if c.grid.load.isSome || (moving && !c.seq.pw.isEmpty) then .delay 1 else .accept
  | 3 => if c.dmaq.isEmpty && c.descs.isEmpty then .accept else .delay (min 255 (max 1 (ceilDiv c.dmaLeft 128000)))
  | 4 =>
    if moving && decide (c.seq.cycle < c.pln.busyTo) then .delay 1 else if c.pln.asm.isEmpty then .accept else .refuse 3
  | 5 => if p.larderAccepts x then .accept else .refuse 2
  | _ =>
    let last := p.relayTile x.t && (List.range 4).all (fun r => r == regionOf x.c || p.rget x.t r R.regionState_state == 3)
    if target = 3 ∧ last = true ∧ (p.chan x).q0.isEmpty = false then .delay 1 else .accept

/-- The refusal counter of a unit in its region's block (R324). -/
def refuseCtr : Nat → Nat
  | 0 => 0x118 | 1 => 0x120 | 3 => 0x128 | 4 => 0x130 | 5 => 0x138 | _ => 0x140

/-- REFUSE_LOG written (Table 12.9). -/
def Panel.refuseRec (p : Panel) (t r core unit target reason : Nat) (abort : Bool) : Panel :=
  let v := b2n abort * 2 ^ 31 + unit * 2 ^ 28 + r * 2 ^ 26 + core * 2 ^ 20 + target * 2 ^ 18 + reason * 2 ^ 8
  p.wr (tileB t + R.refuseLog) (w32 v)

/-- A handshake is released: the region stays as it was, and what waited completes with a status. -/
def Panel.hsRelease (p : Panel) (t r st : Nat) : Panel :=
  let cmds := (p.region t r).cmds
  let p := p.updRegion t r (fun g => { g with hs := none, cmds := [] })
  let p := (p.rset t r R.regionState_hs 0).rset t r R.regionState_target 0
  p.cmdParts cmds (partRegion t r) st

/-- PREPARE_ANSWER: the block that has been asked answers (R319, R320, R322). -/
def Panel.prepareAnswer (p : Panel) (x : Cid) (unit : Nat) : Panel :=
  let t := x.t.val
  let r := regionOf x.c
  match (p.region t r).hs with
  | none => p
  | some h =>
    match h.answers.find? (fun a => a.core == x.c.val && a.unit == unit && a.asked && !a.accepted) with
    | none => p
    | some a =>
      let put (b : HsAnswer) : Panel :=
        p.updRegion t r (fun g => { g with hs := some { h with answers := h.answers.map (fun c => if c = a then b else c) } })
      match p.hsAnswer x unit h.target (a.again != 0) with
      | .accept => put { a with accepted := true, asked := false }
      | .delay n => put { a with asked := false, again := p.now + n }
      | .refuse why =>
        ((p.count (regionB t r + refuseCtr unit) 1).refuseRec t r x.c unit h.target why false).hsRelease t r 10

/-- PREPARE_ANSWER (R319). -/
def execPrepareAnswer (x : Cid) (unit : Fin 8) (s : State) : Host.Outcome State Fault Refusal :=
  onPanel (fun p => p.prepareAnswer x unit) s

/-- PREPARE_RETRY: a block that delayed is asked again when its time has come (R320). -/
def Panel.prepareRetry (p : Panel) (x : Cid) (unit : Nat) : Panel :=
  let t := x.t.val
  let r := regionOf x.c
  match (p.region t r).hs with
  | none => p
  | some h =>
    p.updRegion t r (fun g => { g with hs := some { h with answers := h.answers.map (fun a =>
      if a.core = x.c.val ∧ a.unit = unit ∧ a.accepted = false ∧ a.asked = false ∧ a.again ≤ p.now then { a with asked := true } else a) } })

/-- PREPARE_RETRY (R320). -/
def execPrepareRetry (x : Cid) (unit : Fin 8) (s : State) : Host.Outcome State Fault Refusal :=
  onPanel (fun p => p.prepareRetry x unit) s

/-- ENTRY_COMMIT: with every block accepted the entry is committed; HOLD is reached at once (R321, Table 12.2). -/
def Panel.entryCommit (p : Panel) (t r : Nat) : Panel :=
  match (p.region t r).hs with
  | none => p
  | some h =>
    if !h.answers.all (·.accepted) then p
    else
      let p := p.rset t r R.regionState_hs 0
      if h.target = 1 then
        let cmds := (p.region t r).cmds
        let p := p.updRegion t r (fun g => { g with hs := none, cmds := [] })
        (p.rset t r R.regionState_state 1).cmdParts cmds (partRegion t r) 0
      else p.updRegion t r (fun g => { g with hs := none, commit := some h.target })

/-- ENTRY_COMMIT (R321). -/
def execEntryCommit (x : Rid) (s : State) : Host.Outcome State Fault Refusal := onPanel (fun p => p.entryCommit x.t x.r) s

/-- HANDSHAKE_TIMEOUT: an entry not accepted in time is aborted; each block that has not accepted counts, and the lowest is logged
(R323). -/
def Panel.hsTimeout (p : Panel) (t r : Nat) : Panel :=
  match (p.region t r).hs with
  | none => p
  | some h =>
    let late := h.answers.filter (fun a => !a.accepted)
    if late.isEmpty || decide (p.now < h.start + bits (p.rd (tileB t + R.pwrHsLimit)) 15 0) then p
    else
      let p := p.each late (fun p a => p.count (regionB t r + refuseCtr a.unit) 1)
      let p := match late with
        | a :: _ => p.refuseRec t r a.core a.unit h.target 0 true
        | [] => p
      p.hsRelease t r 9

/-- HANDSHAKE_TIMEOUT (R323). -/
def execHandshakeTimeout (x : Rid) (s : State) : Host.Outcome State Fault Refusal := onPanel (fun p => p.hsTimeout x.t x.r) s

/-- WAKE_ON_PACKET: a packet waits for a unit of a HOLD region whose wop is 1 (R314). -/
def Panel.wakeOnPacket (p : Panel) (t r : Nat) : Panel :=
  let waits := p.flights.any (fun f => f.stage == .dest && decide (f.loc / 64 = t) && decide (f.loc < 9216) &&
    regionOf (f.loc % 64) == r && decide ((Ep.of f.hdr.dst).unit ≤ 5))
  if p.rget t r R.regionState_state = 1 ∧ p.rget t r R.regionState_wop = 1 ∧ waits = true ∧ (p.region t r).hs.isNone = true ∧
      (p.region t r).commit.isNone = true then
    (p.rset t r R.regionState_state 0).rset t r R.regionState_target 0
  else p

/-- WAKE_ON_PACKET (R314). -/
def execWakeOnPacket (x : Rid) (s : State) : Host.Outcome State Fault Refusal := onPanel (fun p => p.wakeOnPacket x.t x.r) s

/-! Header switches (R308 to R310). -/

/-- A region is to be powered to RUN: it joins its tile's requests in order of arrival (R308). -/
def Panel.wakeRegion (p : Panel) (t r : Nat) : Panel :=
  if (p.region t r).up.isSome ∨ p.rget t r R.regionState_state < 2 then p
  else
    let p := p.updRegion t r (fun g => { g with up := some ⟨0, false⟩ })
    let p := p.updTile t (fun s => { s with upq := s.upq ++ [r] })
    p.rset t r R.regionState_target 0

/-- The two regions of the tile that share an edge with region r (R309). -/
def neighbours (r : Nat) : List Nat := [r ^^^ 1, r ^^^ 2]

/-- A neighbour is in its peak window at an estimate in A (R309). -/
def Panel.inPeak (p : Panel) (t r est : Nat) : Bool :=
  p.dcoOn t r && decide (p.tget t R.admitCtl_peak ≤ est)

/-- A region held at stretch level 1 by a power-up next to it (R310). -/
def Panel.forceStretch (p : Panel) (t r : Nat) : Panel :=
  if p.rget t r R.regionPwr_forced = 1 then p
  else ((p.rset t r R.regionPwr_forced 1).showStretch t r).count (tileB t + 0x818) 1

/-- The next header-switch stage closes. Before the first, the set voltage for wake mode, or the pinned one, is in place (R304); with
the eighth the DCO starts in wake mode (R276). -/
def Panel.stageOn (p : Panel) (t r : Nat) : Panel :=
  let n := p.rget t r R.regionPwr_stage
  let p := if n ≠ 0 then p
    else
      let v := p.needV t r 68
      let top := p.topV t r v
      (p.updTile t (fun s => { s with vcore := max s.vcore (vcoreFor top), vsram := max s.vsram (vsramFor top) })).setVr t r v
  let p := (p.rset t r R.regionPwr_held 0).rset t r R.regionPwr_stage (n + 1)
  if n + 1 = 8 then
    (((p.rset t r R.dcoSts_wake 1).rset t r R.dcoSts_fc 64).rset t r R.dcoSts_locked 0).clkRefresh t r
  else p

/-- The region whose switches the Warden is closing (R308). -/
def Panel.powering (p : Panel) (t r : Nat) : Bool :=
  (p.tile t).rails && (p.tile t).pll && (p.tile t).vcoreOn && (p.tile t).upq.head? == some r &&
    decide (p.rget t r R.regionPwr_stage < 8) && (p.region t r).commit.isNone

/-- HEADER_STAGE: with the neighbours' present estimates the next stage proceeds, or is held for 1 µs (R310). -/
def Panel.headerStage (p : Panel) (t r a b : Nat) : Panel :=
  match (p.region t r).up with
  | none => p
  | some u =>
    if !p.powering t r then p
    else
      let ns := (neighbours r).zip [a, b]
      let peak := (ns.filter (fun n => p.inPeak t n.1 n.2)).map (·.1)
      if u.forced then (p.each peak (fun p n => p.forceStretch t n)).stageOn t r
      else if peak.isEmpty then p.stageOn t r
      else if u.holds < 200 then
        ((p.rset t r R.regionPwr_held 1).count (tileB t + 0x810) 1).updRegion t r (fun g => { g with up := some { u with holds := u.holds + 1 } })
      else p

/-- HEADER_STAGE (R310). -/
def execHeaderStage (x : Rid) (a b : BitVec 8) (s : State) : Host.Outcome State Fault Refusal :=
  onPanel (fun p => p.headerStage x.t x.r a.toNat b.toNat) s

/-- ADMIT_FORCE: after 200 µs of holds the neighbours in their peak windows are forced and the stage proceeds (R310). -/
def Panel.admitForce (p : Panel) (t r a b : Nat) : Panel :=
  match (p.region t r).up with
  | none => p
  | some u =>
    if !p.powering t r || u.forced || decide (u.holds < 200) then p
    else
      let peak := (((neighbours r).zip [a, b]).filter (fun n => p.inPeak t n.1 n.2)).map (·.1)
      let p := p.updRegion t r (fun g => { g with up := some { u with forced := true } })
      (p.each peak (fun p n => p.forceStretch t n)).stageOn t r

/-- ADMIT_FORCE (R310). -/
def execAdmitForce (x : Rid) (a b : BitVec 8) (s : State) : Host.Outcome State Fault Refusal :=
  onPanel (fun p => p.admitForce x.t x.r a.toNat b.toNat) s

/-- FORCED_STRETCH_END: no power-up of the tile that has forced its neighbours is still closing switches (R310, R311). -/
def Panel.forcedEnd (p : Panel) (t : Nat) : Panel :=
  let busy := (List.range 4).any (fun r => match (p.region t r).up with
    | some u => u.forced && decide (p.rget t r R.regionPwr_stage < 8)
    | none => false)
  if busy then p
  else p.each (List.range 4) (fun p r => (p.rset t r R.regionPwr_forced 0).showStretch t r)

/-- FORCED_STRETCH_END (R310). -/
def execForcedStretchEnd (t : Fin 144) (s : State) : Host.Outcome State Fault Refusal := onPanel (fun p => p.forcedEnd t) s

/-! Entering RUN (R326). -/

/-- REGION_WAKE_DONE: a region whose switches are closed and whose arrays are zeroed enters RUN: WAKE_PC sequencers start after NAP,
a reset that is owed is applied, a recorded target takes effect, and what waited completes (R306, R326, R372). -/
def Panel.wakeDone (p : Panel) (t r : Nat) : Panel :=
  if (p.region t r).up.isNone = true ∨ p.rget t r R.regionPwr_stage ≠ 8 ∨ p.rget t r R.regionState_state < 2 then p
  else
    let nap := p.rget t r R.regionState_state = 2
    let owed := (p.region t r).resetOwed
    let cmds := (p.region t r).cmds
    let xs := (regionCores r).map (fun c => cid t c)
    let p := if p.selfref (cid t 0) then p.selfRefresh t false else p
    let p := if (List.range 4).all (fun i => !p.dcoOn t i) then p.tset t R.budgetSts_budget 60 else p
    let p := ((p.rset t r R.regionState_state 0).rset t r R.regionState_target 0).rset t r R.regionState_hgate 0
    let p := p.updRegion t r (fun g => { g with up := none, cmds := [], resetOwed := false })
    let p := p.updTile t (fun s => { s with upq := s.upq.filter (· != r) })
    let p := if owed then p.each xs (fun p x => p.coreReset x)
      else if nap then p.each xs (fun p x =>
        if p.cget x R.wakePc_en = 1 ∧ p.fenced x = false then p.launch x (p.cget x R.wakePc_vec) else p)
      else p
    let p := if p.rget t r R.dcoCtl_pend = 1 then
        (p.rset t r R.dcoCtl_pend 0).vfStart t r (p.rget t r R.dcoCtl_target) none
      else p
    p.cmdParts cmds (partRegion t r) 0

end Sys2Proof.Machine
end

