-- ==== Sys2Proof/Machine/HostDma.lean ====
section
/-!
DEFINITION. The DMA engines of the host dies: copies between units and host memory, and aperture accesses (R26, R108 to R110, R425,
R426, R442, R520).
-/
namespace Sys2Proof.Machine

open Sys2Proof

/-- The address of a host die's unit 3. -/
def Panel.dieDma (p : Panel) (d : Nat) : Nat := (Ep.dieUnit p.panelId d 3).addr

/-- A transfer tag that no packet of the die's engine waits with. -/
def Panel.dieTag (p : Panel) (d : Nat) : Option Nat :=
  (List.range 256).find? (fun t => !p.awaits.any (fun a => a.src == p.dieDma d && a.xfer == t) &&
    !(p.die d).relays.any (fun r => r.1 == t))

/-- A packet of the engine: its status at injection and the panel after. -/
def Panel.dieSend (p : Panel) (d kind cls ep off len tag : Nat) (payload : List W76) : Nat × Panel :=
  p.inject (rtrDie d)
    { Header.blank with cls := cls, kind := kind, length := len, dst := ep, src := p.dieDma d, xfer := tag,
                        offset := off } payload

/-- The payload of a READ packet (R206): where its data go, how many bytes, and the reply class. -/
def readPayload (dstOff bytes cls : Nat) : List W76 :=
  [ssc76Enc (w64 dstOff), ssc76Enc (w64 (bytes + 2 ^ 32 * cls)), ssc76Enc 0, ssc76Enc 0]

/-- Bytes as coded words. -/
def codeBytes (bs : List Byte) : List W76 := (chunks 8 bs).map (fun c => ssc76Enc (w64 (ofBytes c)))

/-- An endpoint is the host memory behind a host die (R26). -/
def isHostMem (ep : Nat) : Bool := (Ep.of ep).isDie && isHost (Ep.of ep).core && (Ep.of ep).unit == 3

/-- The next piece of a copy is sent (R108, R520): a WRITE of host memory's bytes, a READ whose data host memory takes, or a READ whose
data the engine relays; none where it has nothing to send or no tag is free. -/
def Panel.jobSend (p : Panel) (d : Nat) (j : HJob) : Option (HJob × Panel) :=
  match p.dieTag d with
  | none => none
  | some tag =>
    if j.len ≤ j.sent ∨ j.failed.isSome = true then none
    else
      let n := min 4096 (j.len - j.sent)
      let cls := if j.bulk then clsBulk else clsStream
      let r :=
        if isHostMem j.src then
          p.dieSend d kWrite cls j.dst (j.dstOff + j.sent) (n / 64) tag (codeBytes (p.hostRd (d - 16) (j.srcOff + j.sent) n))
        else p.dieSend d kRead clsReq j.src (j.srcOff + j.sent) 1 tag (readPayload (j.dstOff + j.sent) n cls)
      let q := if isHostMem j.src || isHostMem j.dst || r.1 != stOk then r.2
        else r.2.updDie d (fun s => { s with relays := s.relays ++ [(tag, j.dst, j.dstOff + j.sent, cls)] })
      if r.1 = stOk then some ({ j with sent := j.sent + n, opened := j.opened ++ [(tag, j.sent, n)] }, q)
      else some ({ j with sent := j.sent + n, failed := some (j.sent, r.1) }, q)

/-- As many pieces as tags allow. -/
def Panel.jobPump (p : Panel) (d : Nat) : Nat → HJob → HJob × Panel
  | 0, j => (j, p)
  | n + 1, j => match p.jobSend d j with
    | none => (j, p)
    | some (j', p') => Panel.jobPump p' d n j'

/-- A copy has ended when nothing more is to be sent and nothing is awaited: its command completes, the result naming the longest
leading part delivered (R110, R442). -/
def Panel.jobEnd (p : Panel) (j : HJob) : Panel :=
  match p.cmd j.key with
  | none => p
  | some c =>
    let done := match j.failed with | some f => f.1 | none => j.len
    (p.setCmd { c with res := toBytes 4 done }).cmdPart j.key partCopy (match j.failed with | some f => f.2 | none => stOk)

/-- Sends what the copies of a die can send, and ends those that have ended. -/
def Panel.jobsPump (p : Panel) (d : Nat) : Panel :=
  (p.die d).jobs.foldl (fun p j =>
    let r := p.jobPump d 256 j
    let isOver := r.1.opened.isEmpty && (decide (r.1.len ≤ r.1.sent) || r.1.failed.isSome)
    let p := r.2.updDie d (fun s => { s with
      jobs := if isOver then s.jobs.filter (fun i => i.key != j.key) else s.jobs.map (fun i => if i.key = j.key then r.1 else i) })
    if isOver then p.jobEnd r.1 else p) p

/-! Aperture accesses. -/

/-- The pieces of an access: offset and bytes, whole flits, at most 4 KiB each. -/
def HAper.pieces (a : HAper) : List (Nat × Nat) :=
  let first := a.off / 64 * 64
  let last := ceilDiv (a.off + a.len) 64 * 64
  (List.range (ceilDiv (last - first) 4096)).map (fun i => (first + 4096 * i, min 4096 (last - first - 4096 * i)))

/-- An access's packets are sent, while tags are free for all of them. -/
def Panel.aperSend (p : Panel) (d : Nat) (a : HAper) : HAper × Panel :=
  a.pieces.foldl (fun (acc : HAper × Panel) pc =>
    let a := acc.1
    let p := acc.2
    match p.dieTag d with
    | none => ({ a with failed := true }, p)
    | some tag =>
      let r := match a.data with
        | some bs => p.dieSend d kWrite clsStream a.ep pc.1 (pc.2 / 64) tag (codeBytes ((bs.drop (pc.1 - a.off)).take pc.2))
        | none => p.dieSend d kRead clsReq a.ep pc.1 1 tag (readPayload 0 pc.2 clsStream)
      if r.1 = stOk then ({ a with tags := a.tags ++ [tag] }, r.2) else ({ a with failed := true }, r.2)) ({ a with sent := true }, p)

/-- The number of tags that the engine has free. -/
def Panel.dieTags (p : Panel) (d : Nat) : Nat :=
  256 - (p.awaits.filter (fun a => a.src == p.dieDma d)).length - (p.die d).relays.length

/-- Sends the accesses that may be sent: a write once every earlier write to its endpoint has been sent, a read once every earlier
write to its endpoint has drawn its STATUS (R426). -/
def Panel.aperPump (p : Panel) (d : Nat) : Panel :=
  ((p.die d).apers.foldl (fun (acc : List HAper × Panel) a =>
    let before := acc.1.filter (fun b => b.ep == a.ep && b.data.isSome)
    let free := if a.data.isSome then before.all (·.sent) else before.isEmpty
    if a.sent || !free || decide (acc.2.dieTags d < a.pieces.length) then (acc.1 ++ [a], acc.2)
    else
      let r := acc.2.aperSend d a
      (acc.1 ++ [r.1], r.2)) ([], p)) |> (fun r => r.2.updDie d (fun s => { s with apers := r.1 }))

/-- APER_DROP of a port counts. -/
def Panel.aperDrop (p : Panel) (d : Nat) : Panel := p.count (hostB (d - 16) + 0xA00) 1

/-- An access that has been answered in full ends (R425): a failed one is counted; a read returns its bytes, or all ones. -/
def Panel.aperEnd (p : Panel) (d : Nat) (a : HAper) : Panel :=
  let p := if a.failed then p.aperDrop d else p
  match a.data with
  | some _ => p
  | none =>
    let bytes := a.tags.flatMap (fun t => ((a.got.find? (fun g => g.1 == t)).map (·.2)).getD [])
    let out := if a.failed then List.replicate a.len (255 : Byte) else (bytes.drop (a.off % 64)).take a.len
    { p with host := { p.host with out := p.host.out ++ [(d - 16, out)] } }

/-- Ends every access whose packets have all been answered. -/
def Panel.aperReap (p : Panel) (d : Nat) : Panel :=
  let isOver (a : HAper) : Bool := a.sent && a.tags.all (fun t => a.got.any (fun g => g.1 == t))
  let ended := (p.die d).apers.filter isOver
  let p := p.updDie d (fun s => { s with apers := s.apers.filter (fun a => !isOver a) })
  ended.foldl (fun p a => p.aperEnd d a) p

/-- Work of the engine moves on. -/
def Panel.diePump (p : Panel) (d : Nat) : Panel := ((p.aperReap d).aperPump d).aperReap d |>.jobsPump d

/-- A packet of the engine has been answered with a status, and an aperture read's with data. -/
def Panel.dieAnswer (p : Panel) (d tag st : Nat) (data : List Byte) : Panel :=
  let p := p.updDie d (fun s => { s with
    relays := s.relays.filter (fun r => r.1 != tag)
    apers := s.apers.map (fun a =>
      if a.tags.contains tag && !a.got.any (fun g => g.1 == tag) then
        { a with got := a.got ++ [(tag, data)], failed := a.failed || st != stOk } else a)
    jobs := s.jobs.map (fun j => match j.opened.find? (fun o => o.1 == tag) with
      | none => j
      | some o =>
        { j with
          opened := j.opened.filter (fun o => o.1 != tag)
          failed := if st = stOk then j.failed
            else match j.failed with
              | none => some (o.2.1, st)
              | some f => some (min f.1 o.2.1, f.2) }) })
  p.diePump d

/-- A tag belongs to an aperture read. -/
def Panel.aperTag (p : Panel) (d tag : Nat) : Bool := (p.die d).apers.any (fun a => a.data.isNone && a.tags.contains tag)

end Sys2Proof.Machine
end

