-- ==== Sys2Proof/Machine/Link.lean ====
section
/-!
DEFINITION. Frepor sub-links: frames, replay, credits, negotiation, training, retraining and link states (R238 to R265,
R525).
-/
namespace Sys2Proof.Machine

open Sys2Proof

/-! Ends of sub-links. -/

/-- The end of sub-link block j of a tile. -/
def mkTileEnd (t j : Nat) : LinkEnd := .tile (Fin.ofNat 144 t) (Fin.ofNat 32 j)
/-- The end of sub-link k of a ring die. -/
def mkDieEnd (d k : Nat) : LinkEnd := .die (Fin.ofNat 22 d) (Fin.ofNat 8 k)
/-- The key of an end. -/
def linkKey : LinkEnd → Nat
  | .tile t j => 32 * t + j
  | .die d k => 4608 + 8 * d + k
/-- Where an end's registers are: a tile's in BAR0 (Table 20.9); a ring die's, which R489 does not map, beyond it. -/
def linkBase : LinkEnd → Nat
  | .tile t j => linkB t j
  | .die d k => 0x4000000 + 0x2000 * d + 0x100 * k
/-- The address of an end's counter, by its offset in a tile's sub-link block (R487, R489). -/
def linkCtr : LinkEnd → Nat → Nat
  | .tile t j, o => linkB t j + o
  | .die d k, o => keeperB + 0x4000 + 0x400 * d + 0x100 + 0x40 * k + (o - 0x80)
/-- The end across the sub-link, where there is one (R19, R23). -/
def linkPartner : LinkEnd → Option LinkEnd
  | .tile t j =>
    match tileAcross t (j / 8), dieOn t (j / 8) with
    | some t', _ => some (mkTileEnd t' (8 * oppPort (j / 8) + j % 8))
    | none, some d => some (mkDieEnd d (j % 8))
    | none, none => none
  | .die d k => some (mkTileEnd (dieTile d) (8 * diePort d + k))
/-- The end of sub-link k xor 1 of the same port (R244, R261). -/
def linkTwin : LinkEnd → LinkEnd
  | .tile t j => mkTileEnd t (j.val ^^^ 1)
  | .die d k => mkDieEnd d (k.val ^^^ 1)
/-- The other ends of the same port. -/
def linkSiblings : LinkEnd → List LinkEnd
  | .tile t j => ((List.range 8).filter (fun k => k != j.val % 8)).map (fun k => mkTileEnd t (8 * (j / 8) + k))
  | .die d k => ((List.range 8).filter (fun i => i != k.val)).map (fun i => mkDieEnd d i)
/-- The router behind an end (R19, R22). -/
def linkRouter : LinkEnd → Nat
  | .tile t j => rtrCore t (edgeCore (j / 8) (j % 8))
  | .die d _ => rtrDie d
/-- The input of that router that the end is. -/
def linkInput : LinkEnd → Nat
  | .tile _ j => j / 8
  | .die _ k => 6 + k
/-- The sub-link crosses the seam (R20). -/
def linkSeam : LinkEnd → Bool
  | .tile t j => seamPort t (j / 8)
  | .die _ _ => false

/-- An end's state besides its registers. -/
def Panel.link (p : Panel) (e : LinkEnd) : LinkSt := sget (fun _ => LinkSt.zero) p.links (linkKey e)
/-- An end updated. -/
def Panel.updLink (p : Panel) (e : LinkEnd) (f : LinkSt → LinkSt) : Panel :=
  { p with links := supd (fun _ => LinkSt.zero) p.links (linkKey e) f }
/-- A field of an end's register. -/
def Panel.nget (p : Panel) (e : LinkEnd) (f : Fld) : Nat := p.fget (linkBase e) f
/-- A field of an end's register replaced. -/
def Panel.nset (p : Panel) (e : LinkEnd) (f : Fld) (v : Nat) : Panel := p.fset (linkBase e) f v
/-- LINK_STS.state of an end (Table 9.9). -/
def Panel.linkState (p : Panel) (e : LinkEnd) : Nat := p.nget e R.linkSts_state
/-- The state of an end replaced. -/
def Panel.setLinkState (p : Panel) (e : LinkEnd) (v : Nat) : Panel := p.nset e R.linkSts_state v
/-- A counter of an end counts k. -/
def Panel.lcount (p : Panel) (e : LinkEnd) (off k : Nat) : Panel := p.count (linkCtr e off) k
/-- A fault source of an end: at its tile's collector, or at the panel's for a ring die (R383). -/
def Panel.linkEvent (p : Panel) (e : LinkEnd) (src : Nat) : Panel :=
  match e with
  | .tile t j => p.tileEvent t src (128 + j)
  | .die _ _ => p.panelEvent src
/-- The router domain behind an end runs (R269). -/
def Panel.linkRuns (p : Panel) (e : LinkEnd) : Bool :=
  match e with
  | .tile t _ => (p.tile t).pll
  | .die d _ => (p.die d).pll
/-- The sub-link is in service: ACTIVE or RETRAIN (Table 9.9). -/
def Panel.linkServes (p : Panel) (e : LinkEnd) : Bool := p.linkState e == 8 || p.linkState e == 9

/-- The state of a router port of an edge core, RTR_PORT's code (Table 8.11). -/
def Panel.setPort (p : Panel) (e : LinkEnd) (v : Nat) : Panel :=
  match e with
  | .tile t j =>
    let x := cid t (edgeCore (j / 8) (j % 8))
    p.cwr x R.rtrPort (setBits (p.crd x R.rtrPort) (2 * (j / 8) + 1) (2 * (j / 8)) v)
  | .die _ _ => p

/-! Link messages (Table 9.5). -/

/-- A link message of bytes, the rest 0. -/
def linkMsg (bs : List Nat) : BitVec 512 := BitVec.ofNat 512 (ofBytes (bs.map (BitVec.ofNat 8)))
/-- Byte i of a link message. -/
def msgByte (m : BitVec 512) (i : Nat) : Nat := bits m (8 * i + 7) (8 * i)

/-- A link message sent once. -/
def Panel.linkSend (p : Panel) (e : LinkEnd) (m : BitVec 512) : Panel := p.updLink e (fun l => { l with out := l.out ++ [m] })
/-- A link message sent and repeated until its response arrives (R251). -/
def Panel.linkAsk (p : Panel) (e : LinkEnd) (m : BitVec 512) : Panel :=
  (p.linkSend e m).updLink e (fun l => { l with msg := some (m, p.now) })
/-- A message that asks for a phase (R252). -/
def phaseMsg (ph : Nat) : BitVec 512 := linkMsg [3, ph]
/-- The ident bytes of an end (Table 9.6). -/
def linkIdent : LinkEnd → Nat
  | .tile t j => (j / 8) * 2 ^ 13 + t * 32 + j % 8
  | .die d k => d * 32 + k
/-- The CAP message that an end advertises (R253, R254). -/
def capOf (e : LinkEnd) : BitVec 512 :=
  let die := match e with | .tile _ _ => 0 | .die _ _ => 1
  linkMsg ([1, 0x20, 1, die, linkIdent e % 256, linkIdent e / 256, if linkSeam e then 64 else 128, 15,
    if die = 0 then 15 else 7, 0] ++ [8, 0, 8, 0, 8, 0, 96, 0, 128, 0])
/-- The SPARE message of a map (Table 9.5). -/
def spareMsg (m : List (Nat × Nat)) : BitVec 512 := linkMsg ([10, m.length] ++ m.flatMap (fun e => [e.1 % 256, e.1 / 256, e.2]))
/-- The map that a SPARE message gives. -/
def spareMap (m : BitVec 512) : List (Nat × Nat) :=
  (List.range (min (msgByte m 1) 8)).map (fun i =>
    (msgByte m (2 + 3 * i) + 256 * msgByte m (3 + 3 * i), msgByte m (4 + 3 * i)))

/-! Going UP and DOWN. -/

/-- The training of a sub-link has ended, in service or DOWN; one without a partner whose router domain runs has none to do (R362). -/
def Panel.linkTrained (p : Panel) (e : LinkEnd) : Bool :=
  match linkPartner e with
  | none => true
  | some f => !p.linkRuns f || decide (8 ≤ p.linkState e)

/-- TILE_STS.links_done and link_down of a tile (Table 13.10). -/
def Panel.showLinks (p : Panel) (t : Nat) : Panel :=
  let es := (List.range 32).map (fun j => mkTileEnd t j)
  (p.tset t R.tileSts_links_done (b2n ((p.tile t).pll && es.all p.linkTrained))).tset t R.tileSts_link_down
    (b2n (es.any (fun e => p.linkState e == 10)))

/-- The same for the tile of an end. -/
def Panel.showTraining (p : Panel) (e : LinkEnd) : Panel :=
  match e with
  | .tile t _ => p.showLinks t
  | .die _ _ => p

/-- A sub-link goes DOWN for a reason (R263): it tells its partner, sets LINK_DOWN, discards its replay buffer and what it was
assembling. -/
def Panel.linkDown (p : Panel) (e : LinkEnd) (reason : Nat) : Panel :=
  if p.linkState e = 10 ∨ p.linkState e = 11 then p
  else
    let p := (p.setLinkState e 10).nset e R.linkSts_reason reason
    let p := p.linkSend e (linkMsg [9, reason])
    let p := p.updLink e (fun l => { l with
      replay := [], resent := [], nakAt := none, asm := [], msg := none, switchTo := none, retrain := 0, avoid := true,
      discard := false, nakDue := false })
    (((p.setPort e 1).lcount e 0xA0 1).linkEvent e 10).showTraining e

/-- A sub-link becomes ACTIVE (Table 9.8, phase 8): credits from the partner's CAP, seq and ack from 0; after DOWN its port is
AVOIDED until the next table load (R233, R263). -/
def Panel.linkActive (p : Panel) (e : LinkEnd) : Panel :=
  let p := p.updLink e (fun l => { l with
    seq := 0, replay := [], resent := [], nakAt := none, ackAt := p.now, expect := 0, discard := false, nakDue := false,
    asm := [], ccnt := [], freed := [], paused := false, fifo := 0, pausing := false, retrain := 0, low := false
    cred := match l.cap with
      | some m => (List.range 5).foldl (fun s c => sset (fun _ => 0) s c (msgByte m (10 + 2 * c) + 256 * msgByte m (11 + 2 * c) : Int)) []
      | none => [] })
  ((p.setLinkState e 8).setPort e (if (p.link e).avoid then 2 else 0)).showTraining e

/-- LINK_SPMAP shows the receive map: byte j holds the position mapped to spare j, or 0xFF (R357). -/
def Panel.showSpares (p : Panel) (e : LinkEnd) : Panel :=
  let m := (p.link e).rxMap
  let byteOf (j : Nat) : Nat := match m.find? (fun s => s.2 == j) with | some s => s.1 % 256 | none => 255
  let word (j : Nat) : W32 := w32 (byteOf j + 256 * byteOf (j + 1) + 65536 * byteOf (j + 2) + 16777216 * byteOf (j + 3))
  let p := p.nset e R.linkSts_spares m.length
  (p.wr (linkBase e + R.linkSpmap) (word 0)).wr (linkBase e + R.linkSpmap + 4) (word 4)

/-- A training phase is entered: a phase switch puts pending spare maps in force (R252). -/
def Panel.linkPhase (p : Panel) (e : LinkEnd) (ph : Nat) : Panel :=
  let p := p.updLink e (fun l => { l with
    rxMap := l.rxNew, txMap := l.txNew, switchTo := none, gotSpare := false, since := p.now
    loaded := if ph = 6 then l.loaded else 0 })
  let p := p.showSpares e
  if ph = 8 then p.linkActive e
  else
    let p := p.setLinkState e ph
    if ph = 3 then
      (p.updLink e (fun l => { l with cap := none, own := none, restarts := 0 })).linkAsk e (capOf e)
    else if ph = 4 then p.linkAsk e (phaseMsg 5)
    else if ph = 7 then
      (p.updLink e (fun l => { l with pongs := 0, delays := 0 })).linkAsk e
        (linkMsg ([5, 0, 0, 0, 0, 0, 0, 0] ++ (toBytes 8 (p.now * 2000)).map (·.toNat)))
    else p

/-- Full training starts at phase 1 (R263). -/
def Panel.linkTrain (p : Panel) (e : LinkEnd) : Panel :=
  let p := ((p.nset e R.linkDelay_valid 0).setLinkState e 1).showTraining e
  p.updLink e (fun l => { LinkSt.zero with
    rxMap := l.rxMap, txMap := l.txMap, rxNew := l.rxMap, txNew := l.txMap, taps := l.taps, out := l.out, avoid := l.avoid
    since := p.now })

/-- An end that the Warden holds DOWN to cut a former keeper off (R420): on the port 4·tile + port so held. -/
def Panel.linkHeld (p : Panel) (e : LinkEnd) : Bool :=
  match e with
  | .tile t j => p.keep.cut == some (4 * t.val + j.val / 8)
  | .die _ _ => false

/-- TRAINING_START (R263): from RESET, or from DOWN when the partner trains or has been powered up again, once both ends'
router domains run; not in TERM. -/
def Panel.trainingStart (p : Panel) (e : LinkEnd) : Panel :=
  match linkPartner e with
  | none => p
  | some f =>
    if p.linkRuns e && p.linkRuns f && !p.linkHeld e && !p.linkHeld f &&
        (p.linkState e == 0 || (p.linkState e == 10 && decide (p.linkState f ≤ 7))) then p.linkTrain e
    else p

/-- TRAINING_START (R263). -/
def execTrainingStart (e : LinkEnd) (s : State) : Host.Outcome State Fault Refusal := onPanel (fun p => p.trainingStart e) s

/-- CLOCK_LOCK (Table 9.8, phase 1): the census follows. -/
def Panel.clockLock (p : Panel) (e : LinkEnd) : Panel :=
  if p.linkState e = 1 then (p.setLinkState e 2).updLink e (fun l => { l with since := p.now }) else p

/-- CLOCK_LOCK (R256). -/
def execClockLock (e : LinkEnd) (s : State) : Host.Outcome State Fault Refusal := onPanel (fun p => p.clockLock e) s

/-- CLOCK_LOST (R263, reason 1). -/
def Panel.clockLost (p : Panel) (e : LinkEnd) : Panel :=
  if 1 ≤ p.linkState e ∧ p.linkState e ≤ 9 then p.linkDown e 1 else p

/-- CLOCK_LOST (R263). -/
def execClockLost (e : LinkEnd) (s : State) : Host.Outcome State Fault Refusal := onPanel (fun p => p.clockLost e) s

/-! Spares (R242). -/

/-- A spare that no position has been mapped to. -/
def freeSpare (m : List (Nat × Nat)) : Option Nat := (List.range 8).find? (fun j => m.all (fun s => s.2 != j))

/-- Bad positions added to a map, each taking the lowest free spare; none where spares run out (R242).  A position that is bad
behind its spare takes another. -/
def addSpares : List (Nat × Nat) → List Nat → Option (List (Nat × Nat))
  | m, [] => some m
  | m, q :: qs => match freeSpare m with
    | some j => addSpares ((q, j) :: m) qs
    | none => none

/-- The census ends (R242, Table 9.8): bad positions not yet in the map take spares, and the map is sent; a bad position with no
free spare takes the sub-link DOWN. -/
def Panel.censusEnd (p : Panel) (e : LinkEnd) (bad : List Nat) : Panel :=
  if p.linkState e ≠ 2 then p
  else
    let m := (p.link e).rxMap
    match addSpares m (bad.eraseDups.filter (fun q => m.all (fun s => s.1 != q))) with
    | none => p.linkDown e 2
    | some m' => (p.updLink e (fun l => { l with rxNew := m' })).linkAsk e (spareMsg m')

/-- CENSUS_END (R242). -/
def execCensusEnd (e : LinkEnd) (bad : List (Fin 170)) (s : State) : Host.Outcome State Fault Refusal :=
  onPanel (fun p => p.censusEnd e (bad.map (·.val))) s

/-- Both SPARE messages of an exchange have been answered: the phase switch that puts them in force is asked for. -/
def Panel.spareNext (p : Panel) (e : LinkEnd) : Panel :=
  let l := p.link e
  if l.msg.isNone && l.gotSpare then
    if p.linkState e = 2 then p.linkAsk e (phaseMsg 3) else if p.linkState e = 6 then p.linkAsk e (phaseMsg 6) else p
  else p

/-- A SPARE received (R252): the echo of this end's own map, or the partner's receive map, which this end applies to its
transmit side and echoes. -/
def Panel.spareIn (p : Panel) (e : LinkEnd) (m : BitVec 512) : Panel :=
  if p.linkState e ≠ 2 ∧ p.linkState e ≠ 6 ∧ p.linkState e ≠ 9 then p
  else
    let p := match (p.link e).msg with
      | some (own, _) =>
        if own = m then p.updLink e (fun l => { l with msg := none })
        else (p.updLink e (fun l => { l with txNew := spareMap m, gotSpare := true })).linkSend e m
      | none => (p.updLink e (fun l => { l with txNew := spareMap m, gotSpare := true })).linkSend e m
    p.spareNext e

/-- SPARE (R252). -/
def execSpare (e : LinkEnd) (m : BitVec 512) (s : State) : Host.Outcome State Fault Refusal := onPanel (fun p => p.spareIn e m) s

/-! Phases. -/

/-- A PHASE received (R252): the echo of this end's own request, or a request that is echoed; either way the switch is due. -/
def Panel.phaseIn (p : Panel) (e : LinkEnd) (ph : Nat) : Panel :=
  let st := p.linkState e
  if st = 0 ∨ st ≥ 8 ∨ ph < max 2 st ∨ ph > 8 ∨ (ph = st ∧ ph ≠ 6) then p
  else
    let own := match (p.link e).msg with | some (m, _) => m == phaseMsg ph | none => false
    let p := if own then p.updLink e (fun l => { l with msg := none }) else p.linkSend e (phaseMsg ph)
    p.updLink e (fun l => { l with switchTo := some ph })

/-- PHASE (R252). -/
def execPhase (e : LinkEnd) (ph : BitVec 8) (s : State) : Host.Outcome State Fault Refusal :=
  onPanel (fun p => p.phaseIn e ph.toNat) s

/-- The switch takes effect (R252). -/
def Panel.phaseSwitch (p : Panel) (e : LinkEnd) : Panel :=
  match (p.link e).switchTo with
  | some ph => p.linkPhase e ph
  | none => p

/-- PHASE_SWITCH (R252). -/
def execPhaseSwitch (e : LinkEnd) (s : State) : Host.Outcome State Fault Refusal := onPanel (fun p => p.phaseSwitch e) s

/-- The bound of a training phase in µs (Table 9.8). -/
def phaseBound : Nat → Nat
  | 1 => 20 | 2 => 200 | 3 => 50 | 4 => 20 | 5 => 500 | 6 => 1000 | _ => 10

/-- A phase that exceeds its bound takes the sub-link DOWN (R256). -/
def Panel.phaseTimeout (p : Panel) (e : LinkEnd) : Panel :=
  let st := p.linkState e
  if 1 ≤ st ∧ st ≤ 7 ∧ (p.link e).since + phaseBound st ≤ p.now then p.linkDown e 9 else p

/-- PHASE_TIMEOUT (R256). -/
def execPhaseTimeout (e : LinkEnd) (s : State) : Host.Outcome State Fault Refusal := onPanel (fun p => p.phaseTimeout e) s

/-! Negotiation (R254). -/

/-- Throughput of a mode in GB/s (Table 9.2), by data wires and rate code. -/
def throughput (wires rate : Nat) : Nat :=
  if wires = 128 then (if rate = 0 then 64 else 128) else 32 * (rate + 1)

/-- The mode two CAPs give (R254), as bytes 1 to 4 of CAP_ACK: none without a common major version or rate. -/
def negotiate (a b : BitVec 512) : Option (List Nat) :=
  let major := min (msgByte a 1 / 16) (msgByte b 1 / 16)
  let wires := min (msgByte a 6) (msgByte b 6)
  let common := (List.range 4).filter (fun r => (msgByte a 7).testBit r && (msgByte b 7).testBit r)
  let feat := msgByte a 8 % 16 &&& msgByte b 8 % 16
  let feat := if major = 1 then feat &&& 0b0101 else feat
  if major < max (msgByte a 2 % 16) (msgByte b 2 % 16) then none
  else match common with
    | [] => none
    | r :: rs => some [major, wires, rs.foldl (fun m q => if throughput wires m < throughput wires q then q else m) r, feat]

/-- The least credits a CAP may advertise, class by class (Table 8.7, Frepor column). -/
def minCredits : List Nat := [8, 8, 8, 96, 128]
/-- No credits value of a CAP is below the Frepor column (R254). -/
def creditsOk (m : BitVec 512) : Bool :=
  (List.range 5).all (fun c => decide (minCredits.getD c 0 ≤ msgByte m (10 + 2 * c) + 256 * msgByte m (11 + 2 * c)))

/-- A CAP received (R254): the mode is computed and sent in CAP_ACK; the sub-link goes DOWN where there is none. -/
def Panel.capIn (p : Panel) (e : LinkEnd) (m : BitVec 512) : Panel :=
  if p.linkState e ≠ 3 then p
  else if !creditsOk m then p.linkDown e 4
  else match negotiate (capOf e) m with
    | none => p.linkDown e 3
    | some r =>
      let ack := linkMsg (2 :: r)
      (p.updLink e (fun l => { l with cap := some m, own := some ack.toNat })).linkSend e ack

/-- CAP (R254). -/
def execCap (e : LinkEnd) (m : BitVec 512) (s : State) : Host.Outcome State Fault Refusal := onPanel (fun p => p.capIn e m) s

/-- A CAP_ACK received (R254): a result equal to this end's own ends negotiation; another restarts it, at most 3 times. -/
def Panel.capAckIn (p : Panel) (e : LinkEnd) (m : BitVec 512) : Panel :=
  match (p.link e).own with
  | none => p
  | some own =>
    if p.linkState e ≠ 3 then p
    else if own % 2 ^ 40 = m.toNat % 2 ^ 40 then
      let p := p.nset e R.linkSts_ver (msgByte m 1)
      let p := p.nset e R.linkSts_w128 (b2n (msgByte m 2 == 128))
      let p := p.nset e R.linkSts_rate (msgByte m 3)
      let p := p.nset e R.linkSts_feat (msgByte m 4)
      p.linkAsk e (phaseMsg 4)
    else if (p.link e).restarts ≥ 3 then p.linkDown e 3
    else
      (p.updLink e (fun l => { l with cap := none, own := none, restarts := l.restarts + 1 })).linkAsk e (capOf e)

/-- CAP_ACK (R254). -/
def execCapAck (e : LinkEnd) (m : BitVec 512) (s : State) : Host.Outcome State Fault Refusal := onPanel (fun p => p.capAckIn e m) s

/-! Training (R256 to R258). -/

/-- An EQ received (Table 9.5): the transmitter tap of the position takes the step, and the message is echoed. -/
def Panel.eqIn (p : Panel) (e : LinkEnd) (m : BitVec 512) : Panel :=
  if p.linkState e ≠ 5 ∧ p.linkState e ≠ 6 ∧ p.linkState e ≠ 9 then p
  else
    (p.updLink e (fun l => { l with
      taps := supd (fun _ => (0 : Int)) l.taps (4 * msgByte m 1 + msgByte m 2 % 4) (· + signed 8 (msgByte m 3)) })).linkSend e m

/-- EQ (R251). -/
def execEq (e : LinkEnd) (m : BitVec 512) (s : State) : Host.Outcome State Fault Refusal := onPanel (fun p => p.eqIn e m) s

/-- Adaptation on the idle link ends (Table 9.8, phase 5). -/
def Panel.trainIdleEnd (p : Panel) (e : LinkEnd) : Panel := if p.linkState e = 5 then p.linkAsk e (phaseMsg 6) else p

/-- TRAIN_IDLE_END (R256). -/
def execTrainIdleEnd (e : LinkEnd) (s : State) : Host.Outcome State Fault Refusal := onPanel (fun p => p.trainIdleEnd e) s

/-- LINK_MARGIN_TH of an end: its tile's register; a ring die's holds the reset value. -/
def Panel.marginTh (p : Panel) (e : LinkEnd) : W32 :=
  match e with
  | .tile t _ => p.rd (tileB t + R.linkMarginTh)
  | .die _ _ => 0x100C

/-- Time sync has been negotiated. -/
def Panel.timeSync (p : Panel) (e : LinkEnd) : Bool := (p.nget e R.linkSts_feat).testBit 1

/-- Margins measured under load (R257): all at least the training threshold pass; otherwise the failing positions take spares
and the phase is repeated once. -/
def Panel.trainLoadedEnd (p : Panel) (e : LinkEnd) (ms : List (Nat × Nat)) : Panel :=
  if p.linkState e ≠ 6 then p
  else
    let th := bits (p.marginTh e) 13 8
    let p := p.nset e R.linkSts_margin (ms.foldl (fun m q => min m q.2) 63)
    let fails := (ms.filter (fun q => decide (q.2 < th))).map (·.1)
    if fails.isEmpty then p.linkAsk e (phaseMsg (if p.timeSync e then 7 else 8))
    else if (p.link e).loaded ≥ 1 then p.linkDown e 5
    else match addSpares (p.link e).rxMap fails.eraseDups with
      | none => p.linkDown e 2
      | some m => (p.updLink e (fun l => { l with rxNew := m, loaded := 1, since := p.now })).linkAsk e (spareMsg m)

/-- TRAIN_LOADED_END (R257). -/
def execTrainLoadedEnd (e : LinkEnd) (ms : List (Fin 170 × BitVec 6)) (s : State) : Host.Outcome State Fault Refusal :=
  onPanel (fun p => p.trainLoadedEnd e (ms.map (fun q => (q.1.val, q.2.toNat)))) s

/-- A PING received is answered with a PONG of its count and the turnaround in ps (R258). -/
def Panel.pingIn (p : Panel) (e : LinkEnd) (m : BitVec 512) (turn : Nat) : Panel :=
  if p.linkState e = 0 ∨ p.linkState e ≥ 10 then p
  else p.linkSend e (linkMsg ([6, 0, 0, 0] ++ (toBytes 4 turn).map (·.toNat) ++ (List.range 8).map (fun i => msgByte m (8 + i))))

/-- PING (R258). -/
def execPing (e : LinkEnd) (m : BitVec 512) (turn : BitVec 32) (s : State) : Host.Outcome State Fault Refusal :=
  onPanel (fun p => p.pingIn e m turn.toNat) s

/-- The mean of the link delays whose sum of (round trip − turnaround) is given, ÷ 2, in ps (R258); the rounding of a fraction,
and a delay that LINK_DELAY does not hold, are left open and free. -/
def Panel.meanDelay (p : Panel) (sum : Nat) : Nat × Panel :=
  if sum % 32 = 0 ∧ sum / 32 < 65536 then (sum / 32, p)
  else if sum / 32 + 1 < 65536 then (sum / 32 + Config.freeBelow 2 p.free, p.tookFree)
  else (Config.freeBelow 65536 p.free, p.tookFree)

/-- A PONG received (R258): one of 16 samples; rt is the measured round trip in ps.  The sixteenth gives LINK_DELAY. -/
def Panel.pongIn (p : Panel) (e : LinkEnd) (m : BitVec 512) (rt : Nat) : Panel :=
  if (p.linkState e ≠ 7 ∧ p.linkState e ≠ 9) ∨ !p.timeSync e then p
  else
    let d := rt - bits m 63 32
    let p := p.updLink e (fun l => { l with pongs := l.pongs + 1, delays := l.delays + d, msg := none })
    if (p.link e).pongs < 16 then
      p.linkAsk e (linkMsg ([5, 0, 0, 0, 0, 0, 0, 0] ++ (toBytes 8 (p.now * 2000)).map (·.toNat)))
    else
      let (v, p) := p.meanDelay (p.link e).delays
      let p := (p.nset e R.linkDelay_delay v).nset e R.linkDelay_valid 1
      if p.linkState e = 7 then p.linkAsk e (phaseMsg 8) else p

/-- PONG (R258). -/
def execPong (e : LinkEnd) (m : BitVec 512) (rt : BitVec 32) (s : State) : Host.Outcome State Fault Refusal :=
  onPanel (fun p => p.pongIn e m rt.toNat) s

/-! In service (R259 to R261, R525). -/

/-- A retrain of an ACTIVE sub-link is asked for (R260). -/
def Panel.retrainAsk (p : Panel) (e : LinkEnd) : Panel :=
  if p.linkState e = 8 ∧ (p.link e).retrain = 0 then
    (p.updLink e (fun l => { l with retrain := 1 })).linkAsk e (linkMsg [7])
  else p

/-- A sub-link's smallest eye opening is measured (R259): below the run threshold it raises LINK_MARGIN, once until it has risen
to run + 2. -/
def Panel.marginLow (p : Panel) (e : LinkEnd) (m : Nat) : Panel :=
  if p.linkState e ≠ 8 then p
  else
    let run := bits (p.marginTh e) 5 0
    let p := p.nset e R.linkSts_margin m
    if m < run ∧ (p.link e).low = false then
      let p := (p.updLink e (fun l => { l with low := true })).nset e R.linkSts_margin_low 1
      let p := (p.lcount e 0x98 1).linkEvent e 9
      if p.nget e R.linkCtl_auto = 1 then p.retrainAsk e else p
    else if run + 2 ≤ m then p.updLink e (fun l => { l with low := false })
    else p

/-- MARGIN_LOW (R259). -/
def execMarginLow (e : LinkEnd) (m : BitVec 6) (s : State) : Host.Outcome State Fault Refusal :=
  onPanel (fun p => p.marginLow e m.toNat) s

/-- A write of a tile end's LINK_CTL (R260, R263). -/
def Panel.linkCtlWrite (p : Panel) (e : LinkEnd) (v : W32) : Panel :=
  match e with
  | .die _ _ => p
  | .tile _ _ =>
    let p := p.nset e R.linkCtl_auto (bits v 1 1)
    if !bit v 0 then p
    else if p.linkState e = 8 then p.retrainAsk e
    else match linkPartner e with
      | some f => if p.linkState e = 10 ∧ p.linkRuns e ∧ p.linkRuns f then p.linkTrain e else p
      | none => p

/-- LINK_CTL_RETRAIN (R260). -/
def execLinkCtlRetrain (e : LinkEnd) (v : BitVec 32) (s : State) : Host.Outcome State Fault Refusal :=
  onPanel (fun p => p.linkCtlWrite e v) s

/-- An accepted retrain starts at an end (R261): the delay is to be measured again. -/
def Panel.retrainStart (p : Panel) (e : LinkEnd) : Panel :=
  let p := (p.setLinkState e 9).nset e R.linkDelay_valid 0
  p.updLink e (fun l => { l with retrain := 2, msg := none, pongs := 0, delays := 0, since := p.now, rxNew := l.rxMap, txNew := l.txMap })

/-- The ident an end compares with: its partner's. -/
def partnerIdent (e : LinkEnd) : Nat := match linkPartner e with | some f => linkIdent f | none => 0

/-- A RETRAIN_REQ received (R260): accepted unless sub-link k xor 1 is not ACTIVE or another sub-link of the port retrains; of
two requests at once, the one from the lower ident stands. -/
def Panel.retrainReqIn (p : Panel) (e : LinkEnd) : Panel :=
  if p.linkState e ≠ 8 then p
  else
    let asked := (p.link e).retrain == 1
    let clear := p.linkState (linkTwin e) == 8 && (linkSiblings e).all (fun f => p.linkState f != 9)
    if !clear || (asked && decide (linkIdent e < partnerIdent e)) then p.linkSend e (linkMsg [8, 1])
    else
      let p := if asked then p.nset e R.linkSts_retrain_rej 1 else p
      (p.linkSend e (linkMsg [8, 0])).retrainStart e

/-- RETRAIN_REQ (R260). -/
def execRetrainReq (e : LinkEnd) (s : State) : Host.Outcome State Fault Refusal := onPanel (fun p => p.retrainReqIn e) s

/-- A RETRAIN_ACK received (R260). -/
def Panel.retrainAckIn (p : Panel) (e : LinkEnd) (refuse : Bool) : Panel :=
  if p.linkState e ≠ 8 ∨ (p.link e).retrain ≠ 1 then p
  else if refuse then (p.updLink e (fun l => { l with retrain := 0, msg := none })).nset e R.linkSts_retrain_rej 1
  else p.retrainStart e

/-- RETRAIN_ACK (R260). -/
def execRetrainAck (e : LinkEnd) (refuse : Bool) (s : State) : Host.Outcome State Fault Refusal :=
  onPanel (fun p => p.retrainAckIn e refuse) s

/-- A retrain ends (R261, R525): its census's bad positions take spares and the sub-link takes its frames back, or it goes
DOWN. -/
def Panel.retrainDone (p : Panel) (e : LinkEnd) (bad : List Nat) (pass : Bool) : Panel :=
  if p.linkState e ≠ 9 then p
  else
    let m := (p.link e).rxMap
    match addSpares m (bad.eraseDups.filter (fun q => m.all (fun s => s.1 != q))), pass with
    | some m', true =>
      let p := p.updLink e (fun l => { l with rxMap := m', rxNew := m', txMap := l.txNew, retrain := 0, gotSpare := false })
      (p.showSpares e).setLinkState e 8
    | _, _ => p.linkDown e 8

/-- RETRAIN_DONE (R261). -/
def execRetrainDone (e : LinkEnd) (bad : List (Fin 170)) (pass : Bool) (s : State) : Host.Outcome State Fault Refusal :=
  onPanel (fun p => p.retrainDone e (bad.map (·.val)) pass) s

/-- A DOWN message received (R263, reason 7). -/
def Panel.downIn (p : Panel) (e : LinkEnd) : Panel :=
  if 1 ≤ p.linkState e ∧ p.linkState e ≤ 9 then p.linkDown e 7 else p

/-- DOWN (R263). -/
def execDown (e : LinkEnd) (_reason : BitVec 8) (s : State) : Host.Outcome State Fault Refusal := onPanel (fun p => p.downIn e) s

/-- A message repeated 1 µs after it was last sent (R251). -/
def Panel.linkRepeat (p : Panel) (e : LinkEnd) : Panel :=
  match (p.link e).msg with
  | some (m, t) => if t + 1 ≤ p.now then p.linkAsk e m else p
  | none => p

/-- LINK_MESSAGE_REPEAT (R251). -/
def execLinkMessageRepeat (e : LinkEnd) (s : State) : Host.Outcome State Fault Refusal := onPanel (fun p => p.linkRepeat e) s

/-! Replay (R249). -/

/-- Frames resent from a sequence number on: each counted, and how often each has been. -/
def Panel.linkResend (p : Panel) (e : LinkEnd) (from_ : List (Nat × Flit)) : Panel :=
  (p.updLink e (fun l => { l with resent := from_.foldl (fun m f => supd (fun _ => 0) m f.1 (· + 1)) l.resent })).lcount e 0x88 from_.length

/-- Frames acknowledged up to a sequence number leave the replay buffer. -/
def LinkSt.acked (l : LinkSt) (now ack : Nat) : LinkSt :=
  if l.replay.any (fun f => f.1 == ack) then
    let rest := (l.replay.dropWhile (fun f => f.1 != ack)).drop 1
    let names := (l.replay.take (l.replay.length - rest.length)).map (·.1)
    { l with
      replay := rest, ackAt := now
      resent := l.resent.filter (fun r => !names.contains r.1)
      nakAt := match l.nakAt with | some n => if names.contains n then none else some n | none => none }
  else l

/-- The frames that a NAK of a sequence number has resent: from it on, unless they already are being resent. -/
def LinkSt.again (l : LinkSt) (seq : Nat) : List (Nat × Flit) :=
  if l.nakAt = some seq then [] else l.replay.dropWhile (fun f => f.1 != seq)

/-- A NAK of a sequence number (R249): it acknowledges what is before it, and frames are resent from it on. -/
def Panel.nakIn (p : Panel) (e : LinkEnd) (seq : Nat) : Panel :=
  if !p.linkServes e then p
  else
    let p := p.updLink e (fun l => l.acked p.now ((seq + 1023) % 1024))
    let again := (p.link e).again seq
    if again.isEmpty then p
    else (p.updLink e (fun l => { l with nakAt := some seq })).linkResend e again

/-- NAK (R249). -/
def execNak (e : LinkEnd) (seq : BitVec 10) (s : State) : Host.Outcome State Fault Refusal :=
  onPanel (fun p => p.nakIn e seq.toNat) s

/-- 2 µs without an advance of the acknowledgement: frames are resent from the oldest (R249). -/
def Panel.replayTimeout (p : Panel) (e : LinkEnd) : Panel :=
  let l := p.link e
  if !p.linkServes e || l.replay.isEmpty || p.now < l.ackAt + 2 then p
  else (p.updLink e (fun l => { l with ackAt := p.now, nakAt := none })).linkResend e l.replay

/-- REPLAY_TIMEOUT (R249). -/
def execReplayTimeout (e : LinkEnd) (s : State) : Host.Outcome State Fault Refusal := onPanel (fun p => p.replayTimeout e) s

/-- A sequence number has been resent 16 times (R249). -/
def Panel.replayLimit (p : Panel) (e : LinkEnd) : Panel :=
  if p.linkServes e && (p.link e).resent.any (fun r => decide (16 ≤ r.2)) then p.linkDown e 6 else p

/-- REPLAY_LIMIT (R249). -/
def execReplayLimit (e : LinkEnd) (s : State) : Host.Outcome State Fault Refusal := onPanel (fun p => p.replayLimit e) s

/-! Frames (R243 to R249). -/

/-- One step of CRC-24 with polynomial 0x864CFB (R245). -/
def crcStep (c : BitVec 24) (b : Bool) : BitVec 24 := (c <<< 1) ^^^ (if c.msb != b then 0x864CFB else 0)
/-- The bits [hi:lo] of a word, from hi down. -/
def bitsDown {w : Nat} (x : BitVec w) (hi lo : Nat) : List Bool :=
  (List.range (hi + 1 - lo)).map (fun i => bit x (hi - i))
/-- The CRC of a frame (R245). -/
def frameCrc (d : BitVec 512) (sd : BitVec 168) : BitVec 24 :=
  (bitsDown d 511 0 ++ bitsDown sd 167 165 ++ bitsDown sd 140 0).foldl crcStep 0xFFFFFF
/-- A frame's CRC passes, and its ftype is not 3 (R245). -/
def frameOk (d : BitVec 512) (sd : BitVec 168) : Bool := bits sd 164 141 == (frameCrc d sd).toNat && bits sd 105 104 != 3

/-- The flit a DATA frame carries, and its context (R201, R243, R244). -/
def frameFlit (d : BitVec 512) (sd : BitVec 168) : Flit × Nat :=
  (⟨(List.range 8).map (fun i => (sd.extractLsb' (12 * i) 12 : BitVec 12) ++ (d.extractLsb' (64 * i) 64 : BitVec 64)),
    bits sd 103 101, bit sd 100, bit sd 99⟩, bits sd 98 96)

/-- A failed CRC (R249): counted, a NAK is due, and frames are discarded until the expected one arrives. -/
def Panel.frameBad (p : Panel) (e : LinkEnd) : Panel :=
  let p := (p.lcount e 0x80 1).linkEvent e 8
  p.updLink e (fun l => { l with discard := true, nakDue := true })

/-- The credits, pause and ak fields of a good frame (R247 to R249). -/
def Panel.frameFields (p : Panel) (e : LinkEnd) (sd : BitVec 168) : Panel :=
  let c := bits sd 132 130
  let n := bits sd 140 133
  let p := p.updLink e (fun l => { l with
    paused := bit sd 129
    cred := supd (fun _ => (0 : Int)) l.cred c (· + ((n + 256 - sget (fun _ => 0) l.ccnt c) % 256 : Int))
    ccnt := sset (fun _ => 0) l.ccnt c n })
  if bits sd 128 127 = 1 then p.updLink e (fun l => l.acked p.now (bits sd 126 117))
  else if bits sd 128 127 = 2 then p.nakIn e (bits sd 126 117)
  else p

/-- A flit accepted in sequence goes to its packet's assembly, by 8·class + context; the tail flit completes the packet. -/
def LinkSt.assemble (l : LinkSt) (f : Flit) (ctx : Nat) : LinkSt × Option (List Flit) :=
  let k := 8 * f.cls + ctx
  let fs := if f.head then [f] else sget (fun _ => []) l.asm k ++ [f]
  if f.tail then ({ l with asm := sdel l.asm k }, some fs) else ({ l with asm := sset (fun _ => []) l.asm k fs }, none)

/-- A packet complete at a router's input. -/
def Panel.arrive (p : Panel) (fs : List Flit) (loc inp : Nat) (st : Stage) : Panel :=
  { p with
    flights := p.flights ++ [Flight.mk p.nextFlight fs loc inp st p.now 0 0]
    nextFlight := p.nextFlight + 1 }

/-- A flit accepted in sequence (R249, R255). -/
def Panel.flitIn (p : Panel) (e : LinkEnd) (f : Flit) (ctx : Nat) : Panel :=
  let f := if (p.nget e R.linkSts_feat).testBit 0 then f
    else { f with words := f.words.map (fun w => ssc76Enc (ssc76Data w)) }
  let (l, done) := (p.link e).assemble f ctx
  let p := p.updLink e (fun _ => l)
  match done with
  | some fs => p.arrive fs (linkRouter e) (linkInput e) .transit
  | none => p

/-- A DATA frame with a good CRC (R249). -/
def Panel.dataIn (p : Panel) (e : LinkEnd) (d : BitVec 512) (sd : BitVec 168) : Panel :=
  if (p.link e).expect ≠ bits sd 116 107 then p
  else
    let p := p.updLink e (fun l => { l with expect := (l.expect + 1) % 1024, discard := false, nakDue := false })
    let (f, ctx) := frameFlit d sd
    p.flitIn e f ctx

/-- A link message in a CTRL frame (Table 9.5); t is the turnaround or the round trip measured, in ps.  Reserved types are
ignored. -/
def Panel.linkMsgIn (p : Panel) (e : LinkEnd) (m : BitVec 512) (t : Nat) : Panel :=
  match msgByte m 0 with
  | 1 => p.capIn e m
  | 2 => p.capAckIn e m
  | 3 => p.phaseIn e (msgByte m 1)
  | 4 => p.eqIn e m
  | 5 => p.pingIn e m t
  | 6 => p.pongIn e m t
  | 7 => p.retrainReqIn e
  | 8 => p.retrainAckIn e (msgByte m 1 != 0)
  | 9 => p.downIn e
  | 10 => p.spareIn e m
  | _ => p

/-- The frames still in the elastic FIFO when a frame comes: how many router cycles have read one since the last came is free
(R248). -/
def Panel.fifoLeft (p : Panel) (e : LinkEnd) : Nat :=
  if (p.link e).fifo = 0 then 0 else Config.freeBelow ((p.link e).fifo + 1) p.free

/-- A checked frame enters the elastic FIFO; pause is sent from 24 frames on, until there are 16 or fewer (R248). -/
def Panel.fifoIn (p : Panel) (e : LinkEnd) : Panel :=
  let n := p.fifoLeft e + 1
  let q := if (p.link e).fifo = 0 then p else p.tookFree
  q.updLink e (fun l => { l with fifo := n, pausing := if 24 ≤ n then true else if n ≤ 16 then false else l.pausing })

/-- A frame received at an end in service or in training (R245 to R249): a frame with sub = 1 belongs to sub-link k xor 1
(R261), and one that comes to a full FIFO counts as one whose CRC failed (R248). -/
def Panel.frameIn (p : Panel) (e : LinkEnd) (d : BitVec 512) (sd : BitVec 168) (want t : Nat) : Panel :=
  if p.linkState e = 0 ∨ p.linkState e ≥ 10 then p
  else if !frameOk d sd then p.frameBad e
  else if bits sd 105 104 ≠ want then p
  else
    let f := if bit sd 106 then linkTwin e else e
    if p.linkServes f && decide (64 ≤ p.fifoLeft e) then p.tookFree.frameBad e
    else
      let p := if p.linkServes f then (p.fifoIn e).frameFields f sd else p
      if want = 1 then (if p.linkServes f then p.dataIn f d sd else p)
      else if want = 2 then p.linkMsgIn f d t
      else p

/-- DATA_FRAME (R249). -/
def execDataFrame (e : LinkEnd) (d : BitVec 512) (sd : BitVec 168) (s : State) : Host.Outcome State Fault Refusal :=
  onPanel (fun p => p.frameIn e d sd 1 0) s
/-- IDLE_FRAME (R246). -/
def execIdleFrame (e : LinkEnd) (d : BitVec 512) (sd : BitVec 168) (s : State) : Host.Outcome State Fault Refusal :=
  onPanel (fun p => p.frameIn e d sd 0 0) s
/-- CTRL_FRAME (R246). -/
def execCtrlFrame (e : LinkEnd) (d : BitVec 512) (sd : BitVec 168) (t : BitVec 32) (s : State) :
    Host.Outcome State Fault Refusal :=
  onPanel (fun p => p.frameIn e d sd 2 t.toNat) s

/-! Handing packets over. -/

/-- The sub-link can take a packet of a class: it is in service, has credit, and its replay buffer has room (R212, R249). -/
def Panel.linkReady (p : Panel) (e : LinkEnd) (cls : Nat) : Bool :=
  p.linkServes e && decide (0 < sget (fun _ => (0 : Int)) (p.link e).cred cls) && decide ((p.link e).replay.length < 256)

/-- A packet's flits numbered into the replay buffer, against their credits (R247, R249). -/
def LinkSt.push (l : LinkSt) (now modulus cls : Nat) (fs : List Flit) : LinkSt :=
  { l with
    seq := (l.seq + fs.length) % modulus
    replay := l.replay ++ (List.range fs.length).map (fun i => ((l.seq + i) % modulus, fs.getD i ⟨[], 0, false, false⟩))
    ackAt := if l.replay.isEmpty then now else l.ackAt
    cred := supd (fun _ => (0 : Int)) l.cred cls (· - (fs.length : Int)) }

/-- A packet handed to a sub-link (R247, R249). -/
def Panel.linkPush (p : Panel) (e : LinkEnd) (cls : Nat) (fs : List Flit) : Panel :=
  p.updLink e (fun l => l.push p.now 1024 cls fs)

/-- The sub-link that a packet at a router came by. -/
def flightLink (f : Flight) : Option LinkEnd :=
  if f.loc < 9216 then
    if f.inp < 4 then (edgeLink (f.loc % 64) f.inp).map (fun k => mkTileEnd (f.loc / 64) (8 * f.inp + k)) else none
  else if 6 ≤ f.inp then some (mkDieEnd (f.loc - 9216) (f.inp - 6)) else none

/-- The input buffer space of a packet that leaves its router is freed, and counted for the partner's credits (R212, R247). -/
def Panel.freeInput (p : Panel) (f : Flight) : Panel :=
  match flightLink f with
  | some e => p.updLink e (fun l => { l with freed := supd (fun _ => 0) l.freed f.hdr.cls (fun n => (n + f.flits.length) % 256) })
  | none => p

end Sys2Proof.Machine
end

