-- ==== Sys2Proof/Machine/Mesh.lean ====
section
/-!
DEFINITION. The mesh: injection, the checks at routers, routing, multicast, output arbitration and hand-over to sub-links and
Yelkor ports (R209, R213, R217 to R237, R456, R519).
-/
namespace Sys2Proof.Machine

open Sys2Proof

/-! Counters and sources of a router. -/

/-- A counter of a router, by its offset in a core's page; a ring die's set is at Table 20.4's place (R487). -/
def Panel.rtrCount (p : Panel) (n off : Nat) : Panel :=
  if n < 9216 then p.count (coreB (n / 64) (n % 64) + off) 1
  else p.count (keeperB + 0x4000 + 0x400 * (n - 9216) + 0x10 + (off - 0x190)) 1
/-- A fault source of a router. -/
def Panel.rtrEvent (p : Panel) (n src : Nat) : Panel :=
  if n < 9216 then p.tileEvent (n / 64) src (n % 64) else p.panelEvent src

/-- A packet dropped at a router (Table 8.5): its counter, its source, and a STATUS where it draws one. -/
def Panel.dropAt (p : Panel) (f : Flight) (off src status : Nat) : Panel :=
  let h := f.hdr
  let p := ((p.dropFlight f.id).freeInput f)
  let p := (p.rtrCount f.loc off).rtrEvent f.loc src
  if status ≠ 0 ∧ h.drawsStatus = true then p.sendStatus f.loc h.dst h status 0 else p

/-! Tables (R217 to R219). -/

/-- The port from (x, y) toward (x', y') by columns first (R219); 7 where they are the same. -/
def towards (x y x' y' : Nat) : Nat :=
  if x' < x then 3 else if x < x' then 1 else if y' < y then 0 else if y < y' then 2 else 7

/-- The tile entry of a router; one whose parity has failed gives 7 (R386). -/
def Panel.tileEntry (p : Panel) (n t : Nat) : RtEntry :=
  let r := p.router n
  if r.failed.contains t then ⟨7, 7, 0⟩
  else match sget (fun _ => none) r.tiles t with
    | some e => e
    | none => ⟨towards (tileX (n / 64)) (tileY (n / 64)) (tileX t) (tileY t), 7, 0⟩

/-- The core entry of a router: its port in prim. -/
def Panel.coreEntry (p : Panel) (n c : Nat) : RtEntry :=
  let r := p.router n
  if r.failed.contains (144 + c) then ⟨7, 7, 0⟩
  else match sget (fun _ => none) r.cores c with
    | some e => e
    | none => ⟨if n % 64 = c then 4 else towards (n % 64 % 8) (n % 64 / 8) (c % 8) (c / 8), 7, 0⟩

/-! The decision at a router. -/

/-- What a router does with a packet at its input: drop it under a check, deliver it here, send it out of a port (with its
detours after it), fan it out, send it from a ring die on a sub-link or on a Yelkor port. -/
inductive Hop where
  | drop (check : Nat)
  | here
  | out (port det : Nat)
  | fan
  | die (k : Nat)
  | yk (port : Nat)
deriving DecidableEq, Repr

/-- The state of a router's port (Table 8.11). -/
def Panel.portState (p : Panel) (n port : Nat) : Nat :=
  bits (p.crd (cid (n / 64) (n % 64)) R.rtrPort) (2 * port + 1) (2 * port)

/-- An output has credit for m flits of a class: a mesh link always has in this model; a sub-link by its credits. -/
def Panel.outCredit (p : Panel) (n port cls m : Nat) : Bool :=
  match edgeLink (n % 64) port with
  | some k => decide ((m : Int) ≤ sget (fun _ => (0 : Int)) (p.link (mkTileEnd (n / 64) (8 * port + k))).cred cls)
  | none => true

/-- The fabric die attached to a tile, and its port (R456). -/
def fabricOn (t : Nat) : Option (Nat × Nat) :=
  (List.range 4).findSome? (fun port => match dieOn t port with
    | some d => if isFabric d then some (d, port) else none
    | none => none)

/-- The port toward sub-link k of a side: out of it at its edge core, else toward that core (R220). -/
def Panel.toEdge (p : Panel) (n side k : Nat) : Nat :=
  if n % 64 = edgeCore side k then side else (p.coreEntry n (edgeCore side k)).prim

/-- The primary and alternate port of a unicast packet at a core's router (R220, R456); port 4 delivers it here. -/
def Panel.unicastPort (p : Panel) (n : Nat) (h : Header) : Nat × Nat :=
  let e := Ep.of h.dst
  let k := (Ep.of h.src).core % 8
  let own := n / 64
  let remote := e.panel ≠ p.panelId
  let t := if remote then (let r := p.remoteEntry n e.panel; if r.valid then r.exit else 255)
    else if e.isDie then dieTile e.core else e.tile
  if t = 255 then (7, 7)
  else if t ≠ own then ((p.tileEntry n t).prim, (p.tileEntry n t).alt)
  else if remote then
    match fabricOn own with
    | some (_, side) => (p.toEdge n side k, 7)
    | none => (7, 7)
  else if e.isDie then (p.toEdge n (diePort e.core) k, 7)
  else ((p.coreEntry n e.core).prim, 7)

/-- The output a unicast packet takes at a core's router (R220, R227, R232). -/
def Panel.unicastHop (p : Panel) (n : Nat) (f : Flight) : Hop :=
  let h := f.hdr
  let (prim, alt) := p.unicastPort n h
  let bulkAlt := h.cls == clsBulk && alt != 7 && decide (h.det < 2) && decide (prim < 4) &&
    !p.outCredit n prim h.cls f.flits.length && p.outCredit n alt h.cls f.flits.length
  let (port, det) :=
    if prim < 4 ∧ p.portState n prim ≠ 0 then (alt, h.det)
    else if bulkAlt = true then (alt, h.det + 1)
    else (prim, h.det)
  if port = 4 then .here
  else if port > 4 ∨ port = f.inp ∨ p.portState n port ≠ 0 then .drop 4
  else .out port det

/-- The decision for a packet at a core's router (Table 8.5, R220, R221). -/
def Panel.coreHop (p : Panel) (n : Nat) (f : Flight) : Hop :=
  let h := f.hdr
  let e := Ep.of h.dst
  if h.hops ≥ 255 then .drop 4
  else if h.mc && (h.fan || (e.panel == p.panelId && !e.isDie && e.tile == n / 64 && e.core == n % 64)) then .fan
  else p.unicastHop n f

/-- The first of the ends k, k + 1, … modulo m that serves. -/
def nextServing (m k : Nat) (ok : Nat → Bool) : Option Nat := ((List.range m).map (fun i => (k + i) % m)).find? ok

/-- The address of a Yelkor port's status register. -/
def ykReg (q : Nat) : Nat := keeperB + R.ykPortSts + 4 * q
/-- The state of a Yelkor port (Table 18.4). -/
def Panel.ykState (p : Panel) (q : Nat) : Nat := bits (p.rd (ykReg q)) 31 28

/-- The decision for a packet at a ring die (R26, R456, R519). -/
def Panel.dieHop (p : Panel) (d : Nat) (f : Flight) : Hop :=
  let h := f.hdr
  let e := Ep.of h.dst
  let s := Ep.of h.src
  if e.panel = p.panelId ∧ e.isDie = true ∧ e.core = d then .here
  else if f.inp = 4 ∨ f.inp = 5 then
    match nextServing 8 ((s.core + e.core) % 8) (fun k => p.linkServes (mkDieEnd d k)) with
    | some k => .die k
    | none => .drop 4
  else if e.panel ≠ p.panelId ∧ isFabric d = true then
    match nextServing 4 ((s.core + s.x + s.y) % 4) (fun i => p.ykState (4 * d + i) == 3 && p.kget R.ykFabSts_held == 1 &&
        p.kget R.ykFabSts_dup == 0) with
    | some i => .yk (4 * d + i)
    | none => .drop 4
  else .drop 4

/-- The header words decode (check 1). -/
def Flight.hdrOk (f : Flight) : Bool :=
  match f.flits with
  | fl :: _ => (fl.words.take 4).length == 4 && (fl.words.take 4).all (fun w => (ssc76Dec w).2 != .uncorrectable)
  | [] => false

/-- The packet with its header words corrected, as each router does (R203). -/
def Flight.fixHdr (f : Flight) : Flight :=
  match f.flits with
  | fl :: rest => { f with flits := { fl with words := (fl.words.take 4).map (fun w => (ssc76Dec w).1) ++ fl.words.drop 4 } :: rest }
  | [] => f

/-- The decision for a packet: checks 1 and 2, then its route. -/
def Panel.hop (p : Panel) (f : Flight) : Hop :=
  if !f.hdrOk then .drop 1
  else
    let f := f.fixHdr
    if !f.hdr.lenOk then .drop 2
    else if f.loc < 9216 then p.coreHop f.loc f
    else p.dieHop (f.loc - 9216) f

/-! Windows of packets from another panel (R460, R461). -/

/-- What the window of a packet from another panel says: the status to refuse it with, or 0, and the base. -/
def Panel.windowVerdict (p : Panel) (h : Header) (bytes : Nat) : Nat × Nat :=
  let e := Ep.of h.dst
  if e.isDie then (stNoWindow, 0)
  else match p.win e.tile h.window with
    | none => (stNoWindow, 0)
    | some w =>
      let need := if h.kind = kRead then 1 else 2
      if w.core ≠ e.core ∨ w.unit ≠ e.unit ∨ w.key ≠ h.key ∨ w.perm / need % 2 = 0 ∨ (h.tokv ∧ w.perm / 4 % 2 = 0) then (stNoWindow, 0)
      else if h.offset + bytes > w.len then (stOverrun, 0)
      else (0, w.base)

/-- The bytes of a packet for its window: its payload, or a READ's count (R211). -/
def Flight.bytes (f : Flight) : Nat :=
  if f.hdr.kind = kRead then bits (f.data.getD 1 0) 31 0 else 64 * f.hdr.length

/-- A packet whose head has reached its destination router: check 5, and for one from another panel its window (R230, R460). -/
def Panel.atDest (p : Panel) (f : Flight) : Panel :=
  let h := f.hdr
  if h.cls ≠ clsMgmt ∧ h.epoch ≠ p.epochAt f.loc % 256 then p.dropAt f 0x1A8 13 stEpochStale
  else if (Ep.of h.src).panel ≠ p.panelId ∧ (h.kind = kWrite ∨ h.kind = kRead) then
    let (v, base) := p.windowVerdict h f.bytes
    let p := if v = stNoWindow ∧ (Ep.of h.dst).isDie = false then p.tcount (f.loc / 64) 0x830 else p
    p.setFlight { f with stage := .dest, verdict := v, base := base }
  else p.setFlight { f with stage := .dest }

/-! Moving. -/

/-- A packet's flits without end-to-end symbols, where the sub-link has not negotiated them (R255): corrected; none where a
payload word is uncorrectable. -/
def bareFlits (fs : List Flit) : Option (List Flit) :=
  if fs.any (fun f => f.words.any (fun w => (ssc76Dec w).2 == .uncorrectable)) then none
  else some (fs.map (fun f => { f with words := f.words.map (fun w => (0 : BitVec 12) ++ ssc76Data (ssc76Dec w).1) }))

/-- A packet handed to an edge sub-link, which is ready for it. -/
def Panel.handOver (p : Panel) (e : LinkEnd) (f : Flight) : Panel :=
  if (p.nget e R.linkSts_feat).testBit 0 then ((p.dropFlight f.id).freeInput f).linkPush e f.hdr.cls f.flits
  else match bareFlits f.flits with
    | some fs => ((p.dropFlight f.id).freeInput f).linkPush e f.hdr.cls fs
    | none => p.dropAt f 0x190 11 stHwFault

/-- The packet leaves a core's router by a port, one router further on its way. -/
def Panel.leave (p : Panel) (n port : Nat) (f : Flight) : Panel :=
  match edgeLink (n % 64) port with
  | some k => p.handOver (mkTileEnd (n / 64) (8 * port + k)) f
  | none =>
    match coreAcross (n % 64) port with
    | some c => (p.freeInput f).setFlight { f with loc := rtrCore (n / 64) c, inp := oppPort port }
    | none => p

/-- An output of a core's router can take a packet of a class now (R213). -/
def Panel.outReady (p : Panel) (n port cls : Nat) : Bool :=
  match edgeLink (n % 64) port with
  | some k => p.linkReady (mkTileEnd (n / 64) (8 * port + k)) cls
  | none => true

/-- The requester an input is at an output's arbiter. -/
def inputNo (f : Flight) : Nat := min f.inp 4

/-- The packets that an output of a router could serve now: of each input and class the one there longest. -/
def Panel.offers (p : Panel) (n port : Nat) : List Flight :=
  let fs := p.flights.filter (fun f => f.loc == n && f.stage == .transit && (match p.hop f with
    | .out o _ => o == port && p.outReady n port f.hdr.cls
    | .here => port == 4
    | _ => false))
  fs.filter (fun f => (fs.find? (fun g => g.inp == f.inp && g.hdr.cls == f.hdr.cls)).map (·.id) == some f.id)

/-- An output's arbiter. -/
def Panel.outArb (p : Panel) (n port : Nat) : Arb := sget (fun _ => Arb.zero) (p.router n).arbs port

/-- A round at an output of a core's router (R213, R235, R236): the highest class is served, its inputs arbitrated; inputs of
lower classes wait without a change of their step. -/
def Panel.outRound (p : Panel) (n port : Nat) : Option Flight × Panel :=
  let fs := p.offers n port
  let cls := fs.foldl (fun m f => min m f.hdr.cls) 7
  let present := ((fs.filter (fun f => f.hdr.cls == cls)).map inputNo).eraseDups
  let a := p.outArb n port
  match a.pick 5 present with
  | none => (none, p)
  | some w =>
    let a1 := a.after 5 present w
    let others := ((fs.map inputNo).eraseDups).filter (fun q => !present.contains q)
    let a2 := { a1 with run := others.foldl (fun m q => supd (fun _ => 0) m q (· + 1)) a1.run }
    let p := p.updRouter n (fun r => { r with arbs := sset (fun _ => Arb.zero) r.arbs port a2 })
    let p := p.arbCount (coreB (n / 64) (n % 64) + 0x420 + 0xA0 * port) w ((present ++ others).filter (fun q => q != w)) a2
    (fs.find? (fun f => f.hdr.cls == cls && inputNo f == w), p)

/-- A packet that has won its output moves on: header corrected, hops and detours updated (R203, R220). -/
def Panel.advance (p : Panel) (n : Nat) (f : Flight) : Panel :=
  match p.hop f with
  | .out port det =>
    let g := f.fixHdr
    let g := g.setHdr { g.hdr with hops := g.hdr.hops + 1, det := det }
    p.leave n port g
  | .here =>
    let g := f.fixHdr
    p.atDest (g.setHdr { g.hdr with hops := g.hdr.hops + 1 })
  | _ => p

/-- The ports a multicast copy goes by from a router (R221), without the one it arrived on. -/
def Panel.fanPorts (p : Panel) (n g inp : Nat) : List Nat :=
  let ts := ((List.range 144).filter (fun t => t != n / 64 && bit (p.tileEntry n t).mcm g)).map (fun t => (p.tileEntry n t).prim)
  let cs := ((List.range 64).filter (fun c => bit (p.coreEntry n c).mcm g)).map (fun c => (p.coreEntry n c).prim)
  ((ts ++ cs).eraseDups).filter (fun q => decide (q ≤ 4) && q != inp)

/-- A multicast copy by a port (R221, R223, R255): delivered here, discarded toward a ring die, a port not UP or a sub-link
without multicast, or sent. -/
def Panel.copyBy (p : Panel) (n : Nat) (f : Flight) (port : Nat) : Panel :=
  let p := { p with flights := p.flights ++ [{ f with id := p.nextFlight, inp := 4 }], nextFlight := p.nextFlight + 1 }
  let f := { f with id := p.nextFlight - 1, inp := 4 }
  if port = 4 then p.atDest f
  else
    match edgeLink (n % 64) port with
    | none =>
      if p.portState n port ≠ 0 then ((p.dropFlight f.id).rtrCount n 0x1B0).rtrEvent n 11
      else p.leave n port f
    | some k =>
      let e := mkTileEnd (n / 64) (8 * port + k)
      if (dieOn (n / 64) port).isSome || termPort (n / 64) port then (p.dropFlight f.id).rtrCount n 0x1B0
      else if p.portState n port ≠ 0 || !(p.nget e R.linkSts_feat).testBit 2 then
        ((p.dropFlight f.id).rtrCount n 0x1B0).rtrEvent n 11
      else p.leave n port f

/-- A multicast packet fanned out at a router once every output it needs can take it; its buffer is freed with the last copy
(R221). -/
def Panel.fanOut (p : Panel) (n : Nat) (f : Flight) : Panel :=
  let g := f.fixHdr
  let g := g.setHdr { g.hdr with fan := true, hops := g.hdr.hops + 1 }
  let ports := p.fanPorts n g.hdr.group g.inp
  let blocked := ports.any (fun q => decide (q < 4) && p.portState n q == 0 && (edgeLink (n % 64) q).isSome &&
    (tileAcross (n / 64) q).isSome && !p.outReady n q g.hdr.cls)
  if blocked then p
  else
    let p := ports.foldl (fun p q => p.copyBy n g q) p
    (p.dropFlight f.id).freeInput f

/-- Table entries a packet's route consults at a core's router, as Router.failed names them (R386). -/
def Panel.consulted (p : Panel) (n : Nat) (h : Header) : List Nat :=
  let e := Ep.of h.dst
  if e.panel ≠ p.panelId then [208 + e.panel]
  else if e.isDie then (if dieTile e.core = n / 64 then [] else [dieTile e.core])
  else if e.tile = n / 64 then [144 + e.core] else [e.tile]

/-- A packet goes to a fabric die's Yelkor port (R448, R456). -/
def ykKey (q : Nat) : Nat := 5000 + q
/-- A Yelkor port's link state (the members of LinkSt that R447 to R449 use). -/
def Panel.yk (p : Panel) (q : Nat) : LinkSt := sget (fun _ => LinkSt.zero) p.links (ykKey q)
/-- A Yelkor port's link state updated. -/
def Panel.updYk (p : Panel) (q : Nat) (f : LinkSt → LinkSt) : Panel :=
  { p with links := supd (fun _ => LinkSt.zero) p.links (ykKey q) f }

/-- A router that forwards: it has not faulted and is not being reset, and its router domain runs. -/
def Panel.forwards (p : Panel) (n : Nat) : Bool :=
  !(p.router n).faulted && !(p.router n).resetting &&
    (if n < 9216 then (p.tile (n / 64)).pll else (p.die (n - 9216)).pll)

/-- A packet routed at the router its head is at (R209, R220): dropped, delivered, fanned out, or entered in its output's
round, whose winner moves. -/
def Panel.routeStep (p : Panel) (f : Flight) : Panel :=
  let n := f.loc
  if f.stage ≠ .transit ∨ p.forwards n = false then p
  else match p.hop f with
  | .drop 1 => p.dropAt f 0x190 11 0
  | .drop 2 => p.dropAt f.fixHdr 0x1A0 12 stBadLength
  | .drop _ =>
    let p := if n < 9216 ∧ (p.consulted n f.hdr).any (fun k => (p.router n).failed.contains k) = true then
        p.ctrlParity (cid (n / 64) (n % 64)) else p
    let p := if 9216 ≤ n ∧ (Ep.of f.hdr.dst).panel ≠ p.panelId ∧ 6 ≤ f.inp then
        p.count (keeperB + 0x4000 + 0x400 * (n - 9216) + 8) 1 else p
    p.dropAt f.fixHdr 0x198 11 stHwFault
  | .here =>
    if n < 9216 then
      match p.outRound n 4 with
      | (some w, p) => p.advance n w
      | (none, p) => p
    else p.atDest f.fixHdr
  | .out port _ =>
    match p.outRound n port with
    | (some w, p) => p.advance n w
    | (none, p) => p
  | .fan => p.fanOut n f
  | .die k =>
    let e := mkDieEnd (n - 9216) k
    if p.linkReady e f.hdr.cls then p.handOver e f.fixHdr else p
  | .yk q =>
    let l := p.yk q
    if 0 < sget (fun _ => (0 : Int)) l.cred f.hdr.cls ∧ l.replay.length < 2048 then
      (((p.dropFlight f.id).freeInput f).updYk q (fun l => l.push p.now 4096 f.hdr.cls f.fixHdr.flits))
    else p

/-- PACKET_ROUTE (R220). -/
def execPacketRoute (id : Nat) (s : State) : Host.Outcome State Fault Refusal :=
  onPanel (fun p => match p.flight id with | some f => p.routeStep f | none => p) s

/-- The router a RouterId names. -/
def rtrOf : RouterId → Nat
  | .core x => rtrCore x.t x.c
  | .die d => rtrDie d

/-- A unit injects a packet (R207, R209): a refusal goes to the unit directly. -/
def Panel.unitInject (p : Panel) (n : Nat) (h : Header) (payload : List W76) : Panel :=
  let (st, p) := p.inject n h payload
  if st = stOk ∨ n < 9216 then p else p.dieAnswer (n - 9216) h.xfer st []

/-- PACKET_INJECT (R209). -/
def execPacketInject (r : RouterId) (h0 h1 h2 h3 : BitVec 64) (payload : List (BitVec 76)) (s : State) :
    Host.Outcome State Fault Refusal :=
  onPanel (fun p => if p.forwards (rtrOf r) then p.unitInject (rtrOf r) (Header.of h0 h1 h2 h3) payload else p) s

/-! Ports and router faults (R232, R237). -/

/-- A port goes DOWN (R232): its sub-link is not in service, or the router at its far end has failed or is being reset. -/
def Panel.portDown (p : Panel) (x : Cid) (port : Nat) : Panel :=
  let down := match edgeLink x.c port with
    | some k =>
      let e := mkTileEnd x.t (8 * port + k)
      !p.linkServes e && p.linkState e != 11
    | none => match coreAcross x.c port with
      | some c => let r := p.router (rtrCore x.t c); r.faulted || r.resetting
      | none => false
  if down then p.cwr x R.rtrPort (setBits (p.crd x R.rtrPort) (2 * port + 1) (2 * port) 1) else p

/-- PORT_DOWN (R232). -/
def execPortDown (x : Cid) (port : Fin 4) (s : State) : Host.Outcome State Fault Refusal :=
  onPanel (fun p => p.portDown x port) s

/-- The ends of the sub-links on a router. -/
def linksOf : RouterId → List LinkEnd
  | .core x => (List.range 4).filterMap (fun q => (edgeLink x.c q).map (fun k => mkTileEnd x.t (8 * q + k)))
  | .die d => (List.range 8).map (fun k => mkDieEnd d k)

/-- Neighbour ports facing a core's router go DOWN. -/
def Panel.faceDown (p : Panel) (x : Cid) : Panel :=
  p.each (List.range 4) (fun p q => match coreAcross x.c q with
    | some c =>
      let y := cid x.t c
      p.cwr y R.rtrPort (setBits (p.crd y R.rtrPort) (2 * oppPort q + 1) (2 * oppPort q) 1)
    | none => p)

/-- A router detects an internal fault (R232): ROUTER_FAULT, and all its links held down; their reason fields keep what they
held. -/
def Panel.routerFault (p : Panel) (r : RouterId) : Panel :=
  let n := rtrOf r
  let p := (p.updRouter n (fun r => { r with faulted := true })).rtrEvent n 11
  let p := p.each (linksOf r) (fun p e => if p.linkState e = 0 then p else p.linkDown e (p.nget e R.linkSts_reason))
  match r with
  | .core x => p.faceDown x
  | .die _ => p

/-- ROUTER_INTERNAL_FAULT (R232). -/
def execRouterInternalFault (r : RouterId) (s : State) : Host.Outcome State Fault Refusal :=
  onPanel (fun p => p.routerFault r) s

/-- A requester's run reaches the limit (R237): arbiters 0 to 31 are the banks', 32 the channel's, 33 to 37 the outputs'. -/
def Panel.arbStarve (p : Panel) (x : Cid) (arb q : Nat) : Panel :=
  let limit := p.tget x.t R.arbStarveLimit_limit
  let a := if arb < 32 then (p.core x).bankArb arb else if arb = 32 then (p.chan x).arb
    else p.outArb (rtrCore x.t x.c) (arb - 33)
  if limit = 0 ∨ sget (fun _ => 0) a.run q < limit ∨ a.flagged.contains q = true then p
  else
    let a' := { a with flagged := a.flagged ++ [q] }
    let p := if arb < 32 then p.updCore x (fun c => { c with banks := sset (fun _ => Arb.zero) c.banks arb a' })
      else if arb = 32 then p.updChan x (fun h => { h with arb := a' })
      else p.updRouter (rtrCore x.t x.c) (fun r => { r with arbs := sset (fun _ => Arb.zero) r.arbs (arb - 33) a' })
    p.coreEvent x 19 (if arb < 32 then 0x1C0 else if arb = 32 then 0x1C8 else 0x1D0 + 8 * (arb - 33))

/-- ARB_STARVE (R237). -/
def execArbStarve (x : Cid) (arb : Fin 38) (q : Fin 15) (s : State) : Host.Outcome State Fault Refusal :=
  onPanel (fun p => p.arbStarve x arb q) s

end Sys2Proof.Machine
end

