-- ==== Sys2Proof/Machine/Units.lean ====
section
/-!
DEFINITION. Destination units: commitment with checks 6 to 9, and the effects of WRITE, READ, RDATA, POST and STATUS packets
(R203, R205 to R211, R226, R228, R231, R137, R163, R320, R371, R401, R427, R461, R520).
-/
namespace Sys2Proof.Machine

open Sys2Proof

/-! Refusals. -/

/-- A packet refused at its destination (R209): it leaves, a multicast copy counts in MC_REFUSE, and a packet that draws a
STATUS gets one. -/
def Panel.refuse (p : Panel) (f : Flight) (st : Nat) : Panel :=
  let h := f.hdr
  let p := (p.dropFlight f.id).freeInput f
  if h.mc then p.rtrCount f.loc 0x1B0
  else if h.drawsStatus then p.sendStatus f.loc h.dst h st 0
  else p

/-- A request of a unit that awaits an answer with a transfer tag. -/
def Panel.awaiting (p : Panel) (src xfer : Nat) : Option Await :=
  p.awaits.find? (fun a => a.src == src && a.xfer == xfer)

/-- The await that a STATUS or an RDATA answers (R206): a STATUS names its packet by the xfer in its payload. -/
def Panel.answers (p : Panel) (f : Flight) : Option Await :=
  let h := f.hdr
  if h.kind = kStatus then
    let w := f.data.getD 0 0
    (p.awaiting h.dst (bits w 23 16)).bind (fun a => if a.kind = bits w 15 8 then some a else none)
  else (p.awaiting h.dst h.xfer).bind (fun a => if a.kind = kRead then some a else none)

/-- Check 6 (Tables 8.3 and 8.5): the unit takes the kind; the offset is a multiple of 64 B; no token 62 or 63, but for unit 5,
which ignores header tokens (R100, R142). -/
def Panel.check6 (p : Panel) (f : Flight) : Bool :=
  let h := f.hdr
  let e := Ep.of h.dst
  let takes :=
    if h.kind = kStatus then true
    else if e.isDie then
      if h.kind = kWrite then isHost e.core && e.unit == 3
      else if h.kind = kRdata then e.unit == 3 && (isHost e.core || (p.answers f).isSome)
      else if h.kind = kMsg then isKeeper e.core && (e.unit == 0 || e.unit == 7)
      else false
    else match h.kind with
      | 0 => e.unit == 2 || e.unit == 4 || e.unit == 5 || e.unit == 6
      | 1 => e.unit == 2 || e.unit == 6
      | 2 => e.unit == 2 || e.unit == 6 || (e.unit == 3 && (p.answers f).isSome)
      | 3 => e.unit == 0
      | 5 => e.unit == 7
      | _ => false
  let data := dataKind h.kind || h.kind == kRead
  takes && (!data || h.offset % 64 == 0) &&
    !((h.kind == kPost || (dataKind h.kind && h.tokv && e.unit != 5)) && decide (62 ≤ h.token))

/-- The state of the target unit and core (check 7): a status to refuse with, 0 to go on, or none to wait (R137, R190, R216,
R320, R321, R371, R401). -/
def Panel.check7 (p : Panel) (f : Flight) : Option Nat :=
  let h := f.hdr
  let e := Ep.of h.dst
  if e.isDie ∨ e.unit = 7 then some 0
  else
    let x := cid (f.loc / 64) (f.loc % 64)
    if e.unit = 6 then
      if p.selfref x then some stFenced
      else if 32 ≤ (p.chan x).q1.length then none
      else some 0
    else
      let r := p.region x.t (regionOf x.c)
      if p.fenced x ∨ p.bad.contains x.key = true ∨ 2 ≤ p.regionState x ∨ r.commit = some 2 ∨ r.commit = some 3 then some stFenced
      else if (p.core x).resetting then some stResetAbort
      else if p.testing x then some stBusy
      else if p.regionState x = 1 ∨ r.hs.isSome = true ∨ r.commit.isSome = true then none
      else some 0

/-- The window of the target (check 8, Table 8.6): a status to refuse with, or 0. -/
def Panel.check8 (p : Panel) (f : Flight) : Nat :=
  let h := f.hdr
  let e := Ep.of h.dst
  let bytes := f.bytes
  if (Ep.of h.src).panel ≠ p.panelId ∧ h.kind ≠ kStatus ∧ h.kind ≠ kRdata then
    if h.kind = kWrite ∨ h.kind = kRead then f.verdict else stNoWindow
  else if h.kind ≠ kWrite ∧ h.kind ≠ kRead ∧ h.kind ≠ kRdata then 0
  else if e.isDie then
    if h.kind = kWrite then
      let n := e.core - 16
      let base := (p.rd (hostB n + R.hostWinBase)).toNat + 2 ^ 32 * (p.rd (hostB n + R.hostWinBase + 4)).toNat
      let size := bits (p.rd (hostB n + R.hostWinSize)) 27 0 * 4096
      if size = 0 then stNoWindow
      else if h.offset < base ∨ base + size < h.offset + bytes then stOverrun
      else 0
    else 0
  else
    let x := cid (f.loc / 64) (f.loc % 64)
    match e.unit with
    | 2 => if 2 ^ 22 < h.offset + bytes then stOverrun else 0
    | 4 =>
      if h.cls ≠ clsStream ∨ p.cget x R.plnInbox_size = 0 then stNoWindow
      else if 64 * p.cget x R.plnInbox_size < h.offset + bytes then stOverrun
      else 0
    | 5 => p.larderRefuse x h bytes
    | 6 => if chanBytes < h.offset + bytes then stOverrun else 0
    | _ => 0

/-- A READ's byte count and reply class are ones R206 gives. -/
def Flight.readOk (f : Flight) : Bool :=
  let w := f.data.getD 1 0
  let n := bits w 31 0
  let c := bits w 39 32
  f.hdr.kind != kRead || (decide (64 ≤ n ∧ n ≤ 4096) && n % 64 == 0 && (c == clsStream || c == clsBulk))

/-- The payload words decode (check 9): how many were corrected; none where one is uncorrectable. -/
def Flight.check9 (f : Flight) : Option Nat :=
  f.payload.foldl (fun acc w => acc.bind (fun n => match (ssc76Dec w).2 with
    | .clean => some n
    | .corrected => some (n + 1)
    | .uncorrectable => none)) (some 0)

/-- The flight is among the first four that wait at a core's router, its ejection buffers (R210), and no earlier packet of its
class from the same source to the same destination waits before it (R225). -/
def Panel.atHead (p : Panel) (f : Flight) : Bool :=
  let waiting := p.flights.filter (fun g => g.loc == f.loc && g.stage == .dest)
  (decide (9216 ≤ f.loc) || ((waiting.take 4).any (fun g => g.id == f.id))) &&
    (f.hdr.cls == clsBulk ||
      (waiting.find? (fun g => g.hdr.cls == f.hdr.cls && g.hdr.src == f.hdr.src && g.hdr.dst == f.hdr.dst)).map (·.id) == some f.id)

/-- The offset at which a packet acts on its unit: for one from another panel its window's base + offset (R460). -/
def Flight.unitOff (f : Flight) : Nat := f.base + f.hdr.offset

/-- The channel requests of a unit-6 packet, one wide row each, at requester 1 (R173, R194). -/
def Panel.queueRows (p : Panel) (x : Cid) (f : Flight) : Panel :=
  let rows := f.bytes / 64
  let ws := f.data
  p.updChan x (fun h => (List.range rows).foldl (fun h k =>
    h.enq 1 (f.unitOff + 64 * k)
      (if f.hdr.kind = kRead then none else some (ofWide ((ws.drop (8 * k)).take 8))) (.pkt f.id k)) h)

/-- A packet that enters its target unit (R209, R210): checks 6 to 9 in order; committed, its effect follows. -/
def Panel.commit (p : Panel) (f : Flight) : Panel :=
  let h := f.hdr
  let e := Ep.of h.dst
  if f.stage ≠ .dest ∨ p.atHead f = false then p
  else if !p.check6 f || !f.readOk then p.refuse f stBadParam
  else match p.check7 f with
  | none => p
  | some st7 =>
    if st7 ≠ 0 then p.refuse f st7
    else
      let st8 := p.check8 f
      if st8 ≠ 0 then
        let p := if e.isDie = false ∧ e.unit = 4 then p.cset (cid (f.loc / 64) (f.loc % 64)) R.plnStatus_inbox_ref 1 else p
        p.refuse f st8
      else match f.check9 with
      | none => ((p.rtrCount f.loc 0x190).rtrEvent f.loc 11).refuse f stHwFault
      | some n =>
        let x := cid (f.loc / 64) (f.loc % 64)
        let p := if f.loc < 9216 then p.ccount x 0x168 n else p
        let g := { f with stage := .committed }
        let p := (p.freeInput f).setFlight { g with inp := 4 }
        if f.loc < 9216 ∧ e.unit = 6 ∧ h.kind ≠ kStatus ∧ (h.kind ≠ kRdata ∨ (p.answers f).isSome = true) then p.queueRows x g else p

/-- PACKET_COMMIT (R210). -/
def execPacketCommit (id : Nat) (s : State) : Host.Outcome State Fault Refusal :=
  onPanel (fun p => match p.flight id with | some f => (p.commit f).winDrain | none => p) s

/-! Effects of committed packets. -/

/-- The token of a data packet whose payload has been written (R100, R226, R228): MGMT and STREAM post 1; BULK counts bytes. -/
def Panel.headerToken (p : Panel) (x : Cid) (h : Header) : Panel :=
  if !h.tokv then p
  else if h.cls ≠ clsBulk then p.post x h.token 1
  else
    let n := (sget (fun _ => 0) (p.core x).seq.bulk h.token + 64 * h.length) % 2 ^ 29
    if n ≥ h.total then
      (p.updSeq x (fun q => { q with bulk := sset (fun _ => 0) q.bulk h.token (n - h.total) })).post x h.token 1
    else p.updSeq x (fun q => { q with bulk := sset (fun _ => 0) q.bulk h.token n })

/-- No channel request of a packet still waits or is under way. -/
def Panel.rowsDone (p : Panel) (x : Cid) (id : Nat) : Bool :=
  let h := p.chan x
  let mine (t : DTag) : Bool := match t with | .pkt i _ => i == id | _ => false
  !h.q1.any (fun r => mine r.tag) && !h.reads.any (fun r => mine r.req.tag)

/-- The bytes of words, least significant first. -/
def wordBytes (ws : List W64) : List Byte := ws.flatMap (fun w => toBytes 8 w.toNat)

/-- A committed WRITE at a core (R205, R207). -/
def Panel.writeUnit (p : Panel) (x : Cid) (f : Flight) : Panel :=
  let h := f.hdr
  match (Ep.of h.dst).unit with
  | 2 => (((p.spadWrites x (f.unitOff / 8) f.data).headerToken x h).dropFlight f.id).answer x f stOk
  | 4 =>
    let a := 8 * p.cget x R.plnInbox_base + h.offset / 8
    (((p.spadWrites x a f.data).headerToken x h).dropFlight f.id).answer x f stOk
  | 5 => ((p.dropFlight f.id).larderAccept x f.data).answer x f stOk
  | 6 => if p.rowsDone x f.id then ((p.headerToken x h).dropFlight f.id).answer x f stOk else p
  | _ => p

/-- A committed packet of a kind. -/
def Panel.committed (p : Panel) (id kind : Nat) : Option Flight :=
  (p.flight id).bind (fun f => if f.stage = .committed ∧ f.hdr.kind = kind then some f else none)

/-- A committed WRITE takes effect: at a core's unit, or in host memory behind a host die (R26, R427). -/
def Panel.writePkt (p : Panel) (id : Nat) : Panel :=
  match p.committed id kWrite with
  | none => p
  | some f =>
    let h := f.hdr
    if f.loc < 9216 then p.writeUnit (cid (f.loc / 64) (f.loc % 64)) f
    else
      let p := (p.hostWr (f.loc - 9216 - 16) h.offset (wordBytes f.data)).dropFlight id
      if h.drawsStatus then p.sendStatus f.loc h.dst h stOk (64 * h.length) else p

/-- WRITE (R205). -/
def execWrite (id : Nat) (s : State) : Host.Outcome State Fault Refusal := onPanel (fun p => p.writePkt id) s

/-- PLANER_INBOX_WRITE (R163): a committed WRITE at unit 4. -/
def execPlanerInboxWrite (x : Cid) (id : Nat) (s : State) : Host.Outcome State Fault Refusal :=
  onPanel (fun p => match p.committedAt id x 4 with | some f => p.writeUnit x f | none => p) s

/-- The reply to a READ (R206). -/
def Flight.reply (f : Flight) : Header :=
  let h := f.hdr
  let w := f.data.getD 1 0
  let n := bits w 31 0
  let bulk := bits w 39 32 == clsBulk
  { Header.blank with
    cls := bits w 39 32, kind := kRdata, length := n / 64, dst := h.src, src := h.dst, offset := (f.data.getD 0 0).toNat,
    xfer := h.xfer, tokv := bit w 47, token := bits w 45 40, total := if bulk then n else 0 }

/-- A committed READ is answered with one RDATA packet, or with HW_FAULT where a word is uncorrectable (R131, R180, R206). -/
def Panel.readPkt (p : Panel) (id : Nat) : Panel :=
  match p.committed id kRead with
  | none => p
  | some f =>
    let x := cid (f.loc / 64) (f.loc % 64)
    let h := f.hdr
    let n := f.bytes
    if (Ep.of h.dst).unit = 2 then
      let (ws, bad, p) := p.spadReads x (f.unitOff / 8) (n / 8)
      let p := p.dropFlight id
      if bad then p.sendStatus f.loc h.dst h stHwFault 0 else (p.inject f.loc f.reply (ws.map ssc76Enc)).2
    else if !p.rowsDone x id then p
    else
      let got := (p.chan x).got
      let rows := (List.range (n / 64)).map (fun k => (got.find? (fun g => g.1 == DTag.pkt id k)).bind (·.2))
      let p := (p.dropFlight id).updChan x (fun h => { h with
        got := h.got.filter (fun g => match g.1 with | .pkt i _ => i != id | _ => true) })
      if rows.any (·.isNone) then p.sendStatus f.loc h.dst h stHwFault 0
      else (p.inject f.loc f.reply ((rows.flatMap (fun r => wideWords (r.getD 0))).map ssc76Enc)).2

/-- READ_PACKET (R206). -/
def execReadPacket (id : Nat) (s : State) : Host.Outcome State Fault Refusal := onPanel (fun p => p.readPkt id) s

/-- An await answered: the engine of the core or of the ring die that sent it moves on (R110, R208). -/
def Panel.answered (p : Panel) (a : Await) (st : Nat) : Panel :=
  let e := Ep.of a.src
  let p := { p with awaits := p.awaits.erase a }
  if e.isDie then p.dieAnswer e.core a.xfer st [] else p.dmaAnswer (cid e.tile e.core) a.src a.xfer st

/-- The RDATA of a relay at a ring die goes on as a WRITE (R26, R520). -/
def Panel.dieRelay (p : Panel) (d : Nat) (a : Await) (ws : List W76) : Panel :=
  match (p.die d).relays.find? (fun r => r.1 == a.xfer) with
  | none => p
  | some (_, dst, off, cls) =>
    let p := { p with awaits := p.awaits.erase a }
    let p := p.updDie d (fun s => { s with relays := s.relays.filter (fun r => r.1 != a.xfer) })
    p.unitInject (rtrDie d)
      { Header.blank with cls := cls, kind := kWrite, length := ws.length / 8, dst := dst, src := a.src, offset := off, xfer := a.xfer }
      ws

/-- A committed RDATA (R205, R208, R461, R520): written where it is addressed, or taken by a relaying engine; one that answers
nothing is discarded. -/
def Panel.rdataPkt (p : Panel) (id : Nat) : Panel :=
  match p.committed id kRdata with
  | none => p
  | some f =>
    let h := f.hdr
    let e := Ep.of h.dst
    match p.answers f with
    | none => p.dropFlight id
    | some a =>
      if f.loc < 9216 then
        let x := cid (f.loc / 64) (f.loc % 64)
        if e.unit = 3 then (({ (p.dropFlight id) with awaits := p.awaits.erase a }).dmaRelay x h.xfer f.payload)
        else if e.unit = 2 then
          (((p.spadWrites x (h.offset / 8) f.data).headerToken x h).dropFlight id).answered a stOk
        else if p.rowsDone x id then ((p.headerToken x h).dropFlight id).answered a stOk
        else p
      else
        let d := f.loc - 9216
        if (p.die d).relays.any (fun r => r.1 == h.xfer) then (p.dropFlight id).dieRelay d a f.payload
        else if p.aperTag d h.xfer then
          ({ (p.dropFlight id) with awaits := p.awaits.erase a }).dieAnswer d h.xfer stOk (wordBytes f.data)
        else if isHost d then ((p.hostWr (d - 16) h.offset (wordBytes f.data)).dropFlight id).answered a stOk
        else (p.dropFlight id).answered a stOk

/-- RDATA (R520). -/
def execRdata (id : Nat) (s : State) : Host.Outcome State Fault Refusal := onPanel (fun p => p.rdataPkt id) s

/-- A committed POST adds its amount to the token its header names (R206). -/
def Panel.postPkt (p : Panel) (id : Nat) : Panel :=
  match p.committed id kPost with
  | none => p
  | some f =>
    let x := cid (f.loc / 64) (f.loc % 64)
    let amount := bits (f.data.getD 0 0) 7 0
    ((p.post x f.hdr.token amount).dropFlight id).answer x f stOk

/-- POST (R206). -/
def execPost (id : Nat) (s : State) : Host.Outcome State Fault Refusal := onPanel (fun p => p.postPkt id) s

/-- A committed STATUS, which answers its packet or is discarded; a MSG put in by PACKET_INJECT is taken here with its STATUS
(R206, R207). -/
def Panel.statusPkt (p : Panel) (id : Nat) : Panel :=
  match p.committed id kStatus with
  | some f =>
    match p.answers f with
    | some a =>
      let st := bits (f.data.getD 0 0) 7 0
      (p.dropFlight id).answered a st
    | none => p.dropFlight id
  | none => match p.committed id kMsg with
    | some f =>
      let p := p.dropFlight id
      if f.hdr.drawsStatus then p.sendStatus f.loc f.hdr.dst f.hdr stOk 0 else p
    | none => p

/-- STATUS (R207). -/
def execStatus (id : Nat) (s : State) : Host.Outcome State Fault Refusal := onPanel (fun p => p.statusPkt id) s

/-- A request that has waited its response timeout fails with HW_FAULT (R208); a ring die's limit is the reset value of
RSP_TIMEOUT. -/
def Panel.rspTimeout (p : Panel) (src xfer : Nat) : Panel :=
  match p.awaiting src xfer with
  | none => p
  | some a =>
    let e := Ep.of src
    let limit := if e.isDie then 0x1F4 else p.cget (cid e.tile e.core) R.rspTimeout_limit
    if limit = 0 ∨ p.now < a.sent + limit then p
    else
      p.answered a stHwFault

/-- RSP_TIMEOUT (R208). -/
def execRspTimeout (src : BitVec 29) (xfer : BitVec 8) (s : State) : Host.Outcome State Fault Refusal :=
  onPanel (fun p => p.rspTimeout src.toNat xfer.toNat) s

end Sys2Proof.Machine
end

