-- ==== Sys2Proof/Machine/Member.lean ====
section
/-!
DEFINITION. Membership: fences, the epoch and its settling, health reports, expulsion and the governor, reserve swaps, fault notes and
keeper takeover (R389, R400 to R422).
-/
namespace Sys2Proof.Machine

open Sys2Proof

/-! Fences and changes. -/

/-- A membership change waits for its increment; the commands named complete when it has settled (R404 to R406). -/
def Panel.change (p : Panel) (tiles : List Nat) (cmds : List (Nat × Nat)) : Panel :=
  p.updKeep (fun k => { k with changes := k.changes ++ [⟨tiles, cmds, false, 0, 0, []⟩] })

/-- A change that names a tile is still settling (R406). -/
def Panel.settling (p : Panel) (ts : List Nat) : Bool :=
  p.keep.changes.any (fun c => c.tiles.any (fun t => ts.contains t))

/-- A core is usable: the Tally does not mark it bad. -/
def Panel.usable (p : Panel) (x : Cid) : Bool := !p.bad.contains x.key

/-- A core's fence bit replaced. -/
def Panel.setFence (p : Panel) (x : Cid) (b : Bool) : Panel :=
  let a := tileB x.t + R.fenceMap + 4 * (x.c.val / 32)
  p.wr a (setBits (p.rd a) (x.c.val % 32) (x.c.val % 32) (b2n b))

/-- A core that is not fenced is fenced, with a compute reset (R401). -/
def Panel.fenceCore (p : Panel) (x : Cid) : Panel :=
  if p.fenced x then p else ((p.setFence x true).coreReset x).barrierCheck

/-- A serving tile, or a reserve in service, which is a serving tile in every rule (R418). -/
def Panel.serving (p : Panel) (t : Nat) : Bool := p.tget t R.tileSts_ncore != 0 && !p.relayTile t

/-- Cores of a tile that are usable and not fenced. -/
def Panel.liveCores (p : Panel) (t : Nat) : List Cid :=
  ((List.range 64).map (fun c => cid t c)).filter (fun x => p.usable x && !p.fenced x)

/-- A bit of a 160-bit map of tiles replaced (READY_MAP, CAND_MAP, FAULT_MAP). -/
def Panel.setMap (p : Panel) (a t : Nat) (b : Bool) : Panel :=
  let a := a + 4 * (t / 32)
  p.wr a (setBits (p.rd a) (t % 32) (t % 32) (b2n b))

/-- TILE_STS.ready and its mirror (R362). -/
def Panel.setReady (p : Panel) (t : Nat) (b : Bool) : Panel := (p.tset t R.tileSts_ready (b2n b)).setMap (globB + R.readyMap) t b

/-! Expulsion (R411 to R413). -/

/-- GOV_STS from the expulsions of the last 15 and 60 minutes (Table 16.6). -/
def Panel.govShow (p : Panel) : Panel :=
  let within (n : Nat) := p.keep.expels.filter (fun e => decide (p.now < e.1 + n))
  let stands := (within 900000000).foldl (fun v e => v ||| 2 ^ e.2) 0
  (p.kset R.govSts_stand stands).kset R.govSts_recent (min 7 (within 3600000000).length)

/-- The governor holds a candidate (R412). -/
def Panel.govHolds (p : Panel) (t : Nat) : Bool :=
  p.keep.expels.any (fun e => e.2 == standOf t && decide (p.now < e.1 + 900000000)) ||
    decide (4 ≤ (p.keep.expels.filter (fun e => decide (p.now < e.1 + 3600000000))).length)

/-- A reserve can be powered: its stand's segment holds (R297, R417). -/
def Panel.segmentUp (p : Panel) (stand : Nat) : Bool := decide (sget (fun _ => 0) p.keep.ibc stand < 3)

/-- The powered tiles of a tile's stand that are in their peak window (R311). -/
def Panel.tilePeak (p : Panel) (t : Nat) : List Nat :=
  (standTiles (standOf t)).filter (fun u => u != t && (p.tile u).rails &&
    (match sget (fun _ => none) p.keep.reports u with | some r => decide (r.state < 2 ∧ p.kget R.tileAdmit_peak ≤ r.used) | none => false))

/-- The powered tiles of a tile's stand. -/
def Panel.tileNear (p : Panel) (t : Nat) : List Nat := (standTiles (standOf t)).filter (fun u => u != t && (p.tile u).rails)

/-- The swap in progress that brings a reserve in. -/
def Panel.swapOf (p : Panel) (r : Nat) : Option Swap := p.keep.swaps.find? (fun w => w.r == r)

/-- The keeper has admitted a reserve: its regions are powered (R417 step 1). -/
def Panel.swapPower (p : Panel) (r : Nat) : Panel :=
  (p.updKeep (fun k => { k with swaps := k.swaps.map (fun w => if w.r = r then { w with waited := none } else w) })).each (List.range 4)
    (fun p i => p.wakeRegion r i)

/-- What a swap that begins waits for: nothing, if no neighbour tile of the reserve is in its peak window (R311). -/
def Panel.swapAdmit (p : Panel) (r : Nat) : Option Nat := if (p.tilePeak r).isEmpty then none else some 0

/-- A swap begins: the reserve's regions are powered, or held by a neighbour tile in its peak window (R311, R417 step 1). -/
def Panel.swapStart (p : Panel) (r t : Nat) (cmd : Option (Nat × Nat)) : Panel :=
  let a := p.swapAdmit r
  let p := p.updKeep (fun k => { k with swaps := k.swaps ++ [⟨r, t, cmd, false, a⟩] })
  if a.isSome then p else p.each (List.range 4) (fun p i => p.wakeRegion r i)

/-- A swap is no longer in progress. -/
def Panel.dropSwap (p : Panel) (r : Nat) : Panel := p.updKeep (fun k => { k with swaps := k.swaps.filter (fun w => w.r != r) })

/-- A swap fails: its command completes with a status, and the reserve is left with every region DARK (R417). A swap of the
keeper's own ends in NO_RESERVE. -/
def Panel.swapFail (p : Panel) (r st : Nat) : Panel :=
  match p.swapOf r with
  | none => p
  | some w =>
    let p := p.dropSwap r
    let p := p.updTile w.r (fun s => { s with imgWait := [] })
    let p := p.each (List.range 4) (fun p i => p.forceDark w.r i stHwFault)
    match w.cmd with
    | some k => p.cmdPart k partEpoch st
    | none => p.memberEvent w.t 5

/-- A tile is expelled (R411): marked, its cores fenced, its regions sent to DARK, the expulsion recorded; the epoch moves; its stand's
reserve replaces it, or NO_RESERVE is posted; EXPELLED is posted. -/
def Panel.expel (p : Panel) (t : Nat) : Panel :=
  if p.tget t R.tileMemb_expelled = 1 then p
  else
    let p := p.tset t R.tileMemb_expelled 1
    let p := p.each (List.range 64) (fun p c => p.fenceCore (cid t c))
    let p := p.each (List.range 4) (fun p r => p.forceDark t r stHwFault)
    let p := (p.updKeep (fun k => { k with expels := k.expels ++ [(p.now, standOf t)], held := k.held.filter (· != t) })).govShow
    let p := if p.tget t R.health_cand = 1 then (p.tset t R.health_cand 0).sendHealth t 3 else p
    let p := p.change [t] []
    let r := standCentre (standOf t)
    let swappable := p.tget r R.tileSts_reserve == 1 && p.tget r R.tileSts_unusable == 0 && p.tget r R.tileMemb_in_service == 0 &&
      p.tget r R.tileMemb_expelled == 0 && p.segmentUp (standOf t) && (p.tile r).rails && r != t && (p.swapOf r).isNone &&
      p.keep.img.isSome
    let p := if swappable then p.swapStart r t none else p.memberEvent t 5
    p.memberEvent t 4

/-- EXPULSION (R411): of a candidate that the governor does not hold (R412). -/
def execExpulsion (t : Fin 144) (s : State) : Host.Outcome State Fault Refusal :=
  onPanel (fun p => if p.tget t R.health_cand = 1 ∧ p.govHolds t = false then p.expel t else p) s

/-- A tile that serves has fewer than 60 cores usable and not fenced, which expels it (R413). -/
def Panel.floorCheck (p : Panel) (t : Nat) : Panel :=
  if p.serving t && decide ((p.liveCores t).length < 60) then p.expel t else p

/-- Cores of a tile fenced together, with one change of the epoch where any was not fenced; the commands named wait for it (R404). -/
def Panel.fenceCores (p : Panel) (t : Nat) (cs : List Nat) (cmds : List (Nat × Nat)) : Panel :=
  if cs.all (fun c => p.fenced (cid t c)) then p
  else ((p.each cs (fun p c => p.fenceCore (cid t c))).change [t] cmds).floorCheck t

/-- A region is sent to DARK without a handshake and its cores are fenced (R303, R332). -/
def Panel.loseRegion (p : Panel) (t r : Nat) : Panel := (p.forceDark t r stHwFault).fenceCores t (regionCores r) []

/-- GOVERNOR_TICK: every second held candidates are looked at again, and the one with the lowest score that the governor no longer
holds is expelled (R412). -/
def Panel.govTick (p : Panel) : Panel :=
  let p := p.govShow
  let free := p.keep.held.filter (fun t => !p.govHolds t)
  match free with
  | [] => p
  | t0 :: ts =>
    let score (t : Nat) := p.tget t R.health_score
    p.expel (ts.foldl (fun b t => if score t < score b ∨ (score t = score b ∧ t < b) then t else b) t0)

/-- GOVERNOR_TICK (R412). -/
def execGovernorTick (s : State) : Host.Outcome State Fault Refusal := onPanel (fun p => p.govTick) s

/-! Health (R409, R410). -/

/-- HEALTH: the keeper takes a tile's report of a standing entered or left, posts its event, and expels or holds a candidate. -/
def Panel.healthIn (p : Panel) (t : Nat) : Panel :=
  match p.findMsg 0x52 t p.keeperNode with
  | none => p
  | some m =>
    let p := (p.takeMsg m).memberEvent t (m.at 1)
    if m.at 1 = 2 then
      let p := p.setMap (keeperB + R.candMap) t true
      if p.govHolds t then
        ((p.kcount 0x830).kset R.govSts_held 1).updKeep (fun k => { k with held := k.held.filter (· != t) ++ [t] })
      else p.expel t
    else if m.at 1 = 3 then
      (p.setMap (keeperB + R.candMap) t false).updKeep (fun k => { k with held := k.held.filter (· != t) })
    else p

/-- HEALTH (R410). -/
def execHealth (t : Fin 144) (s : State) : Host.Outcome State Fault Refusal := onPanel (fun p => p.healthIn t) s

/-- HEALTH_RISE: 60 s without a weighted event raise the score by 1 (R410). -/
def Panel.healthRise (p : Panel) (t : Nat) : Panel :=
  if !(p.tile t).rails || decide (p.now < (p.health t).since + 60000000) || decide (1000 ≤ p.tget t R.health_score) then p
  else
    let p := p.tset t R.health_score (p.tget t R.health_score + 1)
    (p.updHealth t (fun h => { h with since := p.now })).healthStanding t

/-- HEALTH_RISE (R410). -/
def execHealthRise (t : Fin 144) (s : State) : Host.Outcome State Fault Refusal := onPanel (fun p => p.healthRise t) s

/-- BUSY_SECOND: at the end of a second each source weighted per busy second costs its weight where it had 1,000 events (R409). -/
def Panel.busySecond (p : Panel) (t : Nat) : Panel :=
  let busy := ([0, 2, 8].filter (fun s => decide (1000 ≤ sget (fun _ => 0) (p.health t).busy s))).length
  let p := p.updHealth t (fun h => { h with busy := [] })
  if busy = 0 then p else p.lowerScore t busy

/-- BUSY_SECOND (R409). -/
def execBusySecond (t : Fin 144) (s : State) : Host.Outcome State Fault Refusal := onPanel (fun p => p.busySecond t) s

/-! The epoch (R404, R405). -/

/-- The nodes that an EPOCH message goes to: tiles that are not DARK and ring dies, but for the active keeper, whose own units adopt
the epoch at the increment. -/
def Panel.epochNodes (p : Panel) : List Nat :=
  (List.range 144).filter (fun t => (p.tile t).rails) ++
    ((List.range 22).filter (fun d => (p.die d).rails && 144 + d != p.keeperNode)).map (144 + ·)

/-- A settled change leaves, and what waited for it completes (R405). -/
def Panel.settle (p : Panel) : Panel :=
  let done := p.keep.changes.filter (fun c => c.made && c.waits.isEmpty)
  let p := p.updKeep (fun k => { k with changes := k.changes.filter (fun c => !(c.made && c.waits.isEmpty)) })
  p.each done (fun p c => p.cmdParts c.cmds partEpoch 0)

/-- EPOCH_INCREMENT: the oldest change that waits moves the epoch, at least 100 µs after the last (R404), and EPOCH messages go out
(R405). -/
def Panel.epochInc (p : Panel) : Panel :=
  let early := match p.keep.lastInc with | some l => decide (p.now < l + 100) | none => false
  match p.keep.changes.find? (fun c => !c.made) with
  | none => p
  | some c =>
    if early then p
    else
      let e := (p.epoch + 1) % 65536
      let ns := p.epochNodes
      let p := p.wr (keeperB + R.epoch) (w32 e)
      let p := p.each ns (fun p n => p.send ⟨0x50, p.keeperNode, n, [e]⟩)
      let c' := { c with made := true, epoch := e, sent := p.now, waits := ns }
      (p.updKeep (fun k => { k with
        lastInc := some p.now
        changes := k.changes.takeWhile (·.made) ++ c' :: (k.changes.dropWhile (·.made)).drop 1 })).settle

/-- EPOCH_INCREMENT (R404). -/
def execEpochIncrement (s : State) : Host.Outcome State Fault Refusal := onPanel (fun p => p.epochInc) s

/-- A window closes (R462). -/
def Panel.closeWin (p : Panel) (t i : Nat) : Panel :=
  let a := tileB t + R.winMap + 4 * (i / 32)
  (p.updTile t (fun s => { s with wins := sset (fun _ => none) s.wins i none })).wr a
    (setBits (p.rd a) (i % 32) (i % 32) 0)

/-- A tile adopts an epoch (R405); windows whose expiry it has passed close (R462). -/
def Panel.adopt (p : Panel) (t e : Nat) : Panel :=
  let p := p.tset t R.tileMemb_epoch e
  p.each (p.tile t).wins (fun p w => match w.2 with
    | some v =>
      let d := (e + 65536 - v.expiry) % 65536
      if !v.perm.testBit 3 && decide (1 ≤ d ∧ d ≤ 32767) then p.closeWin t w.1 else p
    | none => p)

/-- EPOCH: a node adopts the epoch of the oldest EPOCH message on its way to it and acknowledges it (R405). -/
def Panel.epochIn (p : Panel) (n : Nat) : Panel :=
  match p.msgs.find? (fun m => m.kind == 0x50 && m.dst == n) with
  | none => p
  | some m =>
    let p := p.takeMsg m
    let p := if n < 144 then p.adopt n (m.at 0) else p.updDie (n - 144) (fun d => { d with epoch := m.at 0 })
    p.send ⟨0x51, n, p.keeperNode, [m.at 0]⟩

/-- The number of a node. -/
def nodeNum : Node → Nat
  | .tile t => t
  | .die d => 144 + d

/-- EPOCH (R405). -/
def execEpoch (n : Node) (s : State) : Host.Outcome State Fault Refusal := onPanel (fun p => p.epochIn (nodeNum n)) s

/-- A node is no longer awaited by the change of an epoch. -/
def Panel.acked (p : Panel) (n e : Nat) : Panel :=
  (p.updKeep (fun k => { k with changes := k.changes.map (fun c =>
    if c.made && c.epoch == e then { c with waits := c.waits.filter (· != n) } else c) })).settle

/-- EPOCH_ACK: the keeper records an acknowledgement (R405). -/
def Panel.ackIn (p : Panel) (n : Nat) : Panel :=
  match p.findMsg 0x51 n p.keeperNode with
  | none => p
  | some m => (p.takeMsg m).acked n (m.at 0)

/-- EPOCH_ACK (R405). -/
def execEpochAck (n : Node) (s : State) : Host.Outcome State Fault Refusal := onPanel (fun p => p.ackIn (nodeNum n)) s

/-- A tile is lost and fails (R405, R407, R413). -/
def Panel.loseTile (p : Panel) (t : Nat) : Panel :=
  if p.tget t R.tileMemb_lost = 1 then p else ((p.tset t R.tileMemb_lost 1).memberEvent t 6).expel t

/-- EPOCH_ACK_TIMEOUT: a tile has not acknowledged within 50 ms (R405). -/
def Panel.ackTimeout (p : Panel) (t : Nat) : Panel :=
  let late := p.keep.changes.filter (fun c => c.made && c.waits.contains t && decide (c.sent + 50000 ≤ p.now))
  if late.isEmpty then p
  else
    let p := p.updKeep (fun k => { k with changes := k.changes.map (fun c => { c with waits := c.waits.filter (· != t) }) })
    (p.loseTile t).settle

/-- EPOCH_ACK_TIMEOUT (R405). -/
def execEpochAckTimeout (t : Fin 144) (s : State) : Host.Outcome State Fault Refusal := onPanel (fun p => p.ackTimeout t) s

/-- HEARTBEAT_LOST: no REPORT from a tile that is not DARK for 20 ms (R407). -/
def Panel.heartbeatLost (p : Panel) (t : Nat) : Panel :=
  match sget (fun _ => none) p.keep.reports t with
  | some r => if (p.tile t).rails && decide (r.at_ + 20000 ≤ p.now) then p.loseTile t else p
  | none => p

/-- HEARTBEAT_LOST (R407). -/
def execHeartbeatLost (t : Fin 144) (s : State) : Host.Outcome State Fault Refusal := onPanel (fun p => p.heartbeatLost t) s

/-! Fault notes (R388 to R390). -/

/-- FAULT_NOTE: the keeper takes a tile's note (R389): events and panel resets for bits newly set or renewed, FAULT_MAP, and the note is
kept; one that is older than the kept note is discarded. -/
def Panel.noteIn (p : Panel) (t : Nat) : Panel :=
  match p.findMsg 0x40 t p.keeperNode with
  | none => p
  | some m =>
    let p := p.takeMsg m
    let old := sget (fun _ => none) p.keep.notes t
    let field (i : Nat) : Nat := match old with | some b => b.getD i 0 | none => 0
    let stale := old.isSome && decide (32768 ≤ (m.at 4 + 65536 - field 4) % 65536)
    if stale then p
    else
      let due (i : Nat) (src : Nat) : Bool := (m.at i).testBit src && (!(field i).testBit src || (m.at 5).testBit src)
      let p := p.each (List.range 25) (fun p src => if due 1 src then p.faultEvent t src else p)
      let p := if (List.range 25).any (due 3) then { p with prst := true } else p
      let p := p.setMap (keeperB + R.faultMap) t (m.at 1 != 0)
      p.updKeep (fun k => { k with notes := sset (fun _ => none) k.notes t (some m.body) })

/-- FAULT_NOTE (R389). -/
def execFaultNote (t : Fin 144) (s : State) : Host.Outcome State Fault Refusal := onPanel (fun p => p.noteIn t) s

/-- FAULT_NOTE_TICK: every 10 ms while any act bit is set (R388). -/
def execFaultNoteTick (t : Fin 144) (s : State) : Host.Outcome State Fault Refusal :=
  onPanel (fun p => if (p.coll t).act ≠ 0 then p.sendNote t else p) s

/-- FAULT_N is driven low (R390, R508): only while the ring segment is powered. -/
def Panel.faultLow (p : Panel) : Bool :=
  p.keep.ring && (p.panelPin || p.keep.notes.any (fun n => match n.2 with | some b => b.getD 2 0 != 0 | none => false))

/-- ALERT_N is driven low (R391). -/
def Panel.alertLow (p : Panel) : Bool := p.keep.ring && (p.rd (keeperB + R.alertSts)).toNat != 0

/-- The cores that BLOCK_RESET covers for a source of a tile's collector, raised at core c (Table 15.1). -/
def blockScope (src c : Nat) : List Nat :=
  if src ≤ 7 ∨ (20 ≤ src ∧ src ≤ 22) then [c] else if src = 14 then regionCores (regionOf c) else List.range 64

/-- FC_STICKY written (R392): bits written as 1 clear, with their reactions as taken; a source whose event arrives with the write ends
set, takes its reaction again and is named in the next note's renew field. -/
def Panel.stickyWrite (p : Panel) (n m ev c : Nat) : Panel :=
  let again := (List.range 25).filter (fun i => m.testBit i && ev.testBit i)
  let clear := (List.range 25).filter (fun i => m.testBit i && !ev.testBit i && (p.sticky n).testBit i)
  let a := stickyAddr n
  let p := p.wr a (clear.foldl (fun v i => setBits v i i 0) (p.rd a))
  let p := p.updColl n (fun k => { k with
    act := clear.foldl (fun v i => withBit v i false) k.act, prst := clear.foldl (fun v i => withBit v i false) k.prst })
  let p := if n < 144 ∧ clear ≠ [] ∧ again = [] then p.sendNote n else p
  p.each again (fun p i =>
    let p := p.updColl n (fun k => { k with renew := k.renew ||| 2 ^ i })
    (p.orReg a (w32 (2 ^ i))).react n i (blockScope i c))

/-- FC_STICKY_WRITE (R392): a collector, the value written, and the sources whose events arrive with it, at core c. -/
def execFcStickyWrite (n : Fin 145) (v ev : BitVec 25) (c : Fin 64) (s : State) : Host.Outcome State Fault Refusal :=
  onPanel (fun p => p.stickyWrite n v.toNat ev.toNat c) s

/-! The standby keeper (R419, R420). -/

/-- The state code of a keeper, 0 K-A and 1 K-B (Table 13.4). -/
def Panel.keeperState (p : Panel) (k : Nat) : Nat :=
  if k = 0 then p.gget R.keeperSts_a_state else p.gget R.keeperSts_b_state
/-- That code replaced. -/
def Panel.setKeeperState (p : Panel) (k v : Nat) : Panel :=
  if k = 0 then p.gset R.keeperSts_a_state v else p.gset R.keeperSts_b_state v
/-- The keeper that is active. -/
def Panel.activeK (p : Panel) : Nat := p.gget R.keeperSts_active
/-- What a keeper holds of trust. -/
def Panel.trust (p : Panel) (k : Nat) : TrustKeeper := if k = 0 then p.keep.trustA else p.keep.trustB
/-- The same replaced. -/
def Panel.setTrust (p : Panel) (k : Nat) (v : TrustKeeper) : Panel :=
  p.updKeep (fun s => if k = 0 then { s with trustA := v } else { s with trustB := v })

/-- A register of the mirrored state (R419): the epoch, STEP_STS, CAND_MAP, FAULT_MAP, the panel collector, PTC_CTL and the rate of the
keeper block; the fence maps, HEALTH and TILE_MEMB of the tiles. -/
def mirrored (a : Nat) : Bool :=
  match blkOf a with
  | .keep o => [R.epoch, R.stepSts, R.govSts, R.kFcSticky, R.ptcCtl, R.kPtcRate].contains o || decide (R.candMap ≤ o ∧ o < R.candMap + 20) ||
      decide (R.faultMap ≤ o ∧ o < R.faultMap + 20) || decide (R.kFcReact ≤ o ∧ o < R.kFcReact + 16)
  | .tile _ o => [R.fenceMap, R.fenceMap + 4, R.health, R.tileMemb].contains o
  | _ => false

/-- A counter of the keeper block. -/
def keepCtr (a : Nat) : Bool := match blkOf a with | .keep _ => true | _ => false

/-- The state that a MIRROR message carries. -/
def Panel.mirrorNow (p : Panel) : Mirror :=
  { regs := p.regs.filter (fun e => mirrored e.1 && keepCtr e.1), expels := p.keep.expels, notes := p.keep.notes, act := (p.coll 144).act,
    prst := (p.coll 144).prst, ctrs := (p.ctrs.filter (fun e => keepCtr e.1)).map (fun e => (e.1, e.2.n, e.2.ovf)),
    tags := p.host.cmds.map (·.key) }

/-- MIRROR: the standby keeper takes the mirrored state, and with it a heartbeat by the mesh (R419). -/
def execMirror (s : State) : Host.Outcome State Fault Refusal :=
  onPanel (fun p => if p.keeperState (1 - p.activeK) = 3 then
    p.updKeep (fun k => { k with mirror := some p.mirrorNow, beatMesh := p.now }) else p) s

/-- SKID_HEARTBEAT: a heartbeat word relayed over the skid (R419). -/
def execSkidHeartbeat (s : State) : Host.Outcome State Fault Refusal :=
  onPanel (fun p => p.updKeep (fun k => { k with beatSkid := p.now })) s

/-- The keeper block takes the mirrored state (R419, R484). -/
def Panel.restore (p : Panel) (m : Mirror) : Panel :=
  let p := p.clearRegs (fun a => keepCtr a && mirrored a)
  let p := p.each m.regs (fun p e => p.wr e.1 e.2)
  let p := p.clearCtrs keepCtr
  let p := { p with ctrs := m.ctrs.foldl (fun (s : SMap Ctr) (e : Nat × Nat × Bool) => sset (fun _ => Ctr.zero) s e.1 ⟨e.2.1, e.2.2⟩) p.ctrs }
  let p := p.updColl 144 (fun k => { k with act := m.act, prst := m.prst })
  p.updKeep (fun k => { k with expels := m.expels, notes := m.notes })

/-- KEEPER_TAKEOVER (R420): with no heartbeat on either path for 10 ms a standby keeper takes over. H-N relays the hold line, or the
former keeper's port is cut off; the epoch moves, then the commands in flight are aborted. -/
def Panel.takeover (p : Panel) (relayed : Bool) : Panel :=
  let old := p.activeK
  let new := 1 - old
  if p.keeperState new ≠ 3 ∨ p.now ≤ p.keep.beatMesh + 10000 ∨ p.now ≤ p.keep.beatSkid + 10000 then p
  else
    let p := match p.keep.mirror with | some m => p.restore m | none => p
    let p := (p.setKeeperState old 0).setTrust old .zero
    let p := if relayed then p
      else
        let t := if old = 0 then tileAt 0 6 else tileAt 11 6
        let port := if old = 0 then 3 else 1
        (p.updKeep (fun k => { k with cut := some (4 * t + port) })).each (List.range 8)
          (fun p k => p.linkDown (mkTileEnd t (8 * port + k)) 0)
    let sts := setBits (p.rd (p.ptcStsAt (164 + new))) 23 16 0
    let p := (p.setKeeperState new 2).gset R.keeperSts_active new
    let p := p.wr (keeperB + R.kPtcSts) sts
    let own := (p.trust new).header.getD []
    let ff : List Byte := List.replicate 32 255
    let zeros : List Byte := List.replicate 32 0
    let p := p.updKeep (fun k => { k with
      incomplete := true, signs := [], spdm := [], mirror := none, timeSeq := 0
      meas := [3, 4, 5, 6, 7].foldl (fun s i => sset (fun _ => zeros) s i ff)
        (sset (fun _ => zeros) (sset (fun _ => zeros) k.meas 1 own) 2 zeros) })
    let p := (p.updKeep (fun k => { k with
      changes := ⟨[], [], false, 0, 0, []⟩ :: (k.changes.filter (!·.made)).map (fun c => { c with cmds := [] }) })).epochInc
    let p := p.each (p.host.cmds.map (·.key)) (fun p k => p.cmdEnd k stResetAbort [])
    ((p.kcount 0x828).alert 4).panelEvent 24

/-- KEEPER_TAKEOVER (R420). -/
def execKeeperTakeover (relayed : Bool) (s : State) : Host.Outcome State Fault Refusal := onPanel (fun p => p.takeover relayed) s

end Sys2Proof.Machine
end

