-- ==== Sys2Proof/Machine/Power.lean ====
section
/-!
DEFINITION. Feeds, the underboard, tile power-up and power-off, trim cells, the image check of a core and the readiness of tiles (R269,
R293 to R303, R311, R317, R344, R358 to R362, R417).
-/
namespace Sys2Proof.Machine

open Sys2Proof

/-! OFF. -/

/-- The panel with every rail removed: nothing survives but the fuses, which stand elsewhere (R296, R368).  What the host holds, and
what it has been sent, is the host's. -/
def Panel.off (p : Panel) : Panel :=
  { Panel.zero with
    now := p.now, free := p.free
    host := { HostSt.zero with mem := p.host.mem, msix := p.host.msix, out := p.host.out, doe := p.host.doe } }

/-! Tile power-off. -/

/-- An address of a tile's block that holds what the keeper knows of the tile, and not what the tile itself holds. -/
def keptAtOff (o : Nat) : Bool := [R.fenceMap, R.fenceMap + 4, R.health, R.tileMemb].contains o

/-- A register or counter of a tile's block that is lost with its rails; of TILE_STS the role, ncore and bin stay, being the Tally's. -/
def lostAtOff (t a : Nat) : Bool :=
  decide (tileB t ≤ a ∧ a < tileB t + 0x40000) && !keptAtOff (a - tileB t) && a != tileB t

/-- A unit of a tile. -/
def ofTile (p : Panel) (t a : Nat) : Bool := (Ep.of a).panel == p.panelId && !(Ep.of a).isDie && (Ep.of a).tile == t

/-- A map without the keys lo to hi - 1. -/
def smapCut {α : Type} (m : SMap α) (lo hi : Nat) : SMap α := m.filter (fun e => !decide (lo ≤ e.1 ∧ e.1 < hi))

/-- A tile's rails are removed: all that its die and stack hold is lost. What waits for it completes with HW_FAULT. -/
def Panel.tileOff (p : Panel) (t : Nat) : Panel :=
  let p := p.swapFail t stHwFault
  let ks := p.host.cmds.map (·.key)
  let p := p.each (List.range 4) (fun p r => ((p.vfCut t r).cmdParts (p.region t r).cmds (partRegion t r) stHwFault))
  let p := p.each (List.range 64) (fun p c =>
    ((p.cmdParts ks (partReset t c) 0).cmdParts ks (partTest t c) 0).cmdParts ks (partRouter (rtrCore t c)) stHwFault)
  let p := { p with
    regs := p.regs.filter (fun e => !lostAtOff t e.1), ctrs := p.ctrs.filter (fun e => !lostAtOff t e.1)
    cores := smapCut p.cores (64 * t) (64 * t + 64), chans := smapCut p.chans (64 * t) (64 * t + 64)
    tiles := smapCut p.tiles t (t + 1), regions := smapCut p.regions (4 * t) (4 * t + 4)
    links := smapCut p.links (32 * t) (32 * t + 32), ptcs := smapCut p.ptcs t (t + 1)
    routers := smapCut p.routers (64 * t) (64 * t + 64), colls := smapCut p.colls t (t + 1)
    healths := smapCut p.healths t (t + 1)
    flights := p.flights.filter (fun f => !decide (f.loc < 9216 ∧ f.loc / 64 = t))
    awaits := p.awaits.filter (fun a => !ofTile p t a.src)
    msgs := p.msgs.filter (fun m => m.src != t && m.dst != t) }
  let p := p.wr (tileB t) (p.rd (tileB t) &&& 0x60FE000F)
  let p := (p.setMap (globB + R.readyMap) t false).setMap (keeperB + R.faultMap) t false
  let p := p.updKeep (fun k => { k with
    queue := k.queue.filter (· != t), holds := if k.queue.head? = some t then 0 else k.holds
    notes := sset (fun _ => none) k.notes t none, reports := sset (fun _ => none) k.reports t none
    changes := k.changes.map (fun c => { c with waits := c.waits.filter (· != t) }) })
  let p := p.cmdParts ks (partTile t) stHwFault
  ((p.settle).winDrain).queueStep

/-- A tile fails by a fatal fault that takes its rails (R297, R300, R333, R413). -/
def Panel.failTile (p : Panel) (t : Nat) : Panel := (p.expel t).tileOff t

/-! Clocks of nodes (R269). -/

/-- A bit of a node's PTC_STS: 31 valid, 30 holdover, 29 ref_lost, 28 pps_lost. -/
def Panel.ptcBit (p : Panel) (n i : Nat) : Bool := bit (p.rd (p.ptcStsAt n)) i
/-- That bit replaced. -/
def Panel.setPtcBit (p : Panel) (n i : Nat) (b : Bool) : Panel :=
  p.wr (p.ptcStsAt n) (setBits (p.rd (p.ptcStsAt n)) i i (b2n b))

/-- PLL_LOCK: a powered node's router PLL locks; its router domain and its time base run. -/
def Panel.pllLock (p : Panel) (n : Nat) : Panel :=
  let start (p : Panel) : Panel := if (p.ptc n).isSome then p else p.setPtc n (some ⟨0, 0, p.now⟩)
  if n < 144 then
    if (p.tile n).rails && !(p.tile n).pll then (start (p.updTile n (fun s => { s with pll := true }))).showLinks n else p
  else if (p.die (n - 144)).rails && !(p.die (n - 144)).pll then
    let p := p.updDie (n - 144) (fun d => { d with pll := true })
    if n = p.keeperNode then p else start p
  else p

/-- PLL_LOCK (R269). -/
def execPllLock (n : Node) (s : State) : Host.Outcome State Fault Refusal := onPanel (fun p => p.pllLock (nodeNum n)) s

/-- A node's PLL runs. -/
def Panel.nodePll (p : Panel) (n : Nat) : Bool := if n < 144 then (p.tile n).pll else (p.die (n - 144)).pll

/-- REF_LOST: no PREF_CLK edge for 1 µs; traffic goes on (R269). -/
def execRefLost (n : Node) (s : State) : Host.Outcome State Fault Refusal :=
  onPanel (fun p => if p.nodePll (nodeNum n) then (p.setPtcBit (nodeNum n) 29 true).setPtcBit (nodeNum n) 31 false else p) s

/-- REF_RETURN: the PLL relocks and ref_lost clears (R269). -/
def execRefReturn (n : Node) (s : State) : Host.Outcome State Fault Refusal :=
  onPanel (fun p => if p.nodePll (nodeNum n) then p.setPtcBit (nodeNum n) 29 false else p) s

/-! Feeds (R293 to R296). -/

/-- The state of a feed at a sample of its voltage in mV (Table 11.1): 0 GOOD, 1 LOW, 2 OVER, 3 LOST. -/
def feedClass (mv : Int) : Nat :=
  if 48000 ≤ mv then 3 else if 45000 < mv then 2 else if 40000 ≤ mv then 0 else if 37000 ≤ mv then 1 else 3

/-- The state after a sample: LOST is left only after 100 ms in GOOD or LOW; the first sample classes at once. -/
def feedNext (p : Panel) (old : Nat) (fine : Option Nat) (mv : Int) : Nat :=
  let c := feedClass mv
  if !p.keep.sampled || old != 3 then c
  else match fine with
    | some t => if t + 100000 ≤ p.now then c else 3
    | none => 3

/-- Since when a condition holds. -/
def sinceWhen (old : Option Nat) (now : Nat) (b : Bool) : Option Nat := if b then some (old.getD now) else none

/-- A voltage as FEED_STS shows it, in units of 0.25 V. -/
def feedShow (mv : Int) : Nat := min 255 (mv.toNat / 250)

/-- A cap that the keeper sends to every Warden at once (R296). -/
def Panel.capTiles (p : Panel) (code : Nat) : Panel :=
  p.each ((List.range 144).filter (fun t => (p.tile t).rails)) (fun p t => (p.updTile t (fun s => { s with kcap := code })).clkRefreshAll t)

/-- A feed enters LOST (R295). -/
def Panel.feedLost (p : Panel) (f : Fld) : Panel := ((p.kset f 1).kcount 0x800).panelEvent 15

/-- FEED_SAMPLE: the Lookout's sample of both feeds, in mV and A (R294 to R296). -/
def Panel.feedSample (p : Panel) (va vb : Int) (ia ib : Nat) : Panel :=
  let fine (old : Option Nat) (v : Int) := sinceWhen old p.now (decide (feedClass v ≤ 1))
  let good (old : Option Nat) (v : Int) := sinceWhen old p.now (decide (feedClass v = 0))
  let p := p.updKeep (fun k => { k with
    goodA := good k.goodA va, goodB := good k.goodB vb, fineA := fine k.fineA va, fineB := fine k.fineB vb })
  if !p.keep.ring then p
  else
    let oa := p.kget R.feedSts_sa
    let ob := p.kget R.feedSts_sb
    let na := feedNext p oa p.keep.fineA va
    let nb := feedNext p ob p.keep.fineB vb
    let was := p.keep.sampled
    let p := (((p.kset R.feedSts_va (feedShow va)).kset R.feedSts_vb (feedShow vb)).kset R.feedSts_sa na).kset R.feedSts_sb nb
    let p := (p.wr (keeperB + R.feedCur) (w32 (ia % 65536 * 65536 + ib % 65536))).updKeep (fun k => { k with sampled := true })
    let p := if was && oa != 3 && na == 3 then p.feedLost R.feedSts_lost_a else p
    let p := if was && ob != 3 && nb == 3 then p.feedLost R.feedSts_lost_b else p
    let both := na == 3 && nb == 3
    if both && !p.keep.dark then (p.updKeep (fun k => { k with dark := true })).capTiles 32
    else if !both && p.keep.dark then (p.updKeep (fun k => { k with dark := false })).capTiles p.keep.kcap
    else p

/-- FEED_SAMPLE (R294). A voltage beyond the absolute maximum ratings stops the machine (R514). -/
def execFeedSample (va vb : BitVec 32) (ia ib : BitVec 16) (s : State) : Host.Outcome State Fault Refusal :=
  let beyond (v : BitVec 32) : Bool := decide (v.toInt < -60000 ∨ 80000 < v.toInt)
  if beyond va || beyond vb then .fault .beyondAbsoluteMax
  else onPanel (fun p => p.feedSample va.toInt vb.toInt ia.toNat ib.toNat) s

/-- POWER_COLLAPSE: with both feeds LOST the bus reaches the converters' cutoff (R296). -/
def execPowerCollapse (s : State) : Host.Outcome State Fault Refusal :=
  onPanel (fun p => if p.keep.dark then p.off else p) s

/-! The underboard (R297, R300). -/

/-- IBC_FAILURE: a converter of stand segment 0 to 15, or of the ring's segment 16, fails (Table 11.2). -/
def Panel.ibcFailure (p : Panel) (seg : Nat) : Panel :=
  let n := sget (fun _ => 0) p.keep.ibc seg
  if !p.keep.ring || decide ((if seg = 16 then 4 else 3) ≤ n) then p
  else
    let p := p.updKeep (fun k => { k with ibc := sset (fun _ => 0) k.ibc seg (n + 1) })
    let p := if seg = 16 then p.kset R.ubSts_ring (min 3 (n + 1)) else p.orReg (keeperB + R.ubSts) (w32 (2 ^ (16 + seg)))
    let p := (p.kcount 0x800).panelEvent 15
    if seg = 16 then (if n + 1 ≥ 3 then p.off else p)
    else if n + 1 = 3 then p.each (standTiles seg) (fun p t => p.failTile t)
    else p

/-- IBC_FAILURE (R297). -/
def execIbcFailure (seg : Fin 17) (s : State) : Host.Outcome State Fault Refusal := onPanel (fun p => p.ibcFailure seg) s

/-- POL_FAULT: a converter of a tile site fails, of a powered tile or of the tile being powered. -/
def Panel.polFault (p : Panel) (t : Nat) : Panel :=
  if !(p.tile t).rails && p.keep.queue.head? != some t then p
  else (((p.kset R.ubSts_pol_tile t).kset R.ubSts_pol 1).panelEvent 14).failTile t

/-- POL_FAULT (R300). -/
def execPolFault (t : Fin 144) (s : State) : Host.Outcome State Fault Refusal := onPanel (fun p => p.polFault t) s

/-- ANALOG_TRIP: a comparator on a region's sensors reaches 115 °C (R333). -/
def execAnalogTrip (x : Rid) (s : State) : Host.Outcome State Fault Refusal :=
  onPanel (fun p => if (p.tile x.t).rails then ((p.kcount 0x818).panelEvent 17).failTile x.t else p) s

/-- REG_CELL_FAIL: one more of a region's 64 trim cells isolates itself; the 17th sends the region to DARK (R302, R303). -/
def Panel.cellFail (p : Panel) (t r : Nat) : Panel :=
  let n := p.rget t r R.regionPwr_cells
  if !(p.tile t).vcoreOn || decide (64 ≤ n) then p
  else
    let p := (((p.rset t r R.regionPwr_cells (n + 1)).count (regionB t r + 0x110) 1).regionEvent t r 14).clkRefresh t r
    if n + 1 = 17 then p.loseRegion t r else p

/-- REG_CELL_FAIL (R302). -/
def execRegCellFail (x : Rid) (s : State) : Host.Outcome State Fault Refusal := onPanel (fun p => p.cellFail x.t x.r) s

/-! Tile power-up (R299, R311, R358, R359). -/

/-- Word w of a tile's applied record (R358). -/
def Panel.recWord (p : Panel) (t w : Nat) : W64 := sget (fun _ => (0 : W64)) p.keep.applied (620 * t + w)
/-- Entry j of a list of an applied record that starts at a word (Table 13.5). -/
def Panel.recEntry (p : Panel) (t base j : Nat) : W32 := w32 (bits (p.recWord t (base + j / 2)) (32 * (j % 2) + 31) (32 * (j % 2)))

/-- The thermal coefficients of a tile start from its record (R329). -/
def Panel.startCoef (p : Panel) (t : Nat) : Panel :=
  let v (i : Nat) : Q := ⟨(bits (p.recWord t (10 + i / 4)) (16 * (i % 4) + 15) (16 * (i % 4)) : Nat), 65536⟩
  p.updTile t (fun s => { s with coef := tab 120 v })

/-- The Warden takes its record (R358): voltage points, thermal coefficients, and the DRAM remaps and Frepor spares of the lists and
then of the field records, without those whose spare an earlier entry has taken (R354). -/
def Panel.takeRecord (p : Panel) (t : Nat) : Panel :=
  let p := p.each (List.range 8) (fun p n => p.wr (tileB t + R.vfPoint + 4 * n) (w32 (p.recWord t (2 + n)).toNat &&& 0x03FF00FF))
  let p := p.startCoef t
  let field (kind : Nat) : List W32 := (List.range 4).filterMap (fun j =>
    let w := p.recWord t (40 + j)
    if bits w 63 60 = kind then some (w32 (bits w 31 0)) else none)
  let entries (base n kind : Nat) : List W32 := ((List.range n).map (p.recEntry t base) ++ field kind).filter (fun e => bit e 31)
  let p := p.each (entries 332 512 3) (fun p e =>
    p.updChan (cid t (bits e 30 25)) (fun h =>
      if h.remaps.any (fun m => m.bank == bits e 24 19 && m.spare == bits e 18 16) then h
      else { h with remaps := h.remaps ++ [⟨bits e 24 19, bits e 11 0, bits e 18 16, false⟩] }))
  p.each (entries 44 64 4) (fun p e =>
    let l := mkTileEnd t (8 * bits e 30 29 + bits e 28 26)
    (p.updLink l (fun s =>
      if s.rxMap.any (fun m => m.2 == bits e 25 23) then s else { s with rxMap := (bits e 22 15, bits e 25 23) :: s.rxMap })).showSpares l)

/-- TILE_RAILS_UP: VLINK of the tile being powered is in regulation, and its record and the epoch go to its Warden (R358, R405);
the keeper awaits its reports from now on (R407). -/
def Panel.railsUp (p : Panel) (t : Nat) : Panel :=
  if p.keep.queue.head? != some t || (p.tile t).rails || !p.segmentUp (standOf t) then p
  else
    let p := p.updTile t (fun s => { s with rails := true, vsram := 700, lastBudget := p.now, kcap := if p.keep.dark then 32 else 140 })
    ((p.tset t R.tileMemb_epoch p.epoch).takeRecord t).updKeep (fun k => { k with
      reports := sset (fun _ => none) k.reports t (some ⟨p.now, 2, 0, 0⟩) })

/-- TILE_RAILS_UP (R358). -/
def execTileRailsUp (t : Fin 144) (s : State) : Host.Outcome State Fault Refusal := onPanel (fun p => p.railsUp t) s

/-- VCORE of the tile being powered is enabled: in bring-up the regions of a serving tile are then powered to RUN (R359); a tile that a
POWER_STATE powers stands IDLE (R316). -/
def Panel.vcoreUp (p : Panel) (t : Nat) : Panel :=
  let p := p.updTile t (fun s => { s with vcoreOn := true })
  let asked := p.host.cmds.any (fun c => c.waits.contains (partTile t))
  let serving := p.tget t R.tileSts_unusable == 0 && p.tget t R.tileSts_reserve == 0
  let p := if serving && !asked then p.each (List.range 4) (fun p r => p.wakeRegion t r) else p
  p.queueStep

/-- Every RUN region of the neighbour tiles is forced to stretch level 1 (R311). -/
def Panel.tileForce (p : Panel) (t : Nat) : Panel :=
  p.each (p.tileNear t) (fun p u => p.each (List.range 4) (fun p r =>
    if p.rget u r R.regionState_state = 0 then (p.rset u r R.regionPwr_forced 1).showStretch u r else p))

/-- The keeper looks at a tile whose holds so far are n: `go` follows if no neighbour tile is in its peak window, or, after 200 µs of
holds, once they are forced; otherwise a µs is held, and `hold` records it (R311). -/
def Panel.admitGate (p : Panel) (t n : Nat) (hold : KeepSt → KeepSt) (go : Panel → Panel) : Panel :=
  if (p.tilePeak t).isEmpty then go p
  else if n < 200 then (p.kcount 0x808).updKeep hold
  else go (p.tileForce t)

/-- TILE_ADMIT: the tile being powered, before its VCORE, or a reserve that a swap brings up, before its regions (R311). -/
def Panel.tileAdmit (p : Panel) (t : Nat) : Panel :=
  if p.keep.queue.head? = some t ∧ (p.tile t).rails = true ∧ (p.tile t).vcoreOn = false then
    p.admitGate t p.keep.holds (fun k => { k with holds := k.holds + 1 }) (fun p => p.vcoreUp t)
  else
    match (p.swapOf t).bind (·.waited) with
    | none => p
    | some n => p.admitGate t n
        (fun k => { k with swaps := k.swaps.map (fun w => if w.r = t then { w with waited := some (n + 1) } else w) })
        (fun p => p.swapPower t)

/-- TILE_ADMIT (R311). -/
def execTileAdmit (t : Fin 144) (s : State) : Host.Outcome State Fault Refusal := onPanel (fun p => p.tileAdmit t) s

/-! The image check (R361). -/

/-- The first byte of a channel's image area. -/
def imgBase : Nat := 0x17E00000

/-- The program store's bundles of an image's first 32 KiB. -/
def imgBundles (ws : List W64) : List (BitVec 256) := (chunks 4 ws).map (fun c => BitVec.ofNat 256 (ofWords c))

/-- A core hashes its image area against the length and SHA-256 of the IMAGE step, and loads or zeroes its program store. -/
def Panel.imgLoad (p : Panel) (x : Cid) : Panel :=
  match p.keep.img with
  | none => p
  | some (len, sha) =>
    let (ws, bad, p) := p.chanReads x imgBase (ceilDiv (max len 32768) 64)
    if !bad && sha256 ((ws.flatMap (fun w => toBytes 8 w.toNat)).take len) == sha then
      p.updSeq x (fun q => q.setBundles 0 (imgBundles (ws.take 4096)))
    else
      (p.updSeq x (fun q => { q with prog := [], badPar := [] })).tset x.t R.tileSts_img_bad (min 64 (p.tget x.t R.tileSts_img_bad + 1))

/-- Two tiles are recorded as peers and the swap takes effect (R417 steps 3 and 4). -/
def Panel.swapDone (p : Panel) (w : Swap) : Panel :=
  let p := ((p.tset w.r R.tileMemb_in_service 1).tset w.r R.tileMemb_peer w.t).tset w.t R.tileMemb_peer w.r
  let p := (p.tset w.r R.checkCtl_policy (p.tget w.t R.checkCtl_policy)).checkEff w.r
  let p := ((p.tset w.r R.health_score 1000).healthStanding w.r)
  let p := p.dropSwap w.r
  (p.change [w.r, w.t] w.cmd.toList).memberEvent w.r 7

/-- The image checks of a tile have ended. -/
def Panel.imgEnd (p : Panel) (t : Nat) : Panel :=
  if !(p.tile t).imgWait.isEmpty then p
  else
    let p := p.tset t R.tileSts_img_done 1
    match p.swapOf t with
    | some w => if w.checking = true then p.swapDone w else p
    | none => p

/-- IMAGE_CHECK: a core that has been told to check its image does so, if its region is powered (R361). -/
def Panel.imgCheck (p : Panel) (x : Cid) : Panel :=
  if !(p.tile x.t).imgWait.contains x.c.val then p
  else ((if p.regionState x ≤ 1 then p.imgLoad x else p).updTile x.t (fun s => { s with imgWait := s.imgWait.filter (· != x.c.val) })).imgEnd x.t

/-- IMAGE_CHECK (R361). -/
def execImageCheck (x : Cid) (s : State) : Host.Outcome State Fault Refusal := onPanel (fun p => p.imgCheck x) s

/-- The usable cores of a tile are told to check their image. -/
def Panel.imgTell (p : Panel) (t : Nat) : Panel :=
  let cs := (List.range 64).filter (fun c => p.usable (cid t c))
  ((p.tset t R.tileSts_img_done 0).tset t R.tileSts_img_bad 0).updTile t (fun s => { s with imgWait := cs })

/-- The tile that a reserve copies the core image from: the lowest ready, unfenced serving tile of the stand, or of the panel (R417). -/
def Panel.imgSource (p : Panel) (r : Nat) : Option Nat :=
  let ok (t : Nat) : Bool := p.tget t R.tileSts_ready == 1 && p.serving t && t != r &&
    (List.range 64).all (fun c => !p.usable (cid t c) || !p.fenced (cid t c))
  match ((standTiles (standOf r)).filter ok).head? with
  | some t => some t
  | none => ((List.range 144).filter ok).head?

/-- The four regions of a reserve that is swapped in run: each usable core copies the image area of its channel and is told to check it
(R417 step 2). -/
def Panel.swapNext (p : Panel) (t : Nat) : Panel :=
  match p.swapOf t with
  | none => p
  | some w =>
    if w.checking = true ∨ !(List.range 4).all (fun r => p.rget t r R.regionState_state == 0) then p
    else
      let p := match p.imgSource t with
        | none => p
        | some u => p.each ((List.range 64).filter (fun c => p.usable (cid t c))) (fun p c =>
            let (ws, _, p) := p.chanReads (cid u c) imgBase 32768
            p.chanWrites (cid t c) imgBase (chunks 8 ws))
      ((p.updKeep (fun k => { k with
        swaps := k.swaps.map (fun v => if v.r = t then { w with checking := true } else v) })).imgTell t).imgEnd t

/-- REGION_WAKE_DONE (R326, R417). -/
def execRegionWakeDone (x : Rid) (s : State) : Host.Outcome State Fault Refusal :=
  onPanel (fun p => ((p.wakeDone x.t x.r).swapNext x.t).queueStep) s

/-! Ready (R362, R363, R317). -/

/-- TILE_READY: a tile whose training and image checks have ended, or which is DARK and has been given its routes, raises ready; the
first serving tile moves the panel to SERVE; a serving tile below 60 cores is expelled (R413). -/
def Panel.tileReady (p : Panel) (t : Nat) : Panel :=
  let p := if (p.tile t).pll then p.showLinks t else p
  let dark := (List.range 4).all (fun r => p.rget t r R.regionState_state == 3)
  let checked := if dark then (p.tile t).routed else p.tget t R.tileSts_img_done == 1
  if p.tget t R.tileSts_ready = 1 ∨ p.tget t R.tileSts_links_done = 0 ∨ checked = false ∨
      (List.range 64).any (fun c => (p.core (cid t c)).resetting) = true then p
  else
    let p := p.setReady t true
    let serves := p.tget t R.tileSts_unusable = 0 ∧ p.tget t R.tileSts_reserve = 0
    let p := if serves ∧ p.keep.served = false then
        (p.updKeep (fun k => { k with served := true })).wr (keeperB + R.panelState)
          (if p.rd (keeperB + R.panelState) = 1 then 0 else p.rd (keeperB + R.panelState))
      else p
    p.floorCheck t

/-- TILE_READY (R362). -/
def execTileReady (t : Fin 144) (s : State) : Host.Outcome State Fault Refusal := onPanel (fun p => p.tileReady t) s

end Sys2Proof.Machine
end

