-- ==== Sys2Proof/Machine/Time.lean ====
section
/-!
DEFINITION. Panel time: the master, the time tree, TIME messages and PPS_IN (R280 to R292).
-/
namespace Sys2Proof.Machine

open Sys2Proof

/-! Links that carry time. -/

/-- The end of sub-link k by which a node's port leads out: port q of tile n, or the one port of ring die n - 144. -/
def timeEnd (n q k : Nat) : LinkEnd := if n < 144 then mkTileEnd n (8 * q + k) else mkDieEnd (n - 144) k

/-- The node across port q of a node. -/
def timeAcross (n q : Nat) : Option Nat :=
  if n < 144 then
    match tileAcross n q, dieOn n q with
    | some u, _ => some u
    | none, some d => some (144 + d)
    | none, none => none
  else some (dieTile (n - 144))

/-- The lowest-numbered ACTIVE sub-link of a port with time sync negotiated (R282). -/
def Panel.timeSub (p : Panel) (n q : Nat) : Option Nat :=
  (List.range 8).find? (fun k => p.linkState (timeEnd n q k) == 8 && p.timeSync (timeEnd n q k))

/-- A TIME message handed to the chosen sub-link of a port (R283): hops, flags, rate, count and the sub-link; discarded where there is
none. -/
def Panel.timeSend (p : Panel) (n q hops rate seq : Nat) : Panel :=
  match timeAcross n q, p.timeSub n q with
  | some m, some k => p.send ⟨0x20, n, m, [hops, b2n (p.ptcBit n 31) + 2 * b2n (p.ptcBit n 30), rate, seq, k]⟩
  | _, _ => p

/-! The tree (R282, R285). -/

/-- A tile's place in the tree loaded, given the parent port of every tile. -/
def Panel.loadTree (p : Panel) (par : Nat → Option Nat) (t : Nat) : Panel :=
  let up := par t
  let fwd := (List.range 4).filter (fun q =>
    up != some q && (match timeAcross t q with
      | some m => if m < 144 then par m == some (oppPort q) else (p.timeSub t q).isSome
      | none => false))
  let sub := match up with | some q => (p.timeSub t q).getD 0 | none => 0
  let v := (fwd.foldl (fun v q => v + 2 ^ (8 + q)) 0) + sub * 16 + up.getD 7
  p.wr (tileB t + R.timeTree) (w32 v)

/-- The tree loaded into every powered tile. -/
def Panel.loadTrees (p : Panel) (par : Nat → Option Nat) : Panel :=
  p.each ((List.range 144).filter (fun t => (p.tile t).rails)) (fun p t => p.loadTree par t)

/-- The parent port of a tile in the default tree under the active keeper (R282). -/
def defaultParent (k t : Nat) : Option Nat :=
  if tileY t = 6 then some (if k = 0 then 3 else 1) else if tileY t < 6 then some 2 else some 0

/-- The shortest-path tree: tiles reached in n more rounds, with their parent ports, ties in the port order N, E, S, W. -/
def Panel.growTree (p : Panel) : Nat → List (Nat × Nat) → List Nat → List (Nat × Nat)
  | 0, tree, _ => tree
  | n + 1, tree, last =>
    let new := ((List.range 144).filter (fun t => !tree.any (fun e => e.1 == t))).filterMap (fun t =>
      ((List.range 4).find? (fun q => (p.timeSub t q).isSome && (match tileAcross t q with | some u => last.contains u | none => false))).map
        (fun q => (t, q)))
    if new.isEmpty then tree else p.growTree n (tree ++ new) (new.map (·.1))

/-- The tree from the master over ACTIVE sub-links with time sync (R285). -/
def Panel.timeTree (p : Panel) : List (Nat × Nat) :=
  let d := p.keeperNode - 144
  if (p.timeSub (dieTile d) (diePort d)).isSome then p.growTree 144 [(dieTile d, diePort d)] [dieTile d] else []

/-- TIME_TREE_REFORM (R285, R291). -/
def Panel.treeReform (p : Panel) : Panel :=
  if (p.ptc p.keeperNode).isNone then p
  else
    let tree := p.timeTree
    p.loadTrees (fun t => (tree.find? (fun e => e.1 == t)).map (·.2))

/-- TIME_TREE_REFORM (R285). -/
def execTimeTreeReform (s : State) : Host.Outcome State Fault Refusal := onPanel (fun p => p.treeReform) s

/-- The master sends a TIME message to its tile (R283). -/
def Panel.masterSend (p : Panel) : Panel :=
  let n := p.keeperNode
  if (p.ptc n).isNone then p
  else
    let seq := (p.keep.timeSeq + 1) % 65536
    (p.updKeep (fun k => { k with timeSeq := seq })).timeSend n 0 0 (p.rd (p.ptcRateAt n)).toNat seq

/-- TIME_TICK (R283). -/
def execTimeTick (s : State) : Host.Outcome State Fault Refusal := onPanel (fun p => p.masterSend) s

/-! Following the tree (R284). -/

/-- The PTC_STEP counter of a node, where it has one. -/
def Panel.ptcStepped (p : Panel) (n : Nat) : Panel :=
  if n < 144 then p.tcount n 0x820 else if n = p.keeperNode then p.kcount 0x810 else p

/-- A copy stepped by e sixteenths of a ns. -/
def Ptc.step (c : Ptc) (e : Int) : Ptc := { c with val := (((c.val : Int) + e * 10 ^ 9) % (ptcMod : Int)).toNat, slew := 0 }

/-- A node takes a correction of e sixteenths of a ns: it slews where the correction is within a limit, or steps and becomes valid while it has its reference. -/
def Panel.ptcAlign (p : Panel) (n lim : Nat) (e : Int) : Panel :=
  match p.ptc n with
  | none => p
  | some c =>
    let a := p.ptcStsAt n
    let p := p.wr a (setBits (p.rd a) 15 0 (((max (-32768) (min 32767 e)) % 65536).toNat))
    if p.ptcBit n 31 && decide (e.natAbs ≤ lim) then p.setPtc n (some { c with slew := e, last := p.now })
    else
      let p := (p.setPtc n (some { c.step e with last := p.now })).ptcStepped n
      if p.ptcBit n 29 then p else p.setPtcBit n 31 true

/-- The offset between a sender's stamp and a receiver's, both in sixteenths of a ns modulo 2^64 ns, with a link delay in ps, rounded
to a sixteenth of a ns. -/
def timeOffset (ttx trx : BitVec 68) (delay : Nat) : Int := (ttx - trx).toInt + ((4 * delay + 125) / 250 : Nat)

/-- Whether a TIME message is accepted at a node: from its parent, on the sub-link in use, from a valid sender out of holdover, with the
link's delay known. -/
def Panel.timeOk (p : Panel) (n : Nat) (m : Msg) : Bool :=
  let q := if n < 144 then p.tget n R.timeTree_parent else 0
  let k := m.at 4
  decide (q < 4) && timeAcross n q == some m.src && decide (m.at 1 % 4 = 1) && p.nget (timeEnd n q k) R.linkDelay_valid == 1 &&
    (decide (144 ≤ n) || p.tget n R.timeTree_sub == k || p.linkState (timeEnd n q (p.tget n R.timeTree_sub)) != 8)

/-- TIME: the oldest TIME message to a node, with the stamps that the two sub-links wrote. -/
def Panel.timeIn (p : Panel) (n : Nat) (ttx trx : BitVec 68) : Panel :=
  match p.msgs.find? (fun m => m.kind == 0x20 && m.dst == n) with
  | none => p
  | some m =>
    let p := p.takeMsg m
    if !p.timeOk n m || (p.ptc n).isNone || n == p.keeperNode then p
    else
      let q := if n < 144 then p.tget n R.timeTree_parent else 0
      let p := if n < 144 then p.tset n R.timeTree_sub (m.at 4) else p
      let p := p.ptcAlign n 1024 (timeOffset ttx trx (p.nget (timeEnd n q (m.at 4)) R.linkDelay_delay))
      let a := p.ptcStsAt n
      let p := p.wr a (setBits (setBits (p.rd a) 23 16 (min 255 (m.at 0 + 1))) 30 30 0)
      let p := p.wr (p.ptcRateAt n) (w32 (m.at 2))
      if n < 144 then
        p.each ((List.range 4).filter (fun f => (p.tget n R.timeTree_fwd).testBit f))
          (fun p f => p.timeSend n f (min 255 (m.at 0 + 1)) (m.at 2) (m.at 3))
      else p

/-- TIME (R284). -/
def execTime (n : Node) (ttx trx : BitVec 68) (s : State) : Host.Outcome State Fault Refusal :=
  onPanel (fun p => p.timeIn (nodeNum n) ttx trx) s

/-- TIME_HOLDOVER: a node that has accepted no TIME message for 3 ms (R285). -/
def Panel.timeHoldover (p : Panel) (n : Nat) : Panel :=
  match p.ptc n with
  | some c => if n ≠ p.keeperNode ∧ c.last + 3000 ≤ p.now then p.setPtcBit n 30 true else p
  | none => p

/-- TIME_HOLDOVER (R285). -/
def execTimeHoldover (n : Node) (s : State) : Host.Outcome State Fault Refusal := onPanel (fun p => p.timeHoldover (nodeNum n)) s

/-! The master (R281, R287, R288). -/

/-- The master starts from a value in ns, valid, with the default tree and its first TIME message. -/
def Panel.ptcStart (p : Panel) (v : Nat) : Panel :=
  let n := p.keeperNode
  let p := p.setPtc n (some ⟨v % 2 ^ 64 * Sys2Proof.Machine.ptcNs, 0, p.now⟩)
  let p := if p.ptcBit n 29 then p else p.setPtcBit n 31 true
  (p.loadTrees (defaultParent p.activeK)).masterSend

/-- PTC_CTL.src. -/
def Panel.timeSrc (p : Panel) : Nat := p.kget R.ptcCtl_src

/-- A rate held to ±200,000 ppb (R288). -/
def clampRate (r : Int) : W32 := BitVec.ofInt 32 (max (-200000) (min 200000 r))

/-- PPS_EDGE: an edge of PPS_IN, ns past the present µs: the master is captured, and in PPS_ALIGN stepped or steered.  How the keeper
measures the frequency error of its time base is not stated: a free value (R288). -/
def Panel.ppsEdge (p : Panel) (frac : Nat) : Panel :=
  let n := p.keeperNode
  match p.ptc n with
  | none => p
  | some c =>
    let cap := (c.ns + frac) % 2 ^ 64
    let p := (p.wr (keeperB + R.ptcPpsCap) (w32 cap)).wr (keeperB + R.ptcPpsCap + 4) (w32 (cap / 2 ^ 32))
    let p := (p.updKeep (fun k => { k with ppsAt := p.now })).setPtcBit n 28 false
    if p.timeSrc ≠ 2 then p
    else
      let m : Nat := cap % 1000000000
      let e : Int := if m > 500000000 then (m : Int) - 1000000000 else (m : Int)
      if e.natAbs > 1000000 then (p.setPtc n (some (c.step (-16 * e)))).ptcStepped n
      else (p.wr (keeperB + R.kPtcRate) (clampRate (-e / 16 + (signed 32 (Config.freeWord p.free).toNat)))).tookFree

/-- PPS_EDGE (R288). -/
def execPpsEdge (frac : Fin 1000) (s : State) : Host.Outcome State Fault Refusal := onPanel (fun p => p.ppsEdge frac) s

/-- PPS_LOST: no edge for 3 s (R288). -/
def execPpsLost (s : State) : Host.Outcome State Fault Refusal :=
  onPanel (fun p => if p.keep.ring ∧ p.keep.ppsAt + 3000000 ≤ p.now then p.setPtcBit p.keeperNode 28 true else p) s

end Sys2Proof.Machine
end

