-- ==== Sys2Proof/Machine/Trust.lean ====
section
/-!
DEFINITION. Keys, signed images, measurements, the signing service and SPDM (R466 to R477).
-/
namespace Sys2Proof.Machine

open Sys2Proof

/-! Keys (R467, R468). -/

/-- The bytes of ASCII text. -/
def ascii (s : String) : List Byte := s.toList.map (fun c => BitVec.ofNat 8 c.toNat)

/-- The seed material of the DeviceID key. -/
def deviceSeed (f : Fuses) : List Byte := hkdf [] f.uds (ascii "HLN2 DeviceID") 72
/-- The DeviceID public key, the identity of the panel. -/
def devicePub (f : Fuses) : List Byte := Config.slhPublic (deviceSeed f)
/-- The identity digest (R454). -/
def identOf (f : Fuses) : Nat := ofBytes ((sha256 (devicePub f)).take 8)
/-- Measurement 0. -/
def romHash : List Byte := sha256 Config.maskRom
/-- The CDI of a keeper that runs an image of a signed header's digest and an SVN. -/
def cdi (f : Fuses) (header : List Byte) (svn : Nat) : List Byte := hmac f.uds (romHash ++ header ++ toBytes 4 svn)
/-- The seed material of its alias key. -/
def aliasSeed (f : Fuses) (header : List Byte) (svn : Nat) : List Byte := hkdf [] (cdi f header svn) (ascii "HLN2 Alias") 72

/-- DEVICEID_DERIVED: of a keeper that has left reset (R467). -/
def execDeviceidDerived (k : Fin 2) (s : State) : Host.Outcome State Fault Refusal :=
  onPanel (fun p => if p.keep.ring then p.setTrust k { p.trust k with devid := true } else p) s

/-- ALIAS_DERIVED: of a keeper whose image runs (R467). -/
def execAliasDerived (k : Fin 2) (s : State) : Host.Outcome State Fault Refusal :=
  onPanel (fun p => if (p.trust k).devid ∧ (p.trust k).header.isSome ∧ 2 ≤ p.keeperState k then
    p.setTrust k { p.trust k with akey := true } else p) s

/-- The alias key's seed material on the active keeper. -/
def Panel.aliasNow (p : Panel) (f : Fuses) : List Byte :=
  let t := p.trust p.activeK
  aliasSeed f (t.header.getD []) t.svn
/-- The alias certificate of the active keeper. -/
def Panel.aliasCertNow (p : Panel) (f : Fuses) : List Byte :=
  Config.aliasCert (deviceSeed f) (Config.slhPublic (p.aliasNow f)) romHash ((p.trust p.activeK).header.getD [])

/-! Signed images (R470 to R472). -/

/-- The n bytes of a list from a place. -/
def slice (bs : List Byte) (a n : Nat) : List Byte := (bs.drop a).take n
/-- The number of n bytes from a place. -/
def num (bs : List Byte) (a n : Nat) : Nat := ofBytes (slice bs a n)

/-- The SVN_MIN of keeper k: the number of bits set. -/
def Fuses.svn (f : Fuses) (k : Nat) : Nat := if k = 0 then f.svnA else f.svnB

/-- The key hash that permits a signer's public key: KEYHASHn with its KEYREV bit clear. -/
def Fuses.permits (f : Fuses) (spk : List Byte) : Option Nat :=
  (List.range 4).find? (fun n => f.keyHash[n]? == some (sha256 spk) && !bit f.keyRev n)

/-- The checks of R471 on a signed layout of a kind, for keeper k: the header's digest, the SVN, the key hash's index and whether the
SVN is to be committed; none where a check fails. -/
def verifyImage (f : Fuses) (k kind : Nat) (img : List Byte) : Option (List Byte × Nat × Nat × Bool) :=
  let h := img.take 256
  let blen := num img 12 4
  let body := slice img 256 blen
  let spk := slice img 48 48
  let zeros := num img 7 1 = 0 ∧ num img 96 160 = 0 ∧ num img 6 1 < 2
  if num img 0 4 ≠ 0x4E32484C ∨ num img 5 1 ≠ 1 ∨ num img 4 1 ≠ kind ∨ ¬zeros then none
  else if img.length ≠ 256 + blen + 16224 then none
  else match f.permits spk with
    | none => none
    | some idx =>
      let svn := num img 8 4
      if svn < f.svn k ∨ slice img 16 32 ≠ sha256 body ∨ Config.slhVerify spk h (slice img (256 + blen) 16224) = false then none
      else some (sha256 h, svn, idx, num img 6 1 == 1)

/-- The fuses after keeper k commits an SVN (R472). -/
def Fuses.commit (f : Fuses) (k svn : Nat) : Fuses :=
  if k = 0 then { f with svnA := max f.svnA (min svn 64) } else { f with svnB := max f.svnB (min svn 64) }

/-! Measurement registers (R473, R474). -/

/-- 32 bytes of zero. -/
def zeros32 : List Byte := List.replicate 32 0
/-- A measurement register. -/
def Panel.meas (p : Panel) (i : Nat) : List Byte := sget (fun _ => zeros32) p.keep.meas i
/-- A measurement register written. -/
def Panel.setMeas (p : Panel) (i : Nat) (v : List Byte) : Panel :=
  p.updKeep (fun k => { k with meas := sset (fun _ => zeros32) k.meas i v })
/-- A measurement register extended. -/
def Panel.extend (p : Panel) (i : Nat) (x : List Byte) : Panel := p.setMeas i (sha256 (p.meas i ++ x))

/-- A keeper takes a verified image: it runs it, and its measurement follows (R473). -/
def Panel.takeImage (p : Panel) (k : Nat) (v : List Byte × Nat × Nat × Bool) : Panel :=
  let p := p.setTrust k { p.trust k with header := some v.1, svn := v.2.1, khash := v.2.2.1, akey := false }
  p.setMeas (if k = p.activeK then 1 else 2) v.1

/-! Signing (R475, R476). -/

/-- The signing service can take a request: the alias key exists and fewer than 4 wait behind the one being signed. -/
def Panel.canSign (p : Panel) : Bool := (p.trust p.activeK).akey && decide (p.keep.signs.length < 5)

/-- A request joins the queue. -/
def Panel.addSign (p : Panel) (r : SignReq) : Panel := p.updKeep (fun k => { k with signs := k.signs ++ [r] })

/-- Bytes 0 to 399 of the attestation report for a nonce and a total length (Table 19.5). -/
def Panel.reportHead (p : Panel) (f : Fuses) (nonce : List Byte) (total : Nat) : List Byte :=
  let flags := b2n p.keep.incomplete + 2 * b2n ((p.trust (1 - p.activeK)).header.isNone)
  let ready := (List.range 18).map (fun j => BitVec.ofNat 8 ((List.range 8).foldl (fun v i =>
    v + b2n (p.tget (8 * j + i) R.tileSts_ready == 1) * 2 ^ i) 0))
  toBytes 2 1 ++ toBytes 1 flags ++ toBytes 1 (bits (p.rd (keeperB + R.panelState)) 1 0) ++ toBytes 4 total ++
    toBytes 8 (p.ptcNs p.keeperNode) ++ toBytes 2 p.panelId ++ toBytes 2 p.epoch ++ toBytes 1 p.activeK ++
    toBytes 1 (f.svn p.activeK) ++ toBytes 1 (p.trust p.activeK).khash ++ [0] ++ toBytes 8 (identOf f) ++
    (nonce ++ zeros32).take 32 ++ (List.range 8).flatMap (fun i => p.meas i) ++ ready ++ List.replicate 14 0 ++
    Config.slhPublic (p.aliasNow f)

/-! SPDM (R477). The message layouts are those of DMTF DSP0274 version 1.3. -/

/-- A connection. -/
def Panel.conn (p : Panel) (port : Nat) : Spdm := sget (fun _ => Spdm.zero) p.keep.spdm port
/-- A connection replaced. -/
def Panel.setConn (p : Panel) (port : Nat) (c : Spdm) : Panel :=
  p.updKeep (fun k => { k with spdm := sset (fun _ => Spdm.zero) k.spdm port c })
/-- A response sent on a port. -/
def Panel.doe (p : Panel) (port : Nat) (m : List Byte) : Panel := { p with host := { p.host with doe := p.host.doe ++ [(port, m)] } }

/-- An ERROR response: 1 InvalidRequest, 3 Busy, 4 UnexpectedRequest, 7 UnsupportedRequest. -/
def spdmError (code : Nat) : List Byte := [0x13, 0x7F, BitVec.ofNat 8 code, 0]

/-- A response that exceeds the data transfer size is held for CHUNK_GET, and the requester is told so. -/
def Panel.reply (p : Panel) (port : Nat) (m : List Byte) : Panel :=
  if m.length ≤ 4096 then p.doe port m
  else (p.setConn port { p.conn port with outbound := m, outSeq := 0 }).doe port [0x13, 0x7F, 0x0F, 0, 1]

/-- The certificate chain of slot 0: length, root hash, Tamvel's root, the DeviceID certificate and the alias certificate. -/
def Panel.certChain (p : Panel) (f : Fuses) : List Byte :=
  let certs := f.root ++ f.cert ++ p.aliasCertNow f
  toBytes 2 (certs.length + 36) ++ [0, 0] ++ sha256 f.root ++ certs

/-- GET_VERSION: one version, 1.3; the connection starts anew. -/
def spdmVersion (port : Nat) (req : List Byte) (p : Panel) : Panel :=
  let rsp : List Byte := [0x10, 0x04, 0, 0, 0, 1, 0x00, 0x13]
  (p.setConn port { Spdm.zero with stage := 1, vca := req ++ rsp }).doe port rsp

/-- GET_CAPABILITIES: the capabilities of Table 19.6; the time exponent is not stated and is free. -/
def spdmCaps (port : Nat) (req : List Byte) (p : Panel) : Panel :=
  let c := p.conn port
  if c.stage ≠ 1 then p.doe port (spdmError 4)
  else
    let rsp := [0x13, 0x61, 0, 0, 0, BitVec.ofNat 8 (Config.freeBelow 256 p.free), 0, 0] ++ toBytes 4 0x20016 ++ toBytes 4 4096 ++
      toBytes 4 65536
    ((p.tookFree.setConn port { c with stage := 2, vca := c.vca ++ req ++ rsp }).doe port rsp)

/-- NEGOTIATE_ALGORITHMS: SHA-256, and the extended algorithm where the requester offers it. -/
def spdmAlgs (port : Nat) (req : List Byte) (p : Panel) : Panel :=
  let c := p.conn port
  if c.stage ≠ 2 then p.doe port (spdmError 4)
  else
    let n := num req 28 1
    let ext := (List.range n).any (fun i => num req (32 + 4 * i) 4 == Config.slhAlg.toNat)
    let meas := num req 6 1 % 2
    let hash := num req 12 4 % 2
    let rsp := [0x13, 0x63, 0, 0] ++ toBytes 2 (36 + 4 * b2n ext) ++ toBytes 1 meas ++ [0] ++ toBytes 4 2 ++ toBytes 4 0 ++
      toBytes 4 hash ++ List.replicate 12 0 ++ toBytes 1 (b2n ext) ++ [0, 0, 0] ++ (if ext then toBytes 4 Config.slhAlg.toNat else [])
    (p.setConn port { c with stage := 3, ext := ext, vca := c.vca ++ req ++ rsp }).doe port rsp

/-- GET_DIGESTS: the digest of slot 0's chain. -/
def spdmDigests (f : Fuses) (port : Nat) (req : List Byte) (p : Panel) : Panel :=
  let c := p.conn port
  if c.stage ≠ 3 then p.doe port (spdmError 4)
  else if !(p.trust p.activeK).akey then p.doe port (spdmError 3)
  else
    let rsp := [0x13, 0x01, 1, 1] ++ sha256 (p.certChain f)
    (p.setConn port { c with certs := c.certs ++ req ++ rsp }).doe port rsp

/-- GET_CERTIFICATE: a portion of slot 0's chain. -/
def spdmCert (f : Fuses) (port : Nat) (req : List Byte) (p : Panel) : Panel :=
  let c := p.conn port
  let chain := p.certChain f
  let off := num req 4 2
  if c.stage ≠ 3 then p.doe port (spdmError 4)
  else if !(p.trust p.activeK).akey then p.doe port (spdmError 3)
  else if num req 2 1 ≠ 0 ∨ chain.length ≤ off then p.doe port (spdmError 1)
  else
    let n := min (min (num req 6 2) (chain.length - off)) 4088
    let rsp := [0x13, 0x02, 0, 0] ++ toBytes 2 n ++ toBytes 2 (chain.length - off - n) ++ slice chain off n
    (p.setConn port { c with certs := c.certs ++ req ++ rsp }).doe port rsp

/-- A responder's nonce: 32 free bytes. -/
def Panel.nonce (p : Panel) : List Byte := (List.range 4).flatMap (fun i => toBytes 8 (Config.freeWord (p.free + i)).toNat)

/-- The DMTF measurement block of index i, 1 to 8 (Table 19.4). -/
def Panel.measBlock (p : Panel) (i : Nat) : List Byte :=
  let kind : Byte := match i with | 1 => 0 | 2 => 1 | 3 => 1 | 4 => 1 | 5 => 2 | _ => 3
  [BitVec.ofNat 8 i, 1, 35, 0, kind, 32, 0] ++ p.meas (i - 1)

/-- What is signed: the SPDM prefix, the context of the message, and the digest of a transcript. -/
def spdmToSign (context : String) (log : List Byte) : List Byte :=
  let prefix_ := ascii "dmtf-spdm-v1.3.*" ++ ascii "dmtf-spdm-v1.3.*" ++ ascii "dmtf-spdm-v1.3.*" ++ ascii "dmtf-spdm-v1.3.*"
  let ctx := ascii context
  prefix_ ++ List.replicate (36 - ctx.length) 0 ++ ctx ++ sha256 log

/-- CHALLENGE: a signed response over the connection's transcript. -/
def spdmChallenge (f : Fuses) (port : Nat) (req : List Byte) (p : Panel) : Panel :=
  let c := p.conn port
  let what := num req 3 1
  if c.stage ≠ 3 then p.doe port (spdmError 4)
  else if !c.ext then p.doe port (spdmError 7)
  else if num req 2 1 ≠ 0 ∨ (what ≠ 0 ∧ what ≠ 1 ∧ what ≠ 0xFF) then p.doe port (spdmError 1)
  else if !p.canSign then p.doe port (spdmError 3)
  else
    let idx := if what = 1 then [1] else List.range' 1 8
    let sum := if what = 0 then [] else sha256 (idx.flatMap (fun i => p.measBlock i))
    let body := [0x13, 0x03, 0, 1] ++ sha256 (p.certChain f) ++ p.nonce ++ sum ++ [0, 0] ++ slice req 36 8
    let p := { p with free := p.free + 4 }
    let r : SignReq := ⟨none, port, spdmToSign "responder-challenge_auth signing" (c.vca ++ c.certs ++ req ++ body), body, [], 0⟩
    (p.setConn port { c with certs := [] }).addSign r

/-- GET_MEASUREMENTS: the registers asked for, signed where the request asks it. -/
def spdmMeas (port : Nat) (req : List Byte) (p : Panel) : Panel :=
  let c := p.conn port
  let op := num req 3 1
  let sig := num req 2 1 % 2 == 1
  if c.stage ≠ 3 then p.doe port (spdmError 4)
  else if 8 < op ∧ op ≠ 0xFF then p.doe port (spdmError 1)
  else if sig && !c.ext then p.doe port (spdmError 7)
  else if sig && !p.canSign then p.doe port (spdmError 3)
  else
    let idx := if op = 0 then [] else if op = 0xFF then List.range' 1 8 else [op]
    let rec_ := idx.flatMap (fun i => p.measBlock i)
    let ctx := if sig then slice req 37 8 else slice req 4 8
    let rsp := [0x13, 0x60, (if op = 0 then 8 else 0), 0] ++ toBytes 1 idx.length ++ toBytes 3 rec_.length ++ rec_ ++ p.nonce ++ [0, 0] ++ ctx
    let p := { p with free := p.free + 4 }
    let log := c.mlog ++ req ++ rsp
    if sig then
      (p.setConn port { c with mlog := [] }).addSign
        ⟨none, port, spdmToSign "responder-measurements signing" (c.vca ++ log), rsp, [], 0⟩
    else (p.setConn port { c with mlog := log }).reply port rsp

/-- A request by its code; others are not supported. -/
def spdmRequest (f : Fuses) (port : Nat) (req : List Byte) (p : Panel) : Panel :=
  match num req 1 1 with
  | 0x84 => spdmVersion port req p
  | 0xE1 => spdmCaps port req p
  | 0xE3 => spdmAlgs port req p
  | 0x81 => spdmDigests f port req p
  | 0x82 => spdmCert f port req p
  | 0x83 => spdmChallenge f port req p
  | 0xE0 => spdmMeas port req p
  | _ => p.doe port (spdmError 7)

/-- CHUNK_SEND: a piece of a large request; the last hands the whole to its handler, whose answer the acknowledgement carries. -/
def spdmChunkSend (f : Fuses) (port : Nat) (req : List Byte) (p : Panel) : Panel :=
  let c := p.conn port
  let seq := num req 4 2
  let n := num req 8 4
  let data := slice req (if seq = 0 then 16 else 12) n
  let ack (early : Byte) : List Byte := [0x13, 0x05, early] ++ slice req 3 1 ++ toBytes 2 seq
  if c.stage = 0 then p.doe port (spdmError 4)
  else if (seq ≠ 0 ∧ seq ≠ c.inSeq) ∨ data.length ≠ n ∨ 65536 < c.inbound.length + n then
    (p.setConn port { c with inbound := [], inSeq := 0 }).doe port (ack 1 ++ spdmError 1)
  else
    let all := (if seq = 0 then [] else c.inbound) ++ data
    if num req 2 1 % 2 = 0 then (p.setConn port { c with inbound := all, inSeq := seq + 1 }).doe port (ack 0)
    else
      let q := spdmRequest f port all (p.setConn port { c with inbound := [], inSeq := 0 })
      let k := p.host.doe.length
      { q with host := { q.host with doe := p.host.doe ++ [(port, ack 0 ++ (q.host.doe.drop k).flatMap (·.2))] } }

/-- CHUNK_GET: the next piece of a large response. -/
def spdmChunkGet (port : Nat) (req : List Byte) (p : Panel) : Panel :=
  let c := p.conn port
  let seq := num req 4 2
  if c.outbound.isEmpty || seq != c.outSeq then p.doe port (spdmError 1)
  else
    let size := if seq = 0 then 4080 else 4084
    let off := if seq = 0 then 0 else 4080 + 4084 * (seq - 1)
    let d := slice c.outbound off size
    let last := decide (c.outbound.length ≤ off + size)
    let rsp := [0x13, 0x06, BitVec.ofNat 8 (b2n last)] ++ slice req 3 1 ++ toBytes 2 seq ++ [0, 0] ++ toBytes 4 d.length ++
      (if seq = 0 then toBytes 4 c.outbound.length else []) ++ d
    (p.setConn port (if last then { c with outbound := [], outSeq := 0 } else { c with outSeq := seq + 1 })).doe port rsp

/-- A handler of SPDM runs: the active keeper runs its image and the port's link is up. -/
def onSpdm (port : Fin 4) (h : Fuses → Panel → Panel) (s : State) : Host.Outcome State Fault Refusal :=
  onFused (fun f p => if p.keeperState p.activeK = 2 ∧ sget (fun _ => false) p.host.up port = true then h f p else p) s

/-- GET_VERSION (R477). -/
def execGetVersion (port : Fin 4) (req : List (BitVec 8)) (s : State) : Host.Outcome State Fault Refusal :=
  onSpdm port (fun _ => spdmVersion port req) s
/-- GET_CAPABILITIES (R477). -/
def execGetCapabilities (port : Fin 4) (req : List (BitVec 8)) (s : State) : Host.Outcome State Fault Refusal :=
  onSpdm port (fun _ => spdmCaps port req) s
/-- NEGOTIATE_ALGORITHMS (R477). -/
def execNegotiateAlgorithms (port : Fin 4) (req : List (BitVec 8)) (s : State) : Host.Outcome State Fault Refusal :=
  onSpdm port (fun _ => spdmAlgs port req) s
/-- GET_DIGESTS (R477). -/
def execGetDigests (port : Fin 4) (req : List (BitVec 8)) (s : State) : Host.Outcome State Fault Refusal :=
  onSpdm port (fun f => spdmDigests f port req) s
/-- GET_CERTIFICATE (R477). -/
def execGetCertificate (port : Fin 4) (req : List (BitVec 8)) (s : State) : Host.Outcome State Fault Refusal :=
  onSpdm port (fun f => spdmCert f port req) s
/-- CHALLENGE (R477). -/
def execChallenge (port : Fin 4) (req : List (BitVec 8)) (s : State) : Host.Outcome State Fault Refusal :=
  onSpdm port (fun f => spdmChallenge f port req) s
/-- GET_MEASUREMENTS (R477). -/
def execGetMeasurements (port : Fin 4) (req : List (BitVec 8)) (s : State) : Host.Outcome State Fault Refusal :=
  onSpdm port (fun _ => spdmMeas port req) s
/-- CHUNK_SEND (R477). -/
def execChunkSend (port : Fin 4) (req : List (BitVec 8)) (s : State) : Host.Outcome State Fault Refusal :=
  onSpdm port (fun f => spdmChunkSend f port req) s
/-- CHUNK_GET (R477). -/
def execChunkGet (port : Fin 4) (req : List (BitVec 8)) (s : State) : Host.Outcome State Fault Refusal :=
  onSpdm port (fun _ => spdmChunkGet port req) s

/-- SIGNATURE_DONE: the oldest request's signature ends it (R475): an ATTEST's report is written and it completes, an SPDM response is
sent.  An ATTEST whose command has ended, or whose write meets a PCIe error, is not written. -/
def Panel.signDone (p : Panel) (f : Fuses) (pcieErr : Bool) : Panel :=
  match p.keep.signs with
  | [] => p
  | r :: rs =>
    let sig := Config.slhSign (p.aliasNow f) r.msg
    let p := p.updKeep (fun k => { k with signs := rs })
    match r.cmd with
    | some k =>
      if (p.cmd k).isNone then p
      else if pcieErr then p.cmdPart k partSign 13
      else (p.hostWr r.port r.host (r.pre ++ sig ++ r.post)).cmdPart k partSign 0
    | none => p.reply r.port (r.pre ++ sig ++ r.post)

/-- SIGNATURE_DONE (R475). -/
def execSignatureDone (pcieErr : Bool) (s : State) : Host.Outcome State Fault Refusal := onFused (fun f p => p.signDone f pcieErr) s

end Sys2Proof.Machine
end

