-- ==== Sys2Proof/Machine/Fabric.lean ====
section
/-!
DEFINITION. Yelkor: ports and cells, HELLO and trunks, panel ids, packets from other panels, and time across panels (R445 to R465).
-/
namespace Sys2Proof.Machine

open Sys2Proof

/-! Ports (Table 18.4). -/

/-- A field of a port's status replaced. -/
def Panel.ykSet (p : Panel) (q hi lo v : Nat) : Panel := p.wr (ykReg q) (setBits (p.rd (ykReg q)) hi lo v)
/-- A port's state replaced. -/
def Panel.setYk (p : Panel) (q v : Nat) : Panel := p.ykSet q 31 28 v
/-- A port carries packets: ACTIVE, in or out of the choice of R456. -/
def Panel.ykActive (p : Panel) (q : Nat) : Bool := p.ykState q == 3 || p.ykState q == 6
/-- A port's lanes are up. -/
def Panel.ykUp (p : Panel) (q : Nat) : Bool := p.ykActive q || p.ykState q == 2 || p.ykState q == 4
/-- A port counter counts k (R465). -/
def Panel.ykCount (p : Panel) (q off k : Nat) : Panel := p.count (keeperB + 0xA000 + 0x20 * q + off) k
/-- A link message sent by a port. -/
def Panel.ykSend (p : Panel) (q : Nat) (m : BitVec 256) : Panel :=
  p.updYk q (fun l => { l with out := l.out ++ [m.setWidth 512] })
/-- A link message of bytes, the rest 0. -/
def ykMsg (bs : List Byte) : BitVec 256 := BitVec.ofNat 256 (ofBytes bs)
/-- Byte i of a link message. -/
def ykByte (m : BitVec 256) (i : Nat) : Nat := bits m (8 * i + 7) (8 * i)

/-- A fabric die's link to its tile negotiated time sync (R290, R463). -/
def Panel.dieTime (p : Panel) (d : Nat) : Bool := (p.timeSub (144 + d) 0).isSome

/-- FABRIC_DISCOVER's end (R452): every named port is ACTIVE, MISMATCH or DOWN, and the panel holds an id. -/
def Panel.discCheck (p : Panel) : Panel :=
  match p.keep.fab.disc with
  | some (k, ports) =>
    if p.kget R.ykFabSts_held = 1 ∧ ports.all (fun q => decide (3 ≤ p.ykState q)) = true then
      (p.updFab (fun f => { f with disc := none })).cmdPart k partFabric 0
    else p
  | none => p

/-! Panel ids and the root (R452 to R454). -/

/-- Every window on the panel closes (R452). -/
def Panel.closeAll (p : Panel) : Panel :=
  p.each (List.range 144) (fun p t => p.each (p.tile t).wins (fun p w => p.closeWin t w.1))

/-- The panel takes an id (R452, R453). -/
def Panel.takeId (p : Panel) (id : Nat) : Panel :=
  let p := if id = p.panelId then p else p.closeAll
  ((p.kset R.ykFabSts_id id).kset R.ykFabSts_held 1).discCheck

/-- An ID message (R453): its type, an ident and an id. -/
def idMsg (ty ident id : Nat) : BitVec 256 := ykMsg ([BitVec.ofNat 8 ty] ++ List.replicate 5 0 ++ toBytes 2 id ++ toBytes 8 ident)

/-- The lowest id that no panel has claimed at this root (R453). -/
def Panel.freeId (p : Panel) : Option Nat :=
  (List.range 4096).find? (fun i => p.keep.fab.claims.all (fun c => c.2 != i))

/-- This panel is the root. -/
def Panel.isRoot (p : Panel) : Bool := p.kget R.ykFabSts_root == 1

/-- What the root answers to a claim: whether it grants it, with the claim recorded (R453). -/
def Panel.rootClaim (p : Panel) (ident id : Nat) : Bool × Panel :=
  match p.keep.fab.claims.find? (fun c => c.2 == id) with
  | some c => (c.1 == ident, p)
  | none => (true, p.updFab (fun f => { f with claims := f.claims ++ [(ident, id)] }))

/-- This panel asks for an id (R453, R454): of itself where it is the root, otherwise of its parent. -/
def Panel.askId (p : Panel) (own : Nat) : Panel :=
  if p.isRoot then
    match p.freeId with
    | some i => (p.rootClaim own i).2.takeId i
    | none => p
  else match p.keep.fab.parent with
    | some q => p.ykSend q (idMsg 0x61 own 0)
    | none => p

/-- A change of root (R453, R454): the table of a former root is dropped, a holder claims its id again, and a panel in automatic mode
without an id asks for one. -/
def Panel.newRoot (p : Panel) (own : Nat) : Panel :=
  let p := p.updFab (fun f => { f with claims := [], paths := [] })
  if p.kget R.ykFabSts_held = 1 then
    if p.isRoot then (p.rootClaim own p.panelId).2
    else match p.keep.fab.parent with
      | some q => p.ykSend q (idMsg 0x62 own p.panelId)
      | none => p
  else if p.kget R.ykFabSts_auto = 1 then p.askId own
  else p

/-- Root election (R453): the lowest digest heard or the panel's own, over the port that offers it with the fewest hops. -/
def Panel.elect (p : Panel) (own : Nat) : Panel :=
  let old := p.keep.fab.root
  let offers := (List.range 64).filterMap (fun q =>
    match sget (fun _ => none) p.keep.fab.heard q with
    | some r => if p.ykActive q && decide (r.hops < 63) then some (q, r) else none
    | none => none)
  let low := offers.foldl (fun m e => min m e.2.ident) own
  if (List.range 64).all (fun q => !p.ykActive q) then
    let p := (p.kset R.ykFabSts_root 0).kset R.ykFabSts_rhops 0
    p.updFab (fun f => { f with root := 0, parent := none })
  else
    let best := (offers.filter (fun e => e.2.ident == low)).foldl (fun (b : Option (Nat × RootInfo)) e =>
      match b with
      | some c => if e.2.hops < c.2.hops then some e else b
      | none => some e) none
    let p := if low = own then
        ((p.kset R.ykFabSts_root 1).kset R.ykFabSts_rhops 0).updFab (fun f => { f with root := own, parent := none })
      else match best with
        | some (q, r) =>
          ((p.kset R.ykFabSts_root 0).kset R.ykFabSts_rhops (r.hops + 1)).updFab (fun f => { f with root := low, parent := some q })
        | none => p
    if p.keep.fab.root = old then p else p.newRoot own

/-! A port's link (R448, R449). -/

/-- A port goes DOWN or OFF: what its link held is gone; one that has been ACTIVE stays out of the choice when it returns (R456); a
trunk none of whose ports is left loses its peer (R451). -/
def Panel.ykStop (p : Panel) (q v own : Nat) : Panel :=
  let was := p.ykActive q
  let p := p.setYk q v
  let p := p.updYk q (fun l => { LinkSt.zero with avoid := l.avoid || was, out := l.out })
  let p := p.updFab (fun f => { f with
    heard := sset (fun _ => none) f.heard q none, delay := sset (fun _ => none) f.delay q none
    tsync := sset (fun _ => false) f.tsync q false })
  let d := q / 4
  let p := if (List.range 4).all (fun i => p.ykState (4 * d + i) == 0 || p.ykState (4 * d + i) == 5) then
      p.updDie d (fun s => { s with peer := none }) else p
  if was then p.elect own else p

/-- A port goes DOWN (R449). -/
def Panel.ykDown (p : Panel) (q own : Nat) : Panel :=
  if p.ykState q = 0 ∨ p.ykState q = 5 then p
  else (((p.ykStop q 5 own).ykCount q 8 1).panelEvent 10).discCheck

/-- Cells resent from a sequence number on; a port one of whose cells has been resent 16 times goes DOWN (R448). -/
def Panel.ykResend (p : Panel) (q own : Nat) (from_ : List (Nat × Flit)) : Panel :=
  let p := p.updYk q (fun l => { l with resent := from_.foldl (fun m f => supd (fun _ => 0) m f.1 (· + 1)) l.resent })
  if (p.yk q).resent.any (fun r => decide (16 ≤ r.2)) then p.ykDown q own else p

/-- A NAK of a sequence number (R448). -/
def Panel.ykNak (p : Panel) (q own seq : Nat) : Panel :=
  let p := p.updYk q (fun l => l.acked p.now ((seq + 4095) % 4096))
  let again := (p.yk q).again seq
  if again.isEmpty then p else (p.updYk q (fun l => { l with nakAt := some seq })).ykResend q own again

/-- YELKOR_REPLAY_TIMEOUT: 20 µs without an advance of the acknowledgement (R448). -/
def Panel.ykTimeout (p : Panel) (q own : Nat) : Panel :=
  let l := p.yk q
  if !p.ykActive q || l.replay.isEmpty || decide (p.now < l.ackAt + 20) then p
  else (p.updYk q (fun l => { l with ackAt := p.now, nakAt := none })).ykResend q own l.replay

/-- YELKOR_REPLAY_TIMEOUT (R448). -/
def execYelkorReplayTimeout (q : Fin 64) (s : State) : Host.Outcome State Fault Refusal :=
  onFused (fun f p => p.ykTimeout q (identOf f)) s

/-- YK_MARGIN_WINDOW: the FEC symbols corrected in a 1 ms window (R449). -/
def Panel.ykMargin (p : Panel) (q n : Nat) : Panel :=
  if !p.ykUp q then p
  else
    let p := p.ykCount q 16 n
    if p.kget R.ykMarginTh_limit < n then p.panelEvent 9 else p

/-- YK_MARGIN_WINDOW (R449). -/
def execYkMarginWindow (q : Fin 64) (n : BitVec 32) (s : State) : Host.Outcome State Fault Refusal :=
  onPanel (fun p => p.ykMargin q n.toNat) s

/-! Time across panels (R463, R464). -/

/-- A PING of a port, carrying its count. -/
def Panel.ykPing (p : Panel) (q : Nat) : Panel :=
  p.ykSend q (ykMsg ([5, 0, 0, 0, 0, 0, 0, 0] ++ toBytes 8 (p.now * 2000)))

/-- A measurement of the port's delay begins. -/
def Panel.ykMeasure (p : Panel) (q : Nat) : Panel :=
  (p.updFab (fun f => { f with pongs := sset (fun _ => (0, 0)) f.pongs q (0, 0) })).ykPing q

/-- PORT_DELAY_TICK (R463). -/
def execPortDelayTick (q : Fin 64) (s : State) : Host.Outcome State Fault Refusal :=
  onPanel (fun p => if p.ykActive q then p.ykMeasure q else p) s

/-- A PING received: answered with a PONG of its count and the turnaround in ps. -/
def Panel.ykPingIn (p : Panel) (q : Nat) (m : BitVec 256) (turn : Nat) : Panel :=
  p.ykSend q (ykMsg ([6, 0, 0, 0] ++ toBytes 4 turn ++ (List.range 8).map (fun i => BitVec.ofNat 8 (ykByte m (8 + i)))))

/-- A PONG received: the sixteenth gives the port's delay, the mean of (round trip − turnaround) ÷ 2 in ps, whose rounding is left
open (R258). -/
def Panel.ykPongIn (p : Panel) (q : Nat) (m : BitVec 256) (rt : Nat) : Panel :=
  let (n, sum) := sget (fun _ => (0, 0)) p.keep.fab.pongs q
  if 16 ≤ n then p
  else
    let sum := sum + (rt - bits m 63 32)
    let p := p.updFab (fun f => { f with pongs := sset (fun _ => (0, 0)) f.pongs q (n + 1, sum) })
    if n + 1 < 16 then p.ykPing q
    else
      let v := if sum % 32 = 0 then sum / 32 else sum / 32 + Config.freeBelow 2 p.free
      let p := if sum % 32 = 0 then p else p.tookFree
      p.updFab (fun f => { f with delay := sset (fun _ => none) f.delay q (some v) })

/-- The panel's Yelkor time hop count (R463). -/
def Panel.ykHops (p : Panel) : Nat := if p.timeSrc = 3 then p.keep.fab.thops else 0

/-- YTIME_TICK: a panel whose master is valid sends YTIME on every ACTIVE port with time sync (R463). -/
def Panel.ytimeTick (p : Panel) : Panel :=
  let n := p.keeperNode
  if !p.ptcBit n 31 then p
  else
    let m := ykMsg ([0x65, BitVec.ofNat 8 p.ykHops, BitVec.ofNat 8 (1 + 2 * b2n (p.ptcBit n 30)), 0] ++
      toBytes 4 (p.rd (p.ptcRateAt n)).toNat ++ toBytes 8 (p.ptcNs n))
    p.each ((List.range 64).filter (fun q => p.ykActive q && p.dieTime (q / 4) && sget (fun _ => false) p.keep.fab.tsync q))
      (fun p q => p.ykSend q m)

/-- YTIME_TICK (R463). -/
def execYtimeTick (s : State) : Host.Outcome State Fault Refusal := onPanel (fun p => p.ytimeTick) s

/-- A YTIME accepted: from yport, valid, not in holdover, with hops below 15 and the port's delay known (R289, R464). -/
def Panel.ytimeOk (p : Panel) (q : Nat) (m : BitVec 256) : Bool :=
  p.timeSrc == 3 && p.kget R.ptcCtl_yport == q && p.ykActive q && p.dieTime (q / 4) && ykByte m 2 % 4 == 1 &&
    decide (ykByte m 1 < 15) && (sget (fun _ => none) p.keep.fab.delay q).isSome

/-- YTIME: a message with both its stamps (Table 10.2): the master slews or steps; its rate is taken from successive offsets, in a way
the spec leaves open (R464). -/
def Panel.ytimeIn (p : Panel) (q : Nat) (m : BitVec 256) : Panel :=
  let n := p.keeperNode
  if !p.ytimeOk q m || (p.ptc n).isNone then p
  else
    let stamp (ns frac : Nat) : BitVec 68 := BitVec.ofNat 68 (16 * ns + frac % 16)
    let delay := (sget (fun _ => none) p.keep.fab.delay q).getD 0
    let e := timeOffset (stamp (bits m 127 64) (ykByte m 16)) (stamp (bits m 255 192) (ykByte m 17)) delay
    let p := (p.ptcAlign n 16000 e).setPtcBit n 30 false
    let p := (p.wr (p.ptcRateAt n) (clampRate (signed 32 (Config.freeWord p.free).toNat))).tookFree
    p.updFab (fun f => { f with thops := ykByte m 1 + 1, ytAt := p.now, ytOff := e })

/-- YTIME (R464). -/
def execYtime (q : Fin 64) (m : BitVec 256) (s : State) : Host.Outcome State Fault Refusal := onPanel (fun p => p.ytimeIn q m) s

/-- YTIME_HOLDOVER: no YTIME accepted for 3 ms (R464). -/
def execYtimeHoldover (s : State) : Host.Outcome State Fault Refusal :=
  onPanel (fun p => if p.timeSrc = 3 ∧ (p.ptc p.keeperNode).isSome = true ∧ p.keep.fab.ytAt + 3000 ≤ p.now then
    p.setPtcBit p.keeperNode 30 true else p) s

/-! HELLO (R450, R451). -/

/-- The HELLO that a port sends (Table 18.3). -/
def Panel.helloOf (p : Panel) (q own : Nat) : BitVec 256 :=
  let n := p.keeperNode
  let fl := p.kget R.ykFabSts_held + 2 * p.kget R.ykFabSts_dup + 4 * b2n (p.dieTime (q / 4)) + 8 * b2n (p.ptcBit n 31) +
    16 * b2n (p.ptcBit n 30)
  let (root, hops) := match p.keep.fab.parent with
    | some _ => (p.keep.fab.root, p.kget R.ykFabSts_rhops)
    | none => (own, 0)
  ykMsg ([0x60, 0x11, BitVec.ofNat 8 fl, BitVec.ofNat 8 (q / 4), BitVec.ofNat 8 (q % 4), BitVec.ofNat 8 p.ykHops] ++
    toBytes 2 p.panelId ++ toBytes 8 own ++ toBytes 8 root ++ toBytes 1 hops)

/-- HELLO_TICK (R450). -/
def execHelloTick (q : Fin 64) (s : State) : Host.Outcome State Fault Refusal :=
  onFused (fun f p => if p.ykUp q then p.ykSend q (p.helloOf q (identOf f)) else p) s

/-- YELKOR_LANE_TRAINING_END: every lane has trained, at a rate; or they have not within 1,000 ms (R446). -/
def Panel.laneEnd (p : Panel) (q own : Nat) (ok r200 : Bool) : Panel :=
  if p.ykState q ≠ 1 then p
  else if ok then
    let p := (p.setYk q 2).ykSet q 27 27 (b2n r200)
    p.ykSend q (p.helloOf q own)
  else if sget (fun _ => 0) p.keep.fab.since q + 1000000 ≤ p.now then p.ykDown q own
  else p

/-- YELKOR_LANE_TRAINING_END (R446). -/
def execYelkorLaneTrainingEnd (q : Fin 64) (ok r200 : Bool) (s : State) : Host.Outcome State Fault Refusal :=
  onFused (fun f p => p.laneEnd q (identOf f) ok r200) s

/-- Credits of a port's receive buffers, by class (R448). -/
def ykCredits : SMap Int := [(0, 8), (1, 32), (2, 32), (3, 2048), (4, 2048)]

/-- A port becomes ACTIVE: its link starts from 0, and its delay is measured. -/
def Panel.ykStart (p : Panel) (q : Nat) : Panel :=
  let p := p.updYk q (fun l => { LinkSt.zero with cred := ykCredits, avoid := l.avoid, out := l.out, ackAt := p.now })
  (p.setYk q (if (p.yk q).avoid then 6 else 3)).ykMeasure q

/-- HELLO: a port negotiates, fixes its trunk's peer or is checked against it, and feeds the election (R450, R451, R453). -/
def Panel.helloIn (p : Panel) (q own : Nat) (m : BitVec 256) : Panel :=
  if !p.ykUp q then p
  else
    let major := min 1 (ykByte m 1 / 16)
    if major < max 1 (ykByte m 1 % 16) then p.ykDown q own
    else
      let d := q / 4
      let peer := (bits m 127 64, ykByte m 3)
      let p := p.ykSet q 26 24 major
      let p := ((p.ykSet q 23 20 (ykByte m 3)).ykSet q 19 18 (ykByte m 4)).ykSet q 11 0 (bits m 59 48)
      let p := p.updFab (fun f => { f with tsync := sset (fun _ => false) f.tsync q (bit m 18 && p.dieTime d) })
      let p := if (p.die d).peer.isNone then p.updDie d (fun s => { s with peer := some peer }) else p
      if (p.die d).peer = some peer then
        let p := if p.ykActive q then p else p.ykStart q
        let info : RootInfo := ⟨bits m 191 128, ykByte m 24 % 64, p.now⟩
        ((p.updFab (fun f => { f with heard := sset (fun _ => none) f.heard q (some info) })).elect own).discCheck
      else
        let was := p.ykActive q
        let p := (p.setYk q 4).updYk q (fun l => { l with avoid := l.avoid || was })
        let p := p.updFab (fun f => { f with heard := sset (fun _ => none) f.heard q none })
        (if was then p.elect own else p).discCheck

/-- HELLO (R450). -/
def execHello (q : Fin 64) (m : BitVec 256) (s : State) : Host.Outcome State Fault Refusal :=
  onFused (fun f p => p.helloIn q (identOf f) m) s

/-- ROOT_EXPIRY: root information not refreshed for 50 ms is dropped, and election runs again (R453). -/
def Panel.rootExpiry (p : Panel) (own : Nat) : Panel :=
  let old := p.keep.fab.heard.filter (fun e => match e.2 with | some r => decide (r.at_ + 50000 ≤ p.now) | none => false)
  if old.isEmpty then p
  else
    (p.updFab (fun f => { f with heard := old.foldl (fun (h : SMap (Option RootInfo)) (e : Nat × Option RootInfo) =>
      sset (fun _ => none) h e.1 none) f.heard })).elect own

/-- ROOT_EXPIRY (R453). -/
def execRootExpiry (s : State) : Host.Outcome State Fault Refusal := onFused (fun f p => p.rootExpiry (identOf f)) s

/-! ID messages (R453, R454). -/

/-- A request goes on toward the root, and the way its answer returns is kept. -/
def Panel.idForward (p : Panel) (q ty ident id : Nat) : Panel :=
  match p.keep.fab.parent with
  | some up =>
    (p.updFab (fun f => { f with paths := f.paths.filter (fun e => e.1 != ident) ++ [(ident, q)] })).ykSend up (idMsg ty ident id)
  | none => p

/-- ID_REQ: the root grants the lowest id that no panel has claimed. -/
def Panel.idReq (p : Panel) (q ident : Nat) : Panel :=
  if !p.ykActive q then p
  else if p.isRoot then
    match p.freeId with
    | some i => (p.rootClaim ident i).2.ykSend q (idMsg 0x63 ident i)
    | none => p
  else p.idForward q 0x61 ident 0

/-- ID_REQ (R453). -/
def execIdReq (q : Fin 64) (ident : BitVec 64) (s : State) : Host.Outcome State Fault Refusal :=
  onPanel (fun p => p.idReq q ident.toNat) s

/-- ID_CLAIM: the root grants an id that is unclaimed or claimed by the same ident, and refuses another. -/
def Panel.idClaim (p : Panel) (q ident id : Nat) : Panel :=
  if !p.ykActive q then p
  else if p.isRoot then
    let (ok, p) := p.rootClaim ident id
    p.ykSend q (idMsg (if ok then 0x63 else 0x64) ident id)
  else p.idForward q 0x62 ident id

/-- ID_CLAIM (R453). -/
def execIdClaim (q : Fin 64) (ident : BitVec 64) (id : BitVec 12) (s : State) : Host.Outcome State Fault Refusal :=
  onPanel (fun p => p.idClaim q ident.toNat id.toNat) s

/-- An answer goes back the way its request came. -/
def Panel.idReturn (p : Panel) (ty ident id : Nat) : Panel :=
  match p.keep.fab.paths.find? (fun e => e.1 == ident) with
  | some (_, q) => (p.updFab (fun f => { f with paths := f.paths.filter (fun e => e.1 != ident) })).ykSend q (idMsg ty ident id)
  | none => p

/-- ID_GRANT: the panel that asked takes the id. -/
def Panel.idGrant (p : Panel) (own ident id : Nat) : Panel :=
  if ident ≠ own then p.idReturn 0x63 ident id
  else if p.kget R.ykFabSts_held = 1 then p
  else p.takeId id

/-- ID_GRANT (R453). -/
def execIdGrant (ident : BitVec 64) (id : BitVec 12) (s : State) : Host.Outcome State Fault Refusal :=
  onFused (fun f p => p.idGrant (identOf f) ident.toNat id.toNat) s

/-- ID_REFUSE: the panel whose claim is refused sets dup and posts its event; in automatic mode it drops its id and asks for another
(R454). -/
def Panel.idRefuse (p : Panel) (own ident id : Nat) : Panel :=
  if ident ≠ own then p.idReturn 0x64 ident id
  else
    let p := (p.kset R.ykFabSts_dup 1).hostEvent 2 (toBytes 1 255 ++ toBytes 1 6)
    if p.kget R.ykFabSts_auto = 1 then (p.kset R.ykFabSts_held 0).askId own else p

/-- ID_REFUSE (R454). -/
def execIdRefuse (ident : BitVec 64) (id : BitVec 12) (s : State) : Host.Outcome State Fault Refusal :=
  onFused (fun f p => p.idRefuse (identOf f) ident.toNat id.toNat) s

/-! Cells (R447, R448). -/

/-- One step of the IEEE 802.3 CRC-32 over a bit, least significant bit first. -/
def crc32Step (c : BitVec 32) (b : Bool) : BitVec 32 := (c >>> 1) ^^^ (if c.getLsbD 0 != b then 0xEDB88320 else 0)
/-- The CRC-32 over bytes 0 to 83 of a cell. -/
def cellCrc (cell : BitVec 704) : BitVec 32 :=
  ~~~ (((List.range 672).map (fun i => bit cell i)).foldl crc32Step 0xFFFFFFFF)

/-- The flit of a DATA cell, and its context (Table 18.2). -/
def cellFlit (cell : BitVec 704) : Flit × Nat :=
  (⟨(List.range 8).map (fun i => (cell.extractLsb' (512 + 12 * i) 12 : BitVec 12) ++ (cell.extractLsb' (64 * i) 64 : BitVec 64)),
    bits cell 615 613, bit cell 612, bit cell 611⟩, bits cell 610 608)

/-- The credit and acknowledgement fields of a good cell. -/
def Panel.cellFields (p : Panel) (q own : Nat) (cell : BitVec 704) : Panel :=
  let c := bits cell 621 619
  let n := bits cell 671 656
  let p := p.updYk q (fun l => { l with
    cred := supd (fun _ => (0 : Int)) l.cred c (· + ((n + 65536 - sget (fun _ => 0) l.ccnt c) % 65536 : Int))
    ccnt := sset (fun _ => 0) l.ccnt c n })
  if bits cell 653 652 = 1 then p.updYk q (fun l => l.acked p.now (bits cell 651 640))
  else if bits cell 653 652 = 2 then p.ykNak q own (bits cell 651 640)
  else p

/-- A DATA cell in sequence; the tail flit completes its packet, which waits to be stamped (R457). -/
def Panel.cellData (p : Panel) (q : Nat) (cell : BitVec 704) : Panel :=
  if (p.yk q).expect ≠ bits cell 635 624 then p
  else
    let (f, ctx) := cellFlit cell
    let l := { p.yk q with expect := ((p.yk q).expect + 1) % 4096, discard := false, nakDue := false }
    let (l, done) := l.assemble f ctx
    let p := p.updYk q (fun _ => l)
    match done with
    | some fs =>
      { p with
        flights := p.flights ++ [Flight.mk p.nextFlight fs (rtrDie (q / 4)) 5 .yelkor p.now 0 q]
        nextFlight := p.nextFlight + 1 }
    | none => p

/-- A link message in a CTRL cell: HELLO alone on a port that is not ACTIVE (R451); t is the turnaround or the round trip measured, in
ps. -/
def Panel.ykMsgIn (p : Panel) (q own : Nat) (m : BitVec 256) (t : Nat) : Panel :=
  if ykByte m 0 = 0x60 then p.helloIn q own m
  else if !p.ykActive q then p
  else match ykByte m 0 with
    | 5 => p.ykPingIn q m t
    | 6 => p.ykPongIn q m t
    | 0x61 => p.idReq q (bits m 127 64)
    | 0x62 => p.idClaim q (bits m 127 64) (bits m 59 48)
    | 0x63 => p.idGrant own (bits m 127 64) (bits m 59 48)
    | 0x64 => p.idRefuse own (bits m 127 64) (bits m 59 48)
    | 0x65 => p.ytimeIn q m
    | _ => p

/-- YELKOR_CELL: a cell received at a port whose lanes are up (R447 to R449). -/
def Panel.cellIn (p : Panel) (q own : Nat) (cell : BitVec 704) (fecBad : Bool) (t : Nat) : Panel :=
  if !p.ykUp q then p
  else if fecBad || cellCrc cell != cell.extractLsb' 672 32 then
    ((p.ykCount q 0 1).panelEvent 8).updYk q (fun l => { l with discard := true, nakDue := true })
  else
    let p := if p.ykActive q then p.cellFields q own cell else p
    match bits cell 623 622 with
    | 1 => if p.ykActive q then p.cellData q cell else p
    | 2 => p.ykMsgIn q own (cell.extractLsb' 0 256) t
    | _ => p

/-- YELKOR_CELL (R448). -/
def execYelkorCell (q : Fin 64) (cell : BitVec 704) (fecBad : Bool) (t : BitVec 32) (s : State) : Host.Outcome State Fault Refusal :=
  onFused (fun f p => p.cellIn q (identOf f) cell fecBad t.toNat) s

/-! Packets from Yelkor (R454, R457). -/

/-- YELKOR_RECEIVE: a packet that has come in takes the panel's epoch and goes into the die's tile; a panel without an id of its own
carries none. -/
def Panel.ykReceive (p : Panel) (id : Nat) : Panel :=
  match p.flight id with
  | none => p
  | some f =>
    if f.stage ≠ .yelkor then p
    else
      let n := f.flits.length
      let p := p.updYk f.base (fun l => { l with freed := supd (fun _ => 0) l.freed f.hdr.cls (fun k => (k + n) % 65536) })
      if p.kget R.ykFabSts_held = 0 ∨ p.kget R.ykFabSts_dup = 1 then p.dropFlight id
      else if !f.hdrOk then p.dropAt f 0x190 11 0
      else
        let f := f.fixHdr
        p.setFlight { f.setHdr { f.hdr with epoch := p.epochAt f.loc % 256 } with stage := .transit, base := 0 }

/-- YELKOR_RECEIVE (R457). -/
def execYelkorReceive (id : Nat) (s : State) : Host.Outcome State Fault Refusal := onPanel (fun p => p.ykReceive id) s

end Sys2Proof.Machine
end

