-- ==== Sys2Proof/Machine/Routes.lean ====
section
/-!
DEFINITION. Route images and their loading, the default group-63 tree, and the tiles and cores that a tree reaches (R218 to R222,
R233, R360, R443).
-/
namespace Sys2Proof.Machine

open Sys2Proof

/-! Trained paths. -/

/-- A sub-link of port q of tile t that is in service. -/
def Panel.liveSub (p : Panel) (t q : Nat) : Option Nat := (List.range 8).find? (fun k => p.linkServes (mkTileEnd t (8 * q + k)))

/-- Tiles that trained paths reach from those already found, each with the tile, port and sub-link it was found by, in n more rounds. -/
def Panel.spread (p : Panel) : Nat → List (Nat × Nat × Nat × Nat) → List Nat → List (Nat × Nat × Nat × Nat)
  | 0, found, _ => found
  | n + 1, found, last =>
    let new := last.flatMap (fun t => (List.range 4).filterMap (fun q => match tileAcross t q, p.liveSub t q with
      | some u, some k => some (u, t, q, k)
      | _, _ => none))
    let new := new.foldl (fun acc e => if found.any (fun f => f.1 == e.1) || acc.any (fun f => f.1 == e.1) then acc else acc ++ [e]) []
    if new.isEmpty then found else p.spread n (found ++ new) (new.map (·.1))

/-- The tree of trained paths from a ring die's tile (R346, R347, R360): every tile reached, with the tile, port and sub-link before it;
the root's own is 144. -/
def Panel.pathFrom (p : Panel) (d : Nat) : List (Nat × Nat × Nat × Nat) :=
  if (List.range 8).any (fun k => p.linkServes (mkDieEnd d k)) then p.spread 144 [(dieTile d, 144, 0, 5)] [dieTile d] else []

/-- The tree from H-N's tile. -/
def Panel.pathTree (p : Panel) : List (Nat × Nat × Nat × Nat) := p.pathFrom 16

/-- A trained path reaches a tile. -/
def Panel.reached (p : Panel) (t : Nat) : Bool := p.pathTree.any (fun e => e.1 == t)

/-- Training of every powered tile's ports has ended (R360). -/
def Panel.trained (p : Panel) : Bool :=
  (List.range 144).all (fun t => !(p.tile t).rails || (p.showLinks t).tget t R.tileSts_links_done == 1)

/-! Loading (R218, R233). -/

/-- AVOIDED ports of a core's router return to UP. -/
def Panel.portsBack (p : Panel) (x : Cid) : Panel :=
  let p := (List.range 4).foldl (fun (p : Panel) q => match edgeLink x.c q with
    | some k => if p.portState (rtrCore x.t x.c) q = 2 then p.updLink (mkTileEnd x.t (8 * q + k)) (fun l => { l with avoid := false }) else p
    | none => p) p
  p.cwr x R.rtrPort ((List.range 4).foldl (fun v q => if bits v (2 * q + 1) (2 * q) = 2 then setBits v (2 * q + 1) (2 * q) 0 else v)
    (p.crd x R.rtrPort))

/-- A router record of a route image (R443): the tables it carries. -/
structure RouteRec where
  t : Nat
  c : Nat
  tiles : Option (List RtEntry)
  cores : Option (List RtEntry)
  remote : Option (List RemEntry)
deriving DecidableEq, Repr

/-- A router takes the tables of a record at once; those it does not carry are kept, and its AVOIDED ports return to UP. -/
def Panel.loadRec (p : Panel) (r : RouteRec) : Panel :=
  let put (es : List RtEntry) : SMap (Option RtEntry) := (List.range es.length).map (fun i => (i, es[i]?))
  let p := p.updRouter (rtrCore r.t r.c) (fun g => { g with
    tiles := match r.tiles with | some es => put es | none => g.tiles
    cores := match r.cores with | some es => put es | none => g.cores
    remote := match r.remote with
      | some es => ssetList (fun _ => (⟨false, 0⟩ : RemEntry)) [] 0 es
      | none => g.remote
    failed := g.failed.filter (fun k =>
      !(if k < 144 then r.tiles.isSome else if k < 208 then r.cores.isSome else r.remote.isSome)) })
  p.portsBack (cid r.t r.c)

/-! Images (R443). -/

/-- The 16-byte entries of a table. -/
def tableAt (bs : List Byte) (n : Nat) (port : Bool) : List RtEntry :=
  (List.range n).map (fun i => ⟨num bs (16 * i) 1, if port then 7 else num bs (16 * i + 1) 1, w64 (num bs (16 * i + 8) 8)⟩)

/-- The records of an image, and whether it broke a rule of form (bad parameter) or ended off a record boundary. `fab` is a load
of FABRIC_ROUTE_LOAD. The fuel is the number of records that can be left. -/
def routeRecs (fab : Bool) : Nat → List Byte → List RouteRec × Bool × Bool
  | 0, bs => ([], false, !bs.isEmpty)
  | n + 1, bs =>
    if bs.isEmpty then ([], false, false)
    else if bs.length < 64 then ([], false, true)
    else
      let fl := num bs 2 1
      let ok := (if fab then fl == 2 else fl == 1 || fl == 3) && decide (num bs 0 1 < 144 ∧ num bs 1 1 < 64) &&
        ((bs.drop 3).take 61).all (· == 0)
      let a := if fl % 2 = 1 then 3328 else 0
      let size := 64 + a + (if fl / 2 % 2 = 1 then 8192 else 0)
      if fl = 0 ∨ 3 < fl then ([], true, false)
      else if bs.length < size then ([], !ok, true)
      else
        let body := bs.drop 64
        let r : RouteRec :=
          { t := num bs 0 1, c := num bs 1 1
            tiles := if fl % 2 = 1 then some (tableAt body 144 false) else none
            cores := if fl % 2 = 1 then some (tableAt (body.drop 2304) 64 true) else none
            remote := if fl / 2 % 2 = 1 then
                some ((List.range 4096).map (fun i => ⟨(num (body.drop a) (2 * i) 2).testBit 15, num (body.drop a) (2 * i) 1⟩))
              else none }
        let (rs, bad, off) := routeRecs fab n (bs.drop size)
        (r :: rs, bad || !ok, off)

/-- A port code that router (t, c) may name: a mesh port, but no outward port without a ring die (R23, R218). -/
def portOk (t c q : Nat) : Bool := decide (q < 4) && !((edgeLink c q).isSome && termPort t q)

/-- A record that R218 does not refuse. -/
def recOk (r : RouteRec) : Bool :=
  let tileOk (u : Nat) (e : RtEntry) : Bool :=
    if u = r.t then e.prim == 7 && e.alt == 7
    else (e.prim == 7 || portOk r.t r.c e.prim) && (e.alt == 7 || portOk r.t r.c e.alt)
  let coreOk (c : Nat) (e : RtEntry) : Bool := if c = r.c then e.prim == 4 else portOk r.t r.c e.prim
  (match r.tiles with | some es => (es.mapIdx tileOk).all (·) | none => true) &&
    (match r.cores with | some es => (es.mapIdx coreOk).all (·) | none => true) &&
    (match r.remote with | some es => es.all (fun e => !e.valid || decide (e.exit ≤ 143)) | none => true)

/-- What the whole check of an image says: a status, and the records. -/
def routeCheck (fab : Bool) (len : Nat) (img : List Byte) : Nat × List RouteRec :=
  if len = 0 ∨ 128 * 2 ^ 20 < len then (stBadLength, [])
  else
    let (rs, bad, off) := routeRecs fab (len / 3392 + 1) img
    let names := rs.map (fun r => 64 * r.t + r.c)
    if bad || !rs.all recOk || names.eraseDups.length != names.length then (stBadParam, [])
    else if off then (stBadLength, [])
    else (stOk, rs)

/-! The default tables with the group-63 tree (R360). -/

/-- The router of core c of a tile entered at core e, with children by (tile, port, sub-link): R219's tables, with group 63 sent on along
e's row, from there north and south, to the core itself where the tile is a member, and over the sub-links of the tree. -/
def treeRouter (e c : Nat) (member : Bool) (kids : List (Nat × Nat × Nat)) : SMap (Option RtEntry) × SMap (Option RtEntry) :=
  let bit63 : W64 := w64 (2 ^ 63)
  let row := c / 8
  let col := c % 8
  let er := e / 8
  let ec := e % 8
  let cores := (if row ≤ er ∧ 0 < row then [(c - 8, 0)] else []) ++ (if row = er ∧ col ≤ ec ∧ 0 < col then [(c - 1, 3)] else []) ++
    (if member then [(c, 4)] else []) ++
    (if row = er ∧ ec ≤ col ∧ col < 7 then [(c + 1, 1)] else []) ++ (if er ≤ row ∧ row < 7 then [(c + 8, 2)] else [])
  let tiles := kids.filter (fun k => edgeCore k.2.1 k.2.2 == c)
  (tiles.foldl (fun m k => sset (fun _ => none) m k.1 (some ⟨k.2.1, 7, bit63⟩)) [],
    cores.foldl (fun m k => sset (fun _ => none) m k.1 (some ⟨k.2, 7, bit63⟩)) [])

/-- The routers that a trained path reaches take the tables of R219 and the group-63 tree. -/
def Panel.loadDefault (p : Panel) : Panel :=
  let tree := p.pathTree
  p.each tree (fun p n =>
    let e := if n.2.1 = 144 then 5 else edgeCore (oppPort n.2.2.1) n.2.2.2
    let kids := (tree.filter (fun k => k.2.1 == n.1)).map (fun k => (k.1, k.2.2.1, k.2.2.2))
    p.each (List.range 64) (fun p c =>
      let (ts, cs) := treeRouter e c (p.serving n.1) kids
      (p.updRouter (rtrCore n.1 c) (fun g => { g with tiles := ts, cores := cs, remote := [], failed := [] })).portsBack (cid n.1 c)))

/-! What a group reaches. -/

/-- The core routers that deliver group g when a packet starts at routers given with the input it came by; a router is counted once. -/
def Panel.groupCores (p : Panel) (g : Nat) : Nat → List (Nat × Nat) → List Nat → List Nat → List Nat
  | 0, _, _, got => got
  | _, [], _, got => got
  | n + 1, (r, inp) :: rest, seen, got =>
    if seen.contains r then p.groupCores g n rest seen got
    else
      let ports := p.fanPorts r g inp
      let next := ports.filterMap (fun q =>
        if 4 ≤ q || p.portState r q != 0 then none
        else match edgeLink (r % 64) q with
          | none => (coreAcross (r % 64) q).map (fun c => (rtrCore (r / 64) c, oppPort q))
          | some k =>
            let e := mkTileEnd (r / 64) (8 * q + k)
            if p.linkServes e && (p.nget e R.linkSts_feat).testBit 2 then
              (tileAcross (r / 64) q).map (fun u => (rtrCore u (edgeCore (oppPort q) k), oppPort q))
            else none)
      p.groupCores g n (rest ++ next) (r :: seen) (if ports.contains 4 then r :: got else got)

/-- The cores whose channels the core image reaches in group 63, from core 5 of tile (5,0). -/
def Panel.imgReach (p : Panel) : List Cid :=
  if p.reached 5 then (p.groupCores 63 65536 [(rtrCore 5 5, 0)] [] []).map cidOf else []

end Sys2Proof.Machine
end

