-- ==== Sys2Proof/Machine/Bringup.lean ====
section
/-!
DEFINITION. Bring-up: the ring rails, host ports, leaving STANDBY, the six boot steps, and the Tally with its field records (R318,
R344 to R364).
-/
namespace Sys2Proof.Machine

open Sys2Proof

/-! Before the tiles. -/

/-- Every ring die is powered, and holds the epoch (R318, R344, R405). -/
def Panel.diesUp (p : Panel) : Panel :=
  let e := p.epoch
  p.each (List.range 22) (fun p d => p.updDie d (fun s => { s with rails := true, epoch := e }))

/-- BRINGUP_START: PANEL_RST_N is high and a feed has been GOOD for 10 ms; KEEPER_SEL as sampled names the active keeper; the keepers run
their mask ROM (R344, R345, R317, R473). -/
def Panel.bringup (p : Panel) (sel : Bool) : Panel :=
  let good (t : Option Nat) : Bool := match t with | some t => decide (t + 10000 ≤ p.now) | none => false
  if p.keep.ring || !(good p.keep.goodA || good p.keep.goodB) then p
  else
    let p := (p.updKeep (fun k => { k with ring := true, sampled := false, served := false })).diesUp
    let p := (p.gset R.keeperSts_active (b2n sel)).gset R.keeperSts_strap (b2n sel)
    (p.wr (keeperB + R.panelState) 1).setMeas 0 romHash

/-- BRINGUP_START (R344). -/
def execBringupStart (sel : Bool) (s : State) : Host.Outcome State Fault Refusal := onPanel (fun p => p.bringup sel) s

/-- The panel is in STANDBY. -/
def Panel.standby (p : Panel) : Bool := p.rd (keeperB + R.panelState) == 2

/-- STANDBY is left (R318, R364): the ring dies are powered; of the done bits only that of step 1 stays. -/
def Panel.leaveStandby (p : Panel) : Panel :=
  let p := (p.wr (keeperB + R.panelState) 1).updKeep (fun k => { k with served := false })
  let p := p.gset R.bootSts_done (p.gget R.bootSts_done % 2)
  (p.gset R.tallySts_applied 0).diesUp

/-- PERST_RELEASE: PERST_N[n] is deasserted (R347); that of H-N leaves STANDBY (R318). -/
def Panel.perstRelease (p : Panel) (n : Nat) : Panel :=
  if !p.keep.ring then p
  else
    let p := if p.standby ∧ n = 0 then p.leaveStandby else p
    if (p.die (16 + n)).rails then { p with host := { p.host with up := sset (fun _ => false) p.host.up n true } } else p

/-- PERST_RELEASE (R347). -/
def execPerstRelease (n : Fin 4) (s : State) : Host.Outcome State Fault Refusal := onPanel (fun p => p.perstRelease n) s

/-- A write of BMC_WAKE (Table 21.8). -/
def Panel.bmcWake (p : Panel) (v : W32) : Panel := if p.standby && bit v 0 then p.leaveStandby else p

/-- BMC_WAKE (R318). -/
def execBmcWake (v : BitVec 32) (s : State) : Host.Outcome State Fault Refusal := onPanel (fun p => p.bmcWake v) s

/-! Boot steps (R348, R349). -/

/-- A step has completed with OK. -/
def Panel.bootDone (p : Panel) (n : Nat) : Bool := bit (p.rd (globB + R.bootSts)) n

/-- The host address of a boot step. -/
def Panel.bootAddr (p : Panel) : Nat := (p.rd (globB + R.bootAddr)).toNat + 2 ^ 32 * (p.rd (globB + R.bootAddr + 4)).toNat
/-- Its length. -/
def Panel.bootLen (p : Panel) : Nat := (p.rd (globB + R.bootLen)).toNat

/-- A step is legal in the present state (R349). -/
def Panel.bootLegal (p : Panel) (step ksel : Nat) : Bool :=
  if step = 1 ∧ ksel = 1 then p.bootDone 1
  else (List.range step).all (fun i => i == 0 || p.bootDone i) && (step == 4 || step == 6 || !p.bootDone step)

/-- A write of BOOT_CTL with go = 1 reaches the keeper (R347, R348): what the step does follows if it is legal and its address is
aligned; one that completes at once shows its status and does nothing else. -/
def Panel.bootGo (p : Panel) (step ksel : Nat) (run : Panel → Panel) : Panel :=
  if !p.keep.ring || p.standby then p
  else
    let p := (p.gset R.bootCtl_step step).gset R.bootCtl_ksel ksel
    if p.gget R.bootSts_busy = 1 then p.gset R.bootSts_rej 1
    else
      let p := p.gset R.bootSts_step step
      let data := step == 1 || step == 6 || (step == 4 && p.bootLen != 0)
      if step = 0 ∨ 6 < step ∨ (step = 1 ∧ 1 < ksel) then p.gset R.bootSts_status stBadParam
      else if !p.bootLegal step ksel then p.gset R.bootSts_status stConflict
      else if data && p.bootAddr % 4096 != 0 then p.gset R.bootSts_status stBadParam
      else run (p.gset R.bootSts_busy 1)

/-- A step runs, and will complete with a status. -/
def Panel.bootRun (p : Panel) (b : Boot) : Panel := p.updKeep (fun k => { k with boot := some b })

/-! Step 1, KEEPER (R350, R469 to R473). -/

/-- The keepers that a KEEPER step names. -/
def Panel.bootKeepers (p : Panel) (ksel : Nat) : List Nat := if ksel = 0 then [p.activeK, 1 - p.activeK] else [1 - p.activeK]

/-- A keeper checks an image of the KEEPER step; one that passes is taken, and its SVN burnt where it asks for that. -/
def keeperCheck (img : List Byte) (fp : Fuses × Panel) (k : Nat) : Fuses × Panel :=
  match verifyImage fp.1 k 1 img with
  | some v => (if v.2.2.2 then fp.1.commit k v.2.1 else fp.1, fp.2.takeImage k v)
  | none => (fp.1, if k = fp.2.activeK then fp.2 else fp.2.setTrust k { fp.2.trust k with header := none, akey := false })

/-- The KEEPER step from an address of a port's host memory (R350). -/
def keeperStep (port addr len ksel : Nat) (pcieErr : Bool) (cmd : Option (Nat × Nat)) (f : Fuses) (p : Panel) : Fuses × Panel :=
  if len < 65536 ∨ 16 * 2 ^ 20 < len then (f, p.bootRun ⟨stBadLength, 4, 4, cmd⟩)
  else
    let ks := p.bootKeepers ksel
    let p := p.each ks (fun p k => p.setKeeperState k 1)
    let img := p.hostRd port addr len
    let v (k : Nat) := if pcieErr then none else verifyImage f k 1 img
    let (f', p) := if pcieErr then (f, p) else ks.foldl (keeperCheck img) (f, p)
    let ok (k : Nat) : Bool := (v k).isSome
    let next (k : Nat) : Nat := if ks.contains k then (if ok k then (if k = p.activeK then 2 else 3) else 0) else p.keeperState k
    let main := if ksel = 0 then p.activeK else 1 - p.activeK
    (f', p.bootRun ⟨if pcieErr then stHwFault else if ok main then stOk else stAuthFail, next 0, next 1, cmd⟩)

/-- A go write of step 1. -/
def keeperGo (ksel : Nat) (pcieErr : Bool) (f : Fuses) (p : Panel) : Fuses × Panel :=
  let q := p.bootGo 1 ksel id
  if q.gget R.bootSts_busy = 1 ∧ p.gget R.bootSts_busy = 0 then keeperStep 0 q.bootAddr q.bootLen ksel pcieErr none f q
  else (f, q)

/-- KEEPER: a go write of step 1 (R350). -/
def execKeeper (ksel : BitVec 2) (pcieErr : Bool) (s : State) : Host.Outcome State Fault Refusal :=
  onFuses (keeperGo ksel.toNat pcieErr) s

/-! Step 2, TALLY (R351 to R356). -/

/-- Word w of tile t's record in keeper k's copy: corrected, none where it is uncorrectable. -/
def Fuses.copy (f : Fuses) (k t w : Nat) : Option W64 :=
  let (x, o) := ssc76Dec (sget (fun _ => (0 : W76)) f.tally (89280 * k + 620 * t + w))
  if o = .uncorrectable then none else some (ssc76Data x)

/-- The word that keeper k takes: its own copy's, or else the other's (R353). -/
def Fuses.word (f : Fuses) (k t w : Nat) : Option W64 :=
  match f.copy k t w with
  | some v => some v
  | none => f.copy (1 - k) t w

/-- The copies of a word differ. -/
def Fuses.diverges (f : Fuses) (t w : Nat) : Bool :=
  match f.copy 0 t w, f.copy 1 t w with
  | some a, some b => a != b
  | _, _ => false

/-- The role in a record's header (R352). -/
def recRole (hdr : W64) : Nat := bits hdr 47 46
/-- The role contradicts R15 (R353). -/
def roleBad (t : Nat) (hdr : W64) : Bool :=
  if isCentre t then recRole hdr == 0 || recRole hdr == 3 else recRole hdr == 1 || recRole hdr == 2

/-- A tile's record is invalid (R353). -/
def Fuses.recInvalid (f : Fuses) (k t : Nat) : Bool :=
  (List.range 620).any (fun w => (f.word k t w).isNone) ||
    (match f.word k t 0 with
      | some h => bits h 63 56 != 2 || bits h 55 48 != t || roleBad t h
      | none => true)

/-- The kind and body of a field record (R356). -/
def fieldRec (w : W64) : Nat × W32 := (bits w 63 60, w32 (bits w 31 0))

/-- The bad-core bitmap of an applied record with its CORE field records. -/
def Panel.badMap (p : Panel) (t : Nat) : W64 :=
  (List.range 4).foldl (fun m j =>
    let (k, b) := fieldRec (p.recWord t (40 + j))
    if k = 1 then m ||| w64 (2 ^ bits b 5 0) else m) (p.recWord t 1)

/-- The spares that the entries of an applied record take, in order (R354): by list, and port and sub-link, core and bank, with the
spare. -/
def Panel.sparesOf (p : Panel) (t : Nat) : List (Nat × Nat × Nat) :=
  let list (base n kind : Nat) : List W32 :=
    ((List.range n).map (p.recEntry t base) ++
      (List.range 4).filterMap (fun j =>
        let (k, b) := fieldRec (p.recWord t (40 + j))
        if k = kind then some b else none)).filter (fun e => bit e 31)
  (list 44 64 4).map (fun e => (0, bits e 30 26, bits e 25 23)) ++
    (list 76 512 2).map (fun e => (1, bits e 30 20, bits e 19 18)) ++
    (list 332 512 3).map (fun e => (2, bits e 30 19, bits e 18 16))

/-- A tile's record applied (R353, R354, R358): its role, usable cores and speed bin, and its bad cores, which read as fenced (R400). -/
def Panel.applyRec (p : Panel) (f : Fuses) (t : Nat) : Panel :=
  let k := p.activeK
  let ws := (List.range 620).map (fun w => (f.word k t w).getD 0)
  let p := p.updKeep (fun s => { s with applied := ssetList (fun _ => (0 : W64)) s.applied (620 * t) ws })
  let invalid := f.recInvalid k t
  let hdr := p.recWord t 0
  let p := if !invalid then p
    else
      let p := (p.gset R.tallySts_ninv (p.gget R.tallySts_ninv + 1)).gset R.tallySts_last_inv t
      if (f.word k t 0).isSome && roleBad t hdr then p.gset R.tallySts_role_err 1 else p
  let gone := invalid || (List.range 4).any (fun j => (fieldRec (p.recWord t (40 + j))).1 == 5)
  let reserve := isCentre t
  let unusable := gone || recRole hdr == 2 || recRole hdr == 3
  let bad := (List.range 64).filter (fun c => bit (p.badMap t) c)
  let p := if decide (p.sparesOf t).Nodup then p else p.gset R.tallySts_conflict 1
  let p := (p.tset t R.tileSts_reserve (b2n reserve)).tset t R.tileSts_unusable (b2n unusable)
  let p := (p.tset t R.tileSts_ncore (64 - bad.length)).tset t R.tileSts_bin (bits hdr 45 42)
  let p := { p with bad := p.bad ++ bad.map (fun c => 64 * t + c) }
  p.each bad (fun p c => p.setFence (cid t c) true)

/-- The TALLY step (R353): both copies read, the records of every tile applied, and measurement 4 taken. -/
def Panel.tallyStep (p : Panel) (f : Fuses) : Panel :=
  let p := { p with bad := [] }
  let p := (p.gset R.tallySts_ninv 0).updKeep (fun k => { k with applied := [] })
  let p := if (List.range 144).any (fun t => (List.range 620).any (f.diverges t)) then p.gset R.tallySts_diverge 1 else p
  let p := p.each (List.range 144) (fun p t => p.applyRec f t)
  let all := (List.range 89280).flatMap (fun i => toBytes 8 (sget (fun _ => (0 : W64)) p.keep.applied i).toNat)
  (p.setMeas 4 (sha256 all)).bootRun ⟨stOk, 0, 0, none⟩

/-- A go write of step 2. -/
def Panel.tallyGo (p : Panel) (f : Fuses) (ksel : Nat) : Panel := p.bootGo 2 ksel (fun p => p.tallyStep f)

/-- TALLY: a go write of step 2 (R353). -/
def execTally (s : State) : Host.Outcome State Fault Refusal := onFused (fun f p => p.tallyGo f 0) s

/-! Step 3, POWER (R359). -/

/-- Every tile site is to be powered, in stand order and in index order within a stand; a site whose segment is lost is not. -/
def Panel.powerStep (p : Panel) : Panel :=
  let order := ((List.range 16).filter p.segmentUp).flatMap standTiles
  (p.updKeep (fun k => { k with queue := order, holds := 0 })).bootRun ⟨stOk, 0, 0, none⟩

/-- POWER: a go write of step 3 (R359). -/
def execPower (s : State) : Host.Outcome State Fault Refusal := onPanel (fun p => p.bootGo 3 0 Panel.powerStep) s

/-! Step 4, ROUTES (R360). -/

/-- A ROUTES step loads, once training has ended: the default tables, or an image, whose records of routers that no trained path reaches
change nothing. -/
def Panel.routesLoad (p : Panel) (cmd : Option (Nat × Nat)) : Panel :=
  let len := p.bootLen
  let img := if len ≤ 128 * 2 ^ 20 then p.hostRd 0 p.bootAddr len else []
  let (st, rs) := if len = 0 then (stOk, []) else routeCheck false len img
  if st ≠ stOk then p.bootRun ⟨st, 1, 0, cmd⟩
  else
    let p := if len = 0 then p.loadDefault
      else (rs.filter (fun r => p.reached r.t)).foldl (fun (p : Panel) r => p.loadRec r) p
    let p := p.each (p.pathTree.map (·.1)) (fun p t => p.updTile t (fun s => { s with routed := true }))
    (p.extend 5 (sha256 img)).bootRun ⟨stOk, 1, 0, cmd⟩

/-- A go write of step 4. -/
def Panel.routesGo (p : Panel) (ksel : Nat) (pcieErr : Bool) : Panel :=
  p.bootGo 4 ksel (fun p =>
    if pcieErr && p.bootLen != 0 then p.bootRun ⟨stHwFault, 1, 0, none⟩
    else if p.trained then p.routesLoad none else p.bootRun ⟨stOk, 0, 0, none⟩)

/-- ROUTES: a go write of step 4 (R360). -/
def execRoutes (pcieErr : Bool) (s : State) : Host.Outcome State Fault Refusal := onPanel (fun p => p.routesGo 0 pcieErr) s

/-! Step 5, PTC (R281). -/

/-- A go write of step 5: the master starts from 0, or from the value that TIME_SYNC has given. -/
def Panel.ptcGo (p : Panel) (ksel : Nat) : Panel :=
  p.bootGo 5 ksel (fun p => (p.ptcStart (p.keep.ptcInit.getD 0)).bootRun ⟨stOk, 0, 0, none⟩)

/-- PTC_START: a go write of step 5 (R281). -/
def execPtcStart (s : State) : Host.Outcome State Fault Refusal := onPanel (fun p => p.ptcGo 0) s

/-! Step 6, IMAGE (R361). -/

/-- The core image is broadcast: every channel reached in group 63 takes it, and the cores of the tiles reached are told to check it.
The image is that of the bundle at a host address. -/
def Panel.imgCast (p : Panel) (port addr len : Nat) (cmd : Option (Nat × Nat)) : Panel :=
  let n := num (p.hostRd port (addr + 256) 4) 0 4
  let bytes := p.hostRd port (addr + 20480) n
  let rows := (chunks 64 bytes).map (fun r => (List.range 8).map (fun i => w64 (num (r ++ List.replicate 64 0) (8 * i) 8)))
  let dests := p.imgReach.filter (fun x => (p.tile x.t).rails && !p.selfref x)
  if dests.any (fun x => !(p.chan x).inited) then p.bootRun ⟨stOk, 0, len, cmd⟩
  else
    let p := p.each dests (fun p x => p.chanWrites x imgBase rows)
    let p := p.updKeep (fun k => { k with img := some (n, p.hostRd port (addr + 256 + 8) 32) })
    let ts := ((dests.map (fun x => x.t.val)).eraseDups).filter (fun t => (List.range 4).any (fun r => decide (p.rget t r R.regionState_state ≤ 1)))
    let p := p.each ts (fun p t => (p.imgTell t).imgEnd t)
    p.bootRun ⟨stOk, 1, len, cmd⟩

/-- The IMAGE step from an address of a port's host memory: the manifest is verified, and the image broadcast. -/
def Panel.imgStep (p : Panel) (f : Fuses) (port addr len : Nat) (pcieErr : Bool) (cmd : Option (Nat × Nat)) : Panel :=
  if 2 * 2 ^ 20 + 65536 < len then p.bootRun ⟨stBadLength, 1, 0, cmd⟩
  else if pcieErr then p.bootRun ⟨stHwFault, 1, 0, cmd⟩
  else
    let man := p.hostRd port addr (min len 16544)
    let n := num (slice man 256 4) 0 4
    match verifyImage f p.activeK 2 man with
    | some v =>
      if num man 12 4 ≠ 64 ∨ 2 * 2 ^ 20 < n ∨ len < 20480 + n then p.bootRun ⟨stAuthFail, 1, 0, cmd⟩
      else (p.setMeas 3 v.1).imgCast port addr len cmd
    | none => p.bootRun ⟨stAuthFail, 1, 0, cmd⟩

/-- A go write of step 6. -/
def Panel.imageGo (p : Panel) (f : Fuses) (ksel : Nat) (pcieErr : Bool) : Panel :=
  p.bootGo 6 ksel (fun p => p.imgStep f 0 p.bootAddr p.bootLen pcieErr none)

/-- IMAGE: a go write of step 6 (R361). -/
def execImage (pcieErr : Bool) (s : State) : Host.Outcome State Fault Refusal := onFused (fun f p => p.imageGo f 0 pcieErr) s

/-! A step completes (R349). -/

/-- The running step completes with its status, and with it the command that performs it. -/
def Panel.bootEnd (p : Panel) (b : Boot) (step : Nat) : Panel :=
  let p := (p.updKeep (fun k => { k with boot := none })).gset R.bootSts_busy 0
  let p := p.gset R.bootSts_status b.st
  let p := if b.st = stOk then p.orReg (globB + R.bootSts) (w32 (2 ^ step)) else p
  match b.cmd with
  | some k => p.cmdPart k partBoot b.st
  | none => p

/-- BOOT_STEP_DONE: a KEEPER step needs the DeviceID key, POWER every site settled, ROUTES the end of training, and IMAGE the end of
every check; a step that waited for training or for DRAM initialisation goes on. -/
def Panel.bootStepDone (p : Panel) : Panel :=
  let step := p.gget R.bootSts_step
  match p.keep.boot with
  | none => p
  | some b =>
    if step = 1 then
      if b.a = 4 then p.bootEnd b step
      else if (p.bootKeepers 0).any (fun k => p.keeperState k == 1 && !(p.trust k).devid) then p
      else
        let joins := (p.keeperState (1 - p.activeK) == 1)
        let p := (p.setKeeperState 0 b.a).setKeeperState 1 b.b
        let p := if joins then p.updKeep (fun k => { k with beatMesh := p.now, beatSkid := p.now }) else p
        p.bootEnd b step
    else if step = 2 then (p.gset R.tallySts_applied 1).bootEnd b step
    else if step = 3 then (if p.keep.queue.isEmpty then p.bootEnd b step else p)
    else if step = 4 then
      if b.a = 1 then p.bootEnd b step
      else if p.trained then
        let p := p.routesLoad b.cmd
        match p.keep.boot with
        | some b => p.bootEnd b step
        | none => p
      else p
    else if step = 6 ∧ b.st = stOk then
      if b.a = 0 then
        match b.cmd with
        | some k => (match p.cmd k with | some c => p.imgCast c.port (c.pn 0 8) b.b b.cmd | none => p.imgCast 0 p.bootAddr b.b b.cmd)
        | none => p.imgCast 0 p.bootAddr b.b none
      else if (List.range 144).all (fun t => (p.tile t).imgWait.isEmpty) then p.bootEnd b step
      else p
    else p.bootEnd b step

/-- BOOT_STEP_DONE (R349). -/
def execBootStepDone (s : State) : Host.Outcome State Fault Refusal := onPanel (fun p => p.bootStepDone) s

/-! Field records (R357). -/

/-- The keepers that program records: those that are ACTIVE or STANDBY. -/
def Panel.burners (p : Panel) : List Nat := [0, 1].filter (fun k => decide (2 ≤ p.keeperState k))

/-- A codeword put at the slot of a tile's records, in the keepers given. -/
def Fuses.burn (f : Fuses) (ks : List Nat) (t slot : Nat) (w : Nat → W76) : Fuses :=
  { f with tally := ks.foldl (fun m k =>
    let a := 89280 * k + 620 * t + 40 + slot
    sset (fun _ => (0 : W76)) m a (w k)) f.tally }

/-- A write of TALLY_REC_CTL (R357). -/
def tallyWrite (v : W32) (f : Fuses) (p : Panel) : Fuses × Panel :=
  if !p.keep.ring || p.standby || p.gget R.tallySts_rec_busy == 1 then (f, p)
  else
    let p := p.wr (globB + R.tallyRecCtl) (v &&& 0x7FF)
    let t := bits v 7 0
    let rec_ := (p.rd (globB + R.tallyRec)).toNat + 2 ^ 32 * (p.rd (globB + R.tallyRec + 4)).toNat
    let kind := rec_ / 2 ^ 60
    let start (slot : Nat) : Panel := (p.gset R.tallySts_rec_busy 1).updKeep (fun k => { k with burn := some (t, slot) })
    if !bit v 31 then (f, p)
    else if 143 < t then (f, p.gset R.tallySts_rec_err 1)
    else if bit v 10 then
      let slot := bits v 9 8
      (f.burn p.burners t slot (fun k => ssc76Enc ((f.copy k t (40 + slot)).getD 0 ||| w64 (15 * 2 ^ 60))), start slot)
    else if kind = 0 ∨ (6 ≤ kind ∧ kind < 15) then (f, p.gset R.tallySts_rec_err 1)
    else match (List.range 4).find? (fun j => match f.copy p.activeK t (40 + j) with | some w => bits w 63 60 == 0 | none => false) with
      | none => (f, p.gset R.tallySts_rec_full 1)
      | some slot => (f.burn p.burners t slot (fun _ => ssc76Enc (w64 rec_)), start slot)

/-- TALLY_REC_CTL (R357). -/
def execTallyRecCtl (v : BitVec 32) (s : State) : Host.Outcome State Fault Refusal := onFuses (tallyWrite v) s

/-- TALLY_VOID: the same register written with void = 1 (R357). -/
def execTallyVoid (slot : BitVec 2) (tile : BitVec 8) (s : State) : Host.Outcome State Fault Refusal :=
  onFuses (tallyWrite (w32 (2 ^ 31 + 2 ^ 10 + slot.toNat * 256 + tile.toNat))) s

/-- TALLY_RECORD_DONE: the record has been read back; what stands in a slot whose read-back fails is left open. -/
def recordDone (ok : Bool) (f : Fuses) (p : Panel) : Fuses × Panel :=
  match p.keep.burn with
  | none => (f, p)
  | some (t, slot) =>
    let p := (p.updKeep (fun k => { k with burn := none })).gset R.tallySts_rec_busy 0
    if ok then (f, p)
    else
      let w (k : Nat) : W76 := BitVec.ofNat 76 ((Config.freeWord (p.free + 2 * k)).toNat + 2 ^ 64 * (Config.freeWord (p.free + 2 * k + 1)).toNat)
      (f.burn p.burners t slot w, { p.gset R.tallySts_rec_err 1 with free := p.free + 4 })

/-- TALLY_RECORD_DONE (R357). -/
def execTallyRecordDone (ok : Bool) (s : State) : Host.Outcome State Fault Refusal := onFuses (recordDone ok) s

end Sys2Proof.Machine
end

