-- ==== Sys2Proof/Machine/Resets.lean ====
section
/-!
DEFINITION. Resets: panel, host port, the compute scopes, routers and the legacy scopes, and the end of a self-test (R365 to R380, R398).
-/
namespace Sys2Proof.Machine

open Sys2Proof

/-! Panel and host ports (R368, R369). -/

/-- PANEL_RESET: an accepted low on PANEL_RST_N, or the PANEL_RESET reaction, removes every rail (R368). -/
def execPanelReset (pin : Bool) (s : State) : Host.Outcome State Fault Refusal :=
  onPanel (fun p => if pin || p.prst then p.off else p) s

/-- HOST_PORT_RESET: PERST_N[n] is low: the port's registers and counters take their reset values, its queues are discarded, and what
its commands complete with is not written (R369, R484). -/
def Panel.portReset (p : Panel) (n : Nat) : Panel :=
  let mine (a : Nat) : Bool := decide (hostB n ≤ a ∧ a < hostB n + 0x10000)
  let p := (p.clearRegs mine).clearCtrs mine
  let cut {α : Type} (m : SMap α) : SMap α := m.filter (fun e => e.1 / 64 != n)
  let p := { p with
    latches := p.latches.filter (fun l => l.1 != n)
    host := { p.host with
      sqTail := cut p.host.sqTail, cqHead := cut p.host.cqHead, phase := cut p.host.phase
      cmds := p.host.cmds.map (fun (c : Cmd) => if c.port = n then { c with mute := true } else c)
      up := sset (fun _ => false) p.host.up n false } }
  let p := p.updDie (16 + n) (fun d => { d with apers := [] })
  p.updKeep (fun k => { k with spdm := sset (fun _ => Spdm.zero) k.spdm n Spdm.zero, signs := k.signs.filter (fun r => r.cmd.isSome || r.port != n) })

/-- HOST_PORT_RESET (R369). -/
def execHostPortReset (n : Fin 4) (s : State) : Host.Outcome State Fault Refusal := onPanel (fun p => p.portReset n) s

/-! Compute resets (R370 to R374). -/

/-- A compute reset reaches one core: one whose region runs or holds is reset, one in NAP loses what it kept, and one in DARK is as it
was. -/
def Panel.coreScope (p : Panel) (x : Cid) : Panel :=
  if p.regionState x ≤ 1 then p.coreReset x
  else if p.regionState x = 2 then (p.setCore x Core.zero).clearCompute x
  else p

/-- COMPUTE_RESET: the Warden applies a core compute reset at its instant T (R370). -/
def execComputeReset (x : Cid) (s : State) : Host.Outcome State Fault Refusal :=
  onPanel (fun p => if (p.tile x.t).rails then p.coreScope x else p) s

/-- A region compute reset (R372): a handshake is abandoned; the region ends in RUN, or leaves NAP for DARK; one that is powering up is
reset when it enters RUN. -/
def Panel.regionReset (p : Panel) (t r : Nat) : Panel :=
  let p := if (p.region t r).hs.isSome then p.hsRelease t r stResetAbort else p
  if (p.region t r).up.isSome then p.updRegion t r (fun g => { g with resetOwed := true })
  else
    let s := p.rget t r R.regionState_state
    if s ≤ 1 then (p.each (regionCores r) (fun p c => p.coreReset (cid t c))).rset t r R.regionState_state 0
    else if s = 2 then p.regionDown t r 3
    else p

/-- A tile compute reset (R372, R374): ready is cleared, but for a tile whose four regions are DARK. -/
def Panel.tileReset (p : Panel) (t : Nat) : Panel :=
  if !(p.tile t).rails || (List.range 4).all (fun r => p.rget t r R.regionState_state == 3 && (p.region t r).up.isNone) then p
  else
    let p := ((p.setReady t false).tset t R.tileSts_img_done 0).tset t R.tileSts_img_bad 0
    p.each (List.range 4) (fun p r => p.regionReset t r)

/-- The cores of a STEP_REPLAY start once all their resets have ended (R415). -/
def Panel.replayGo (p : Panel) : Panel :=
  match p.keep.replay with
  | none => p
  | some n =>
    if p.launchSet.any (fun x => (p.core x).resetting) then p
    else
      let p := p.updKeep (fun k => { k with replay := none })
      p.each (p.launchSet.filter (fun x => decide (p.regionState x ≤ 1))) (fun p x => (p.updSeq x (fun q => q.setSreg 1 (w32 n))).launch x p.keep.launchPc)

/-- COMPUTE_RESET_DONE: the program store is loaded again where an IMAGE step has completed, the sequencer is IDLE, and absorption ends
(R370, R371). -/
def Panel.resetDone (p : Panel) (x : Cid) : Panel :=
  if !(p.core x).resetting then p
  else
    let p := p.imgLoad x
    let p := (p.updCore x (fun c => { c with resetting := false })).replayGo
    let quiet := (List.range 64).all (fun c => !(p.core (cid x.t c)).resetting)
    let p := if quiet && p.keep.img.isSome && p.bootDone 6 && (p.tile x.t).imgWait.isEmpty then p.tset x.t R.tileSts_img_done 1 else p
    p.cmdParts (p.host.cmds.map (·.key)) (partReset x.t x.c) 0

/-- COMPUTE_RESET_DONE (R370). -/
def execComputeResetDone (x : Cid) (s : State) : Host.Outcome State Fault Refusal := onPanel (fun p => p.resetDone x) s

/-! Router resets (R375, R376). -/

/-- A port of a core's router that faces router n, by entries of another router: prim or alt of a tile entry, or the port of a core entry
other than of n's own core (R375). -/
def Panel.routesTo (p : Panel) (m port own : Nat) : Bool :=
  (List.range 144).any (fun t => t != m / 64 && ((p.tileEntry m t).prim == port || (p.tileEntry m t).alt == port)) ||
    (List.range 64).any (fun c => c != own && (p.coreEntry m c).prim == port)

/-- No other router's tables in force lead to the router of a core. -/
def Panel.unrouted (p : Panel) (x : Cid) : Bool :=
  (List.range 4).all (fun q => match edgeLink x.c q, coreAcross x.c q with
    | none, some c => !p.routesTo (rtrCore x.t c) (oppPort q) x.c
    | some k, _ => (match tileAcross x.t q with
      | some u => !p.routesTo (rtrCore u (edgeCore (oppPort q) k)) (oppPort q) 64
      | none => true)
    | none, none => true)

/-- The precondition of ROUTER_RESET without force (R375). -/
def Panel.routerFree (p : Panel) (x : Cid) : Bool := (p.fenced x || p.regionState x == 3) && p.unrouted x

/-- The channel above a core at a router reset (Table 7.7): its queues are emptied, and what waited in requester 1's is answered. -/
def Panel.chanRouterReset (p : Panel) (x : Cid) : Panel :=
  let mine := p.flights.filter (fun f => f.loc == rtrCore x.t x.c && f.stage == .committed && (Ep.of f.hdr.dst).unit == 6)
  let p := p.updChan x (fun h => { h with q0 := [], q1 := [], reads := [], scrub := [], got := [], retire := none })
  mine.foldl (fun (p : Panel) f =>
    let p := p.dropFlight f.id
    if f.hdr.drawsStatus then p.sendStatus f.loc f.hdr.dst f.hdr stResetAbort 0 else p) p

/-- A router reset of a core's router, among others being reset with it (R376). -/
def Panel.routerReset (p : Panel) (also : List Nat) (x : Cid) : Panel :=
  let n := rtrCore x.t x.c
  let p := (p.coreScope x).chanRouterReset x
  let p := { p with flights := p.flights.filter (fun f => !(f.loc == n && (f.stage == .transit || f.stage == .dest))) }
  let p := (List.range 4).foldl (fun (p : Panel) q => match edgeLink x.c q, coreAcross x.c q with
    | none, some c =>
      if also.contains (rtrCore x.t c) then p
      else
        let y := cid x.t c
        p.cwr y R.rtrPort (setBits (p.crd y R.rtrPort) (2 * oppPort q + 1) (2 * oppPort q) 1)
    | some k, _ =>
      let e := mkTileEnd x.t (8 * q + k)
      let p := p.clearRegs (fun a => decide (linkBase e ≤ a ∧ a < linkBase e + 0x80))
      (p.updLink e (fun l => { LinkSt.zero with rxMap := l.rxMap, txMap := l.txMap, rxNew := l.rxMap, txNew := l.txMap, out := l.out })).showSpares e
    | none, none => p) p
  let p := p.clearRegs (fun a => [R.rtrPort, R.dramStatus, R.dramRetire].any (fun o => a == coreB x.t x.c + o))
  ((p.updRouter n (fun _ => { Router.zero with resetting := true })).showLinks x.t).winDrain

/-- ROUTER_RESET_DONE: the router forwards again; the neighbour ports that went DOWN are AVOIDED (R233, R376). -/
def Panel.routerDone (p : Panel) (x : Cid) : Panel :=
  let n := rtrCore x.t x.c
  if !(p.router n).resetting then p
  else
    let p := p.updRouter n (fun r => { r with resetting := false })
    let p := (List.range 4).foldl (fun (p : Panel) q => match edgeLink x.c q, coreAcross x.c q with
      | none, some c =>
        let y := cid x.t c
        if p.portState (rtrCore x.t c) (oppPort q) = 1 then
          p.cwr y R.rtrPort (setBits (p.crd y R.rtrPort) (2 * oppPort q + 1) (2 * oppPort q) 2)
        else p
      | _, _ => p) p
    p.cmdParts (p.host.cmds.map (·.key)) (partRouter n) 0

/-- ROUTER_RESET_DONE (R376). -/
def execRouterResetDone (x : Cid) (s : State) : Host.Outcome State Fault Refusal := onPanel (fun p => p.routerDone x) s

/-! Legacy resets (R377, R378). -/

/-- The mark among a drain's cores that the reset is a legacy panel reset. -/
def legacyPanel : Nat := 9216

/-- A drain has ended: no covered core awaits an answer and no covered router holds a flit, or 1 ms has passed. -/
def Panel.drained (p : Panel) (d : List Nat × Nat × List (Nat × Nat)) : Bool :=
  decide (d.2.1 + 1000 ≤ p.now) ||
    (!p.awaits.any (fun a => d.1.any (fun k => k != legacyPanel && a.ofCore p (cidOf k))) &&
      !p.flights.any (fun f => (f.stage == .transit || f.stage == .dest) && d.1.contains f.loc))

/-- LEGACY_DRAIN_END: every covered router receives a router reset with force; a legacy panel reset also undoes steps 4 and 6. -/
def Panel.drainEnd (p : Panel) (d : List Nat × Nat × List (Nat × Nat)) : Panel :=
  let cores := d.1.filter (fun k => k != legacyPanel)
  let p := p.updKeep (fun k => { k with drains := k.drains.erase d })
  let whole := (List.range 144).filter (fun t => (List.range 64).all (fun c => cores.contains (64 * t + c)))
  let p := p.each whole (fun p t => ((p.setReady t false).tset t R.tileSts_img_done 0).tset t R.tileSts_img_bad 0)
  let p := if d.1.contains legacyPanel then
      let p := p.wr (globB + R.bootSts) (setBits (setBits (p.rd (globB + R.bootSts)) 4 4 0) 6 6 0)
      p.each (List.range 144) (fun p t => p.updTile t (fun s => { s with routed := false }))
    else p
  let p := p.each cores (fun p k => p.routerReset cores (cidOf k))
  p.cmdParts d.2.2 partDrain 0

/-- LEGACY_DRAIN_END (R377). -/
def execLegacyDrainEnd (s : State) : Host.Outcome State Fault Refusal :=
  onPanel (fun p => p.each (p.keep.drains.filter p.drained) (fun p d => p.drainEnd d)) s

/-! SELFTEST ends (R398). -/

/-- SELFTEST_DONE: a target finishes with the phases that failed; its result is written and it receives a compute reset. A target whose
test has been aborted has only its command to answer. -/
def Panel.selftestDone (p : Panel) (x : Cid) (mask : BitVec 10) : Panel :=
  let ks := p.host.cmds.map (·.key)
  if p.cget x R.selftestRes_run = 0 then p.cmdParts ks (partTest x.t x.c) 0
  else
    let p := (p.cset x R.selftestRes_run 0).cset x R.selftestRes_mask mask.toNat
    let p := p.cset x R.selftestRes_result (if mask = 0 then 1 else 2)
    let p := p.cset x R.selftestRes_first (((List.range 10).find? (fun i => bit mask i)).getD 15)
    (p.coreReset x).cmdParts ks (partTest x.t x.c) 0

/-- SELFTEST_DONE (R398). -/
def execSelftestDone (x : Cid) (mask : BitVec 10) (s : State) : Host.Outcome State Fault Refusal :=
  onPanel (fun p => p.selftestDone x mask) s

end Sys2Proof.Machine
end

