-- ==== Sys2Proof/Machine/Ranger.lean ====
section
/-!
DEFINITION. How Ranger starts a command: its turn, the form of its descriptor, the order of its checks, and conflicts with other
commands (R406, R432 to R438).
-/
namespace Sys2Proof.Machine

open Sys2Proof

/-! Turn and form. -/

/-- Every earlier command of the SQ has completed, where the order flag asks for it (R436). -/
def Panel.turnOf (p : Panel) (c : Cmd) : Bool :=
  c.flags % 2 == 0 || (p.host.cmds.takeWhile (fun d => d.key != c.key)).all (fun d => d.port != c.port || d.sq != c.sq)

/-- The command of an opcode that Ranger can start. -/
def Panel.begin (p : Panel) (op : Nat) (id : CmdId) : Option Cmd :=
  match p.cmd (id.port, id.tag.toNat) with
  | none => none
  | some c => if c.started || c.opcode != op || !p.turnOf c then none else some c

/-- Places of parameter bytes a to a + n - 1. -/
def span (a n : Nat) : List Nat := List.range' a n

/-- The fields of the target word that an opcode reads (R433): the tile, core, region and stand. -/
structure Reads where
  t : Bool := false
  c : Bool := false
  r : Bool := false
  s : Bool := false
deriving DecidableEq, Repr

/-- A reserved field, a field of the target that the opcode does not read, or a parameter byte it does not name is not 0, or the tag is
that of host events (R10, R432, R433). -/
def Cmd.soiled (c : Cmd) (rd : Reads) (used : List Nat) : Bool :=
  c.tag == 0xFFFF || c.flags / 2 != 0 || bits c.desc 47 40 != 0 || bits c.desc 95 80 != 0 || c.target / 2 ^ 20 != 0 ||
    (!rd.t && c.tile != 0) || (!rd.c && c.core != 0) || (!rd.r && c.region != 0) || (!rd.s && c.stand != 0) ||
    (List.range 48).any (fun a => !used.contains a && c.p a != 0)

/-! Targets. -/

/-- A tile is lost, expelled or DARK (R442). -/
def Panel.gone (p : Panel) (t : Nat) : Bool :=
  !(p.tile t).rails || p.tget t R.tileMemb_lost == 1 || p.tget t R.tileMemb_expelled == 1

/-- The tile field names one tile that is gone. -/
def Panel.goneOne (p : Panel) (c : Cmd) : Bool := c.tile != 0xFF && p.gone c.tile

/-- The tile field is neither a tile nor 0xFF. -/
def Cmd.badT (c : Cmd) : Bool := decide (144 ≤ c.tile) && c.tile != 0xFF

/-- The tiles that a target names, 0xFF naming every tile that is not lost, expelled or DARK. -/
def Panel.named (p : Panel) (c : Cmd) : List Nat := if c.tile = 0xFF then (List.range 144).filter (fun t => !p.gone t) else [c.tile]

/-- The tiles that a program command names: of 0xFF, those that serve. -/
def Panel.namedServing (p : Panel) (c : Cmd) : List Nat :=
  if c.tile = 0xFF then (p.named c).filter (fun t => p.serving t) else [c.tile]

/-- The cores of tiles by a 64-bit mask. -/
def maskCores (ts : List Nat) (mask : Nat) : List Cid :=
  ts.flatMap (fun t => ((List.range 64).filter (fun c => mask.testBit c)).map (fun c => cid t c))

/-! Conflicts (R438). -/

/-- The tiles that a reset scope covers (Table 14.1). -/
def scopeTiles (c : Cmd) : List Nat :=
  match c.p 0 with
  | 3 | 0xA => standTiles c.stand
  | 0xB => List.range 144
  | _ => [c.tile]

/-- The tiles that a command changes, where it is one of those of R438. -/
def Panel.holdsTiles (p : Panel) (c : Cmd) : List Nat :=
  match c.opcode with
  | 0x10 | 0x11 | 0x12 | 0x13 | 0x14 | 0x51 | 0x61 => [c.tile]
  | 0x18 => [c.p 0, c.p 1]
  | 0x21 | 0x22 => p.namedServing c
  | 0x24 => (p.launchSet.map (·.t.val)).eraseDups
  | 0x50 => scopeTiles c
  | _ => []

/-- Another command that Ranger carries out changes a tile of this one. -/
def Panel.tileBusy (p : Panel) (c : Cmd) : Bool :=
  let mine := p.holdsTiles c
  p.host.cmds.any (fun d => d.key != c.key && d.started && (p.holdsTiles d).any (fun t => mine.contains t))

/-- A route load, a discovery or an image load runs, or a boot step does. -/
def Panel.loadBusy (p : Panel) : Bool :=
  p.gget R.bootSts_busy == 1 || p.host.cmds.any (fun d => d.started && [0x20, 0x58, 0x90, 0x91].contains d.opcode)

/-! Checks. -/

/-- A command's checks in order, each with the status of its failing; a tile in use makes it BUSY, or makes one with the order flag wait;
else it starts (R437, R438). -/
def Panel.checked (p : Panel) (c : Cmd) (checks : List (Bool × Nat)) (run : Cmd → Panel → Panel) : Panel :=
  match checks.find? (·.1) with
  | some (_, st) => p.cmdEnd c.key st []
  | none =>
    if p.tileBusy c then (if c.flags % 2 = 1 then p else p.cmdEnd c.key stBusy [])
    else
      let c := { c with started := true }
      run c (p.setCmd c)

/-- A command starts, by its checks. -/
def Panel.start (p : Panel) (op : Nat) (id : CmdId) (checks : Cmd → Panel → List (Bool × Nat)) (run : Cmd → Panel → Panel) : Panel :=
  match p.begin op id with
  | none => p
  | some c => p.checked c (checks c p) run

/-- The checks of a recovery command: form, nothing to do, epoch, state, a change of one of its tiles still settling (R406). -/
def Panel.recovery (p : Panel) (c : Cmd) (bad already conflict : Bool) (tiles : List Nat) : List (Bool × Nat) :=
  [(bad, stBadParam), (already, stOk), (c.epoch != p.epoch, stEpochStale), (conflict, stConflict), (p.settling tiles, stBusy)]

/-- A command waits for parts of its work, and completes when there is none. -/
def Panel.waitFor (p : Panel) (c : Cmd) (parts : List Nat) : Panel :=
  if parts.isEmpty then p.cmdEnd c.key c.st (p.cmdResult c) else p.setCmd { c with waits := parts }

/-- A command completes with OK at once. -/
def Panel.ok (p : Panel) (c : Cmd) (res : List Byte) : Panel := p.cmdEnd c.key stOk res

/-! What several commands ask. -/

/-- A heat-gated region that is still too hot for RUN (R332). -/
def Panel.tooHot (p : Panel) (t r : Nat) : Bool :=
  p.rget t r R.regionState_hgate == 1 && decide (p.tget t R.thermCtl_hold ≤ p.rget t r R.thermSts_tmax + 10)

/-- A handshake holds the region of a core (R320). -/
def Panel.heldRegion (p : Panel) (x : Cid) : Bool :=
  (p.region x.t (regionOf x.c)).hs.isSome || (p.region x.t (regionOf x.c)).commit.isSome

/-- A core's sequencer may not start: a reset of it runs, or its region is held. -/
def Panel.startBusy (p : Panel) (x : Cid) : Bool := (p.core x).resetting || p.heldRegion x

/-- A sequencer of the panel is in RUN or WAIT (R318, R442). -/
def Panel.anyRuns (p : Panel) : Bool := (List.range 9216).any (fun k => p.running (cidOf k))

/-- The compute parts that resets of cores will end: those being reset, and those whose reset is owed. -/
def Panel.resetParts (p : Panel) (xs : List Cid) : List Nat :=
  (xs.filter (fun x => (p.core x).resetting || (p.region x.t (regionOf x.c)).resetOwed)).map (fun x => partReset x.t x.c)

end Sys2Proof.Machine
end

