-- ==== Sys2Proof/Machine/Thermal.lean ====
section
/-!
DEFINITION. Heat, power budgets and the cooling watch (R185 to R188, R327 to R341).
-/
namespace Sys2Proof.Machine

open Sys2Proof

/-! Prediction (R328, R329). Temperatures are exact rationals in °C, powers in units of 100 W. -/

/-- A sensor reading, of sixteenths of a °C. -/
def degC (v : BitVec 16) : Q := ⟨v.toInt, 16⟩

/-- One step of a sensor's prediction: its four g and its h, the powers, the coolant and its present value. -/
def thermStep (g : List Q) (h : Q) (pw : List Q) (tc t : Q) : Q :=
  ((t.add (Q.sum (List.zipWith Q.mul g pw))).sub (h.mul (t.sub tc))).norm

/-- The values of n steps. -/
def thermRun (g : List Q) (h : Q) (pw : List Q) (tc : Q) : Nat → Q → List Q
  | 0, _ => []
  | n + 1, t =>
    let t' := thermStep g h pw tc t
    t' :: thermRun g h pw tc n t'

/-- The largest of a list, which is not empty. -/
def Q.maxOf (l : List Q) : Q := l.foldl Q.max (l.headD Q.zero)

/-- The coefficients of sensor i: its four g and its h. -/
def TileSt.gOf (s : TileSt) (i : Nat) : List Q := (s.coef.drop (4 * i)).take 4
/-- The h of sensor i. -/
def TileSt.hOf (s : TileSt) (i : Nat) : Q := s.coef.getD (96 + i) Q.zero

/-- The scaled regressors of sensor i at the last sample: the powers, and the loss toward the coolant in units of 10 K. -/
def TileSt.regOf (s : TileSt) (i : Nat) : List Q := s.reg.take 4 ++ [(s.reg.getD (4 + i) Q.zero).neg]

/-- A sensor's coefficients after a normalised least-mean-squares step of size 2^-mu for an error. -/
def lmsStep (mu : Nat) (x w : List Q) (err : Q) : List Q :=
  let n2 := Q.sum (x.map (fun a => a.mul a))
  if n2.n = 0 then w
  else List.zipWith (fun a b => (a.add (((err.mul b).div n2).mul ⟨1, 2 ^ mu⟩)).norm) w x

/-- The coefficients adjusted after a sample: g stays at or above 0, h between 0 and 1. -/
def TileSt.learn (s : TileSt) (mu : Nat) (ts : List Q) : TileSt :=
  if s.pred.isEmpty then s
  else
    let upd := (List.range 24).map (fun i =>
      let w := s.gOf i ++ [(s.hOf i).mul (Q.int 10)]
      lmsStep mu (s.regOf i) w ((ts.getD i Q.zero).sub (s.pred.getD i Q.zero)))
    let g := upd.flatMap (fun w => (w.take 4).map (fun a => Q.max Q.zero a))
    let h := upd.map (fun w =>
      let a := Q.max Q.zero ((w.getD 4 Q.zero).mul ⟨1, 10⟩)
      if (Q.int 1).lt a then Q.int 1 else a.norm)
    { s with coef := g ++ h }

/-- The whole degrees of a temperature, as a byte. -/
def wholeC (q : Q) : Nat := (max 0 (min 255 q.floor)).toNat

/-! The Warden's sample (R327 to R332, R336). -/

/-- Refresh rate and cap level follow the sample (R186 to R188). -/
def Panel.dramSample (p : Panel) (t : Nat) (die dram : Q) : Panel :=
  let dbl := if (Q.int 85).le die || (Q.int 85).le dram then 1
    else if die.lt (Q.int 82) && dram.lt (Q.int 82) then 0 else p.tget t R.dramTherm_dbl
  let trip := (Q.int 95).le dram
  let held := trip || ((p.tile t).tripHeld && !dram.lt (Q.int 93))
  let level := p.tget t R.dramTherm_cap
  let reach := if (Q.int 94).le die then 3 else if (Q.int 93).le die then 2 else if (Q.int 92).le die then 1 else 0
  let next := if held then 3 else if level < reach then reach
    else if 0 < level && die.lt (Q.int ((90 + level : Nat) : Int)) then level - 1 else level
  let p := (p.updTile t (fun s => { s with tripHeld := held })).tset t R.dramTherm_dbl dbl
  let p := ((p.tset t R.dramTherm_cap next).tset t R.dramTherm_t_die (wholeC die)).tset t R.dramTherm_t_dram (wholeC dram)
  if trip then ((p.tset t R.dramTherm_trip 1).tcount t 0x808).tileEvent t 17 tileUnit else p

/-- A region's thermal cap after a sample, with its highest reading and predicted peak (R330, R331). -/
def Panel.thermCap (p : Panel) (t r : Nat) (tmax peak : Q) : Panel :=
  let hold := Q.int ((p.tget t R.thermCtl_hold : Nat) : Int)
  let low := hold.sub (Q.int ((p.tget t R.thermCtl_hyst : Nat) : Int))
  let step := max 1 (p.tget t R.thermCtl_step)
  let cap := p.rget t r R.thermSts_cap
  let cap := if hold.le peak then max 32 (min cap (p.rget t r R.dcoSts_fc) - step)
    else if peak.lt low && tmax.lt low then min 140 (cap + 1) else cap
  let p := ((p.rset t r R.thermSts_cap cap).rset t r R.thermSts_tmax (wholeC tmax)).rset t r R.thermSts_tpred (wholeC peak)
  let p := p.rset t r R.thermSts_pred_hi (b2n (hold.le peak))
  let hot := decide (cap = 32) && (Q.int 105).le peak
  let was := (p.region t r).predRun
  let p := p.updRegion t r (fun g => { g with predRun := hot })
  if hot && !was then (p.tcount t 0x800).tileEvent t 16 tileUnit else p

/-- A region in which a sensor measures the limit is heat-gated (R332). -/
def Panel.heatGate (p : Panel) (t r : Nat) (tmax : Q) : Panel :=
  let lit := p.rget t r R.regionState_state != 3 || (p.region t r).up.isSome
  if (Q.int 105).le tmax && lit && p.rget t r R.regionState_hgate == 0 then
    (((p.rset t r R.regionState_hgate 1).tcount t 0x808).tileEvent t 17 tileUnit).loseRegion t r
  else p

/-- The tile's draw over the last 100 µs, in mW, against its budget (R336). -/
def Panel.budgetSample (p : Panel) (t draw : Nat) : Panel :=
  let budget := p.tget t R.budgetSts_budget * 1000
  let step := max 1 (p.tget t R.thermCtl_step)
  let runs := (List.range 4).filter (fun r => p.rget t r R.regionState_state == 0)
  let p :=
    if budget < draw then
      if runs.all (fun r => p.rget t r R.dcoSts_fc == 32) then p.tset t R.budgetSts_over 1
      else p.each runs (fun p r => p.updRegion t r (fun g => { g with bcap := max 32 (g.bcap - step) }))
    else if draw * 100 < budget * 95 then
      p.each (List.range 4) (fun p r => p.updRegion t r (fun g => { g with
        bcap := if g.bcap < p.rget t r R.dcoCtl_target then g.bcap + 1 else g.bcap }))
    else p
  let ds := (draw :: (p.tile t).draws).take 10
  let p := p.updTile t (fun s => { s with draws := ds })
  p.tset t R.budgetSts_used (min 4095 (ds.foldl (· + ·) 0 / ds.length / 1000))

/-- WARDEN_SAMPLE: 24 compute-die readings and four DRAM-die readings in 1/16 °C, the regions' power estimates and the tile's draw in
mW. -/
def Panel.wardenSample (p : Panel) (t : Nat) (die dram : List (BitVec 16)) (pw : List Nat) (draw : Nat) : Panel :=
  if !(p.tile t).rails || !(p.tile t).pll then p
  else
    let ts := tab 24 (fun i => degC (die.getD i 0))
    let s := p.tile t
    let tc := Q.int ((s.tc : Nat) : Int)
    let ps := tab 4 (fun r => (⟨((pw.getD r 0 : Nat) : Int), 100000⟩ : Q))
    let runs := tab 24 (fun i => thermRun (s.gOf i) (s.hOf i) ps tc 50 (ts.getD i Q.zero))
    let p := p.dramSample t (Q.maxOf ts) (Q.maxOf (tab 4 (fun i => degC (dram.getD i 0))))
    let p := p.updTile t (fun s =>
      let s := if p.tget t R.thermCtl_learn = 1 then s.learn (p.tget t R.thermCtl_mu) ts else s
      { s with
        pred := runs.map (fun l => l.headD Q.zero)
        reg := ps ++ ts.map (fun v => (v.sub tc).mul ⟨1, 10⟩) })
    let p := p.each (List.range 4) (fun p r =>
      let tmax := Q.maxOf ((ts.drop (6 * r)).take 6)
      (p.thermCap t r tmax (Q.maxOf (((runs.drop (6 * r)).take 6).flatten))).heatGate t r tmax)
    (p.budgetSample t draw).clkRefreshAll t

/-- WARDEN_SAMPLE (R327). -/
def execWardenSample (t : Fin 144) (die dram : List (BitVec 16)) (pw : List (BitVec 32)) (draw : BitVec 32) (s : State) :
    Host.Outcome State Fault Refusal :=
  onPanel (fun p => p.wardenSample t die dram (pw.map (·.toNat)) draw.toNat) s

/-! Reports and budgets (R334 to R337). -/

/-- A region of the tile is in RUN or HOLD. -/
def Panel.tileActive (p : Panel) (t : Nat) : Bool := (List.range 4).any (fun r => p.dcoOn t r)

/-- REPORT_TICK: the expected draw is of no stated computation and is free. -/
def Panel.reportTick (p : Panel) (t : Nat) : Panel :=
  if !(p.tile t).pll then p
  else
    let seq := ((p.tile t).seq + 1) % 65536
    let hi (f : Fld) : Nat := (List.range 4).foldl (fun m r => max m (p.rget t r f)) 0
    let body := [b2n (!p.tileActive t), p.tget t R.budgetSts_used, Config.freeBelow 65536 p.free, hi R.thermSts_tmax, hi R.thermSts_tpred, seq]
    ((p.updTile t (fun s => { s with seq := seq })).send ⟨0x31, t, p.keeperNode, body⟩).tookFree

/-- REPORT_TICK (R334). -/
def execReportTick (t : Fin 144) (s : State) : Host.Outcome State Fault Refusal := onPanel (fun p => p.reportTick t) s

/-- REPORT: the keeper takes a tile's report (R334, R407). -/
def Panel.reportIn (p : Panel) (t : Nat) : Panel :=
  match p.findMsg 0x31 t p.keeperNode with
  | none => p
  | some m => (p.takeMsg m).updKeep (fun k => { k with
      reports := sset (fun _ => none) k.reports t (some ⟨p.now, m.at 0, m.at 1, m.at 2⟩) })

/-- REPORT (R334). -/
def execReport (t : Fin 144) (s : State) : Host.Outcome State Fault Refusal := onPanel (fun p => p.reportIn t) s

/-- Demands of tiles (tile, demand) in order of demand. -/
def insDemand (e : Nat × Nat) : List (Nat × Nat) → List (Nat × Nat)
  | [] => [e]
  | d :: ds => if e.2 ≤ d.2 then e :: d :: ds else d :: insDemand e ds

/-- The level L at which min(d, L) sums to a pool, over demands in rising order, rounded down; n of them are left. -/
def waterLevel : List (Nat × Nat) → Nat → Nat
  | [], _ => 0
  | d :: ds, pool => if d.2 * (ds.length + 1) ≤ pool then waterLevel ds (pool - d.2) else pool / (ds.length + 1)

/-- A pool divided among demands, each already limited to tile_max, and the budgets rounded down (R335). -/
def divide (pool tmax : Nat) (ds : List (Nat × Nat)) : List (Nat × Nat) :=
  let sum := (ds.map (·.2)).foldl (· + ·) 0
  if sum ≤ pool then ds.map (fun d => (d.1, min tmax (d.2 + (pool - sum) / ds.length)))
  else
    let level := waterLevel (ds.foldl (fun l d => insDemand d l) []) pool
    ds.map (fun d => (d.1, min d.2 level))

/-- The effective panel budget (R341). -/
def Panel.effBudget (p : Panel) : Nat := p.kget R.panelBudget_panel * (10 - p.keep.lowered) / 10

/-- PANEL_BUDGET_EFF and COOL_STS.throttle show it. -/
def Panel.showBudget (p : Panel) : Panel :=
  (p.wr (keeperB + R.panelBudgetEff) (w32 p.effBudget)).kset R.coolSts_throttle (b2n (decide (p.effBudget < p.kget R.panelBudget_panel)))

/-- The reports of the powered tiles in a state: 0 ACTIVE, 1 IDLE. -/
def Panel.reported (p : Panel) (st : Nat) : List (Nat × Report) :=
  (List.range 144).filterMap (fun t => match sget (fun _ => none) p.keep.reports t with
    | some r => if (p.tile t).rails && r.state == st then some (t, r) else none
    | none => none)

/-- The pool of R335, which may lie below 0. -/
def Panel.pool (p : Panel) : Int :=
  (p.effBudget : Int) - 1900 - (((p.reported 1).map (fun r => r.2.used)).foldl (· + ·) 0 : Nat)

/-- The budgets of the ACTIVE tiles: stands limited by R297 within 1,300 W, and the rest of the pool among the others. -/
def Panel.budgets (p : Panel) : List (Nat × Nat) :=
  let tmax := p.kget R.panelBudget_tile_max
  let ds := (p.reported 0).map (fun r => (r.1, min tmax r.2.demand))
  let limited (s : Nat) : Bool := decide (2 ≤ sget (fun _ => 0) p.keep.ibc s)
  let pool := p.pool.toNat
  let low := ((List.range 16).filter limited).flatMap (fun s =>
    divide (min 1300 pool) tmax (ds.filter (fun d => standOf d.1 == s)))
  low ++ divide (pool - (low.map (·.2)).foldl (· + ·) 0) tmax (ds.filter (fun d => !limited (standOf d.1)))

/-- Readings of the last 10 s. -/
def Panel.trays (p : Panel) : List Tray := p.keep.tray.filter (fun r => decide (p.now < r.at_ + 10000000))
/-- A sum over readings. -/
def traySum (l : List Tray) (f : Tray → Int) : Int := (l.map f).foldl (· + ·) 0

/-- BUDGET_TICK: the keeper sends each powered tile its budget, the keeper cap, the coolant's temperature and the epoch.  An IDLE tile's
budget, and the coolant's temperature before the first reading, are not stated and are free. -/
def Panel.budgetTick (p : Panel) : Panel :=
  if p.keeperState p.activeK ≠ 2 then p
  else
    let p := p.showBudget
    let seq := (p.keep.budgetSeq + 1) % 65536
    let bs := p.budgets
    let ts := p.trays
    let tc : Nat := if ts.isEmpty then Config.freeBelow 256 (p.free + 144)
      else (max 0 (min 255 (traySum ts (·.tin) / (128 * ts.length : Nat)))).toNat
    let cap := if p.keep.dark then 32 else p.keep.kcap
    let p' := p.each ((List.range 144).filter (fun t => (p.tile t).rails)) (fun q t =>
      let b := match bs.find? (fun b => b.1 == t) with | some b => b.2 | none => Config.freeBelow 4096 (p.free + t)
      q.send ⟨0x30, p.keeperNode, t, [b, cap, tc, seq, p.epoch]⟩)
    { p'.updKeep (fun k => { k with budgetSeq := seq }) with free := p.free + 145 }

/-- BUDGET_TICK (R335). -/
def execBudgetTick (s : State) : Host.Outcome State Fault Refusal := onPanel (fun p => p.budgetTick) s

/-- BUDGET: a tile takes a BUDGET message (R337); an epoch that it has missed is adopted with it. -/
def Panel.budgetIn (p : Panel) (t : Nat) : Panel :=
  match p.findMsg 0x30 p.keeperNode t with
  | none => p
  | some m =>
    let p := (p.takeMsg m).updTile t (fun s => { s with kcap := m.at 1, tc := m.at 2, lastBudget := p.now })
    let p := (p.tset t R.budgetSts_budget (m.at 0)).tset t R.budgetSts_stale 0
    let p := if p.tget t R.tileMemb_epoch = m.at 4 then p else p.adopt t (m.at 4)
    p.clkRefreshAll t

/-- BUDGET (R337). -/
def execBudget (t : Fin 144) (s : State) : Host.Outcome State Fault Refusal := onPanel (fun p => p.budgetIn t) s

/-- BUDGET_STALE: no BUDGET message for 5 ms (R337). -/
def execBudgetStale (t : Fin 144) (s : State) : Host.Outcome State Fault Refusal :=
  onPanel (fun p => if (p.tile t).pll ∧ (p.tile t).lastBudget + 5000 ≤ p.now then p.tset t R.budgetSts_stale 1 else p) s

/-! The cooling watch (R339 to R341, R343). -/

/-- The panel's input power from FEED_STS and FEED_CUR, in mW. -/
def Panel.inputPower (p : Panel) : Nat :=
  let i := p.rd (keeperB + R.feedCur)
  p.kget R.feedSts_va * 250 * bits i 31 16 + p.kget R.feedSts_vb * 250 * bits i 15 0

/-- The heat removed, in W, from the averages over 10 s. -/
def heatQ (l : List Tray) : Q :=
  let n := l.length
  ⟨3980 * traySum l (fun r => r.flow) * (traySum l (·.tout) - traySum l (·.tin)), 60 * 64 * n * (128 * n)⟩
/-- The expected heat, in W. -/
def heatE (l : List Tray) : Q := ⟨traySum l (fun r => r.power), 1000 * l.length⟩

/-- The heat removed falls short of a percentage of the heat expected, at 5 kW or more; or the flow, in 0.5 L/min units, is below a limit;
or a temperature is above its limit. -/
def coolBad (l : List Tray) (pct flow : Nat) (temp : Tray → Int) (limit : Int) : Bool :=
  let e := heatE l
  !l.isEmpty && ((Q.int 5000).le e && (heatQ l).lt (e.mul ⟨pct, 100⟩) ||
    decide (traySum l (fun r => r.flow) < (flow * 32 * l.length : Nat)) || decide (limit * 128 * (l.length : Nat) < traySum l temp))

/-- The conditions of R340. -/
def Panel.warnBad (p : Panel) : Bool :=
  coolBad p.trays (p.kget R.coolCtl_warn) (p.kget R.coolCtl_fwarn) (·.tin) 40 || decide (3 ≤ p.keep.fails)
/-- The conditions of R341, with valid data. -/
def Panel.throttleBad (p : Panel) : Bool :=
  p.kget R.coolSts_valid == 1 && coolBad p.trays (p.kget R.coolCtl_thr) (p.kget R.coolCtl_fthr) (·.tout) 55

/-- COOLING_WARN is raised when a condition holds, and again only after 10 s in which none held (R340). -/
def Panel.coolWatch (p : Panel) : Panel :=
  let p := if p.throttleBad then p.updKeep (fun k => { k with throttled := some p.now }) else p
  if !p.warnBad then p
  else
    let again := match p.keep.warned with | some t => decide (t + 10000000 ≤ p.now) | none => true
    let p := p.updKeep (fun k => { k with warned := some p.now })
    if again then (((p.kcount 0x820).kset R.coolSts_warn 1).alert 1).panelEvent 18 else p

/-- A temperature in COOL_STS's encoding, of 1/128 °C. -/
def Panel.showTemp (p : Panel) (v : Int) : Nat × Panel :=
  let r := p.nearest (v + 2560) 64
  ((max 0 (min 255 r.1)).toNat, r.2)

/-- COOL_STS and COOL_HEAT show a reading and the balance (R342, R343). -/
def Panel.showCool (p : Panel) (r : Tray) : Panel :=
  let a := p.showTemp r.tin
  let b := a.2.showTemp r.tout
  let f := b.2.nearest r.flow 64
  let p := (((f.2.kset R.coolSts_t_in a.1).kset R.coolSts_t_out b.1).kset R.coolSts_flow (min 255 f.1.toNat)).kset R.coolSts_valid 1
  let tens (q : Q) : Nat := (max 0 (min 65535 ((q.mul ⟨1, 10⟩).floor))).toNat
  p.wr (keeperB + R.coolHeat) (w32 (tens (heatQ p.trays) * 65536 + tens (heatE p.trays)))

/-- TRAY_READ: whether the device answered, and its seven bytes (R339, R340, Table 21.9). -/
def Panel.trayRead (p : Panel) (ack : Bool) (tin tout : Int) (flow st : Nat) : Panel :=
  if !p.keep.ring then p
  else
    let sane (v : Int) : Bool := decide (-20 * 128 ≤ v ∧ v ≤ 120 * 128)
    if ack && st.testBit 0 && sane tin && sane tout && decide (flow ≤ 200 * 64) then
      let r : Tray := ⟨p.now, tin, tout, flow, p.inputPower⟩
      ((p.updKeep (fun k => { k with tray := (r :: k.tray).take 100, fails := 0 })).showCool r).coolWatch
    else ((p.updKeep (fun k => { k with fails := k.fails + 1 })).kset R.coolSts_valid 0).coolWatch

/-- TRAY_READ (R339). -/
def execTrayRead (ack : Bool) (tin tout flow : BitVec 16) (st : BitVec 8) (s : State) : Host.Outcome State Fault Refusal :=
  onPanel (fun p => p.trayRead ack tin.toInt tout.toInt flow.toNat st.toNat) s

/-- THROTTLE_TICK: every second the effective budget falls by a tenth while a condition holds, and rises after 10 s without one; the
keeper cap moves with it while no division can reach the effective budget (R341). -/
def Panel.throttleTick (p : Panel) : Panel :=
  let calm := match p.keep.throttled with | some t => decide (t + 10000000 ≤ p.now) | none => true
  let p :=
    if p.throttleBad then
      let p := p.updKeep (fun k => { k with throttled := some p.now, lowered := min 8 (k.lowered + 1) })
      if p.pool < 0 then p.updKeep (fun k => { k with kcap := max 32 (k.kcap - 8) }) else p
    else if calm then p.updKeep (fun k => { k with lowered := k.lowered - 1, kcap := min 140 (k.kcap + 8) })
    else p
  p.showBudget

/-- THROTTLE_TICK (R341). -/
def execThrottleTick (s : State) : Host.Outcome State Fault Refusal := onPanel (fun p => p.throttleTick) s

end Sys2Proof.Machine
end

