-- ==== Sys2Proof/Machine/Commands.lean ====
section
/-!
DEFINITION. The opcodes of Ranger: queries, tiles and fences, programs and steps, windows, copies, power and clocks (R442, Table 17.10).
-/
namespace Sys2Proof.Machine

open Sys2Proof

/-! Queries. -/

/-- PANEL_QUERY (R442). -/
def execPanelQuery (id : CmdId) (s : State) : Host.Outcome State Fault Refusal :=
  onPanel (fun p => p.start 0x01 id (fun c _ => [(c.soiled {} [], stBadParam)]) (fun c p =>
    let ready := ((List.range 144).filter (fun t => p.tget t R.tileSts_ready == 1)).length
    let cores := ((List.range 9216).filter (fun k => !p.fenced (cidOf k))).length
    p.ok c (toBytes 2 p.panelId ++ toBytes 1 (bits (p.rd (keeperB + R.panelState)) 1 0) ++ toBytes 1 p.activeK ++ toBytes 1 ready ++ [0] ++
      toBytes 2 cores ++ toBytes 4 (p.rd (globB + R.bootSts)).toNat ++ toBytes 2 p.host.cmds.length))) s

/-- The result of HEALTH_READ. -/
def Panel.healthOf (p : Panel) (t : Nat) : List Byte :=
  let fl := p.tget t R.health_suspect + 2 * p.tget t R.health_cand + 4 * p.tget t R.tileMemb_expelled +
    8 * p.tget t R.tileMemb_in_service + 16 * p.tget t R.tileMemb_lost
  toBytes 2 (p.tget t R.health_score) ++ toBytes 1 fl ++ toBytes 1 (p.tget t R.tileMemb_peer) ++
    toBytes 4 (p.rd (tileB t + R.fenceMap)).toNat ++ toBytes 4 (p.rd (tileB t + R.fenceMap + 4)).toNat ++
    toBytes 2 (p.tget t R.tileMemb_epoch)

/-- HEALTH_READ (R442). -/
def execHealthRead (id : CmdId) (s : State) : Host.Outcome State Fault Refusal :=
  onPanel (fun p => p.start 0x02 id (fun c _ => [(c.soiled { t := true } [] || decide (144 ≤ c.tile), stBadParam)])
    (fun c p => p.ok c (p.healthOf c.tile))) s

/-! Tiles, fences and reserves (R401, R402, R417). -/

/-- A command joins those that wait for a region's state. -/
def Panel.joinRegion (p : Panel) (c : Cmd) (t r : Nat) : Panel := p.updRegion t r (fun g => { g with cmds := g.cmds ++ [c.key] })

/-- TILE_ENABLE: every region in NAP or DARK goes to RUN. -/
def Panel.tileEnable (p : Panel) (c : Cmd) : Panel :=
  let t := c.tile
  let rs := (List.range 4).filter (fun r => decide (2 ≤ p.rget t r R.regionState_state))
  let p := p.waitFor c (rs.map (partRegion t))
  p.each rs (fun p r => (p.wakeRegion t r).joinRegion c t r)

/-- TILE_ENABLE (R442). -/
def execTileEnable (id : CmdId) (s : State) : Host.Outcome State Fault Refusal :=
  onPanel (fun p => p.start 0x10 id (fun c p =>
    [(c.soiled { t := true } [] || decide (144 ≤ c.tile), stBadParam),
     (p.gone c.tile || !p.serving c.tile || (List.range 4).any (fun r => p.tooHot c.tile r), stConflict)])
    (fun c p => p.tileEnable c)) s

/-- TILE_FENCE (R401, R406). -/
def execTileFence (id : CmdId) (s : State) : Host.Outcome State Fault Refusal :=
  onPanel (fun p => p.start 0x11 id (fun c p =>
    p.recovery c (c.soiled { t := true } [] || decide (144 ≤ c.tile)) ((List.range 64).all (fun k => p.fenced (cid c.tile k)))
      (p.gone c.tile) [c.tile])
    (fun c p => (p.waitFor c [partEpoch]).fenceCores c.tile (List.range 64) [c.key])) s

/-- A fenced core that R402 lets be readmitted. -/
def Panel.readmittable (p : Panel) (x : Cid) : Bool :=
  p.fenced x && p.usable x && p.regionState x == 0 && p.seqState x == 0

/-- TILE_READMIT: its cores that may be readmitted are; the tile is no longer expelled or lost, and its score is 800. -/
def Panel.tileReadmit (p : Panel) (t : Nat) (cmds : List (Nat × Nat)) : Panel :=
  let xs := ((List.range 64).map (fun k => cid t k)).filter p.readmittable
  let p := p.each xs (fun p x => p.setFence x false)
  let p := ((p.tset t R.tileMemb_expelled 0).tset t R.tileMemb_lost 0).tset t R.health_score 800
  (p.healthStanding t).change [t] cmds

/-- TILE_READMIT (R402, R406). -/
def execTileReadmit (id : CmdId) (s : State) : Host.Outcome State Fault Refusal :=
  onPanel (fun p => p.start 0x12 id (fun c p =>
    let xs := (List.range 64).map (fun k => cid c.tile k)
    p.recovery c (c.soiled { t := true } [] || decide (144 ≤ c.tile))
      (xs.all (fun x => !p.usable x || !p.fenced x) && p.tget c.tile R.tileMemb_expelled == 0 && p.tget c.tile R.tileMemb_lost == 0)
      (!xs.any p.readmittable) [c.tile])
    (fun c p => (p.waitFor c [partEpoch]).tileReadmit c.tile [c.key])) s

/-- CORE_FENCE (R401, R406). -/
def execCoreFence (id : CmdId) (s : State) : Host.Outcome State Fault Refusal :=
  onPanel (fun p => p.start 0x13 id (fun c p =>
    let x := cid c.tile c.core
    p.recovery c (c.soiled { t := true, c := true } [] || decide (144 ≤ c.tile)) (p.fenced x) (p.gone c.tile || !p.usable x) [c.tile])
    (fun c p => (p.waitFor c [partEpoch]).fenceCores c.tile [c.core] [c.key])) s

/-- CORE_READMIT (R402, R406). -/
def execCoreReadmit (id : CmdId) (s : State) : Host.Outcome State Fault Refusal :=
  onPanel (fun p => p.start 0x14 id (fun c p =>
    let x := cid c.tile c.core
    p.recovery c (c.soiled { t := true, c := true } [] || decide (144 ≤ c.tile)) (!p.fenced x) (p.gone c.tile || !p.readmittable x) [c.tile])
    (fun c p => ((p.waitFor c [partEpoch]).setFence (cid c.tile c.core) false).change [c.tile] [c.key])) s

/-- A reserve tile stands IDLE: powered, with no region running or on its way (R316, R417). -/
def Panel.idleTile (p : Panel) (t : Nat) : Bool :=
  (p.tile t).rails && (List.range 4).all (fun r => decide (2 ≤ p.rget t r R.regionState_state) && (p.region t r).up.isNone &&
    (p.region t r).hs.isNone && (p.region t r).commit.isNone)

/-- The states in which a swap of tile t by reserve r is illegal (R417). -/
def Panel.swapConflict (p : Panel) (r t : Nat) : Bool :=
  p.tget r R.tileSts_reserve == 0 || p.tget r R.tileSts_unusable == 1 || p.tget r R.tileMemb_in_service == 1 || !p.idleTile r ||
    (p.swapOf r).isSome || (List.range 64).any (fun k => !p.fenced (cid t k)) || p.keep.img.isNone

/-- SWAP_RESERVE (R406, R417). -/
def execSwapReserve (id : CmdId) (s : State) : Host.Outcome State Fault Refusal :=
  onPanel (fun p => p.start 0x18 id (fun c p =>
    let r := c.p 0
    let t := c.p 1
    p.recovery c (c.soiled {} [0, 1] || decide (144 ≤ r ∨ 144 ≤ t) || r == t || standCentre (standOf t) != r)
      (p.tget r R.tileMemb_in_service == 1 && p.tget r R.tileMemb_peer == t) (p.swapConflict r t) [r, t])
    (fun c p =>
      if p.segmentUp (standOf (c.p 1)) then (p.waitFor c [partEpoch]).swapStart (c.p 0) (c.p 1) (some c.key)
      else p.cmdEnd c.key stHwFault [])) s

/-! Images and programs (R87, R361, R414, R415). -/

/-- IMAGE_LOAD: the IMAGE step, or the KEEPER step for the standby. -/
def imageLoad (pcieErr : Bool) (c : Cmd) (f : Fuses) (p : Panel) : Fuses × Panel :=
  let p := (p.waitFor c [partBoot]).gset R.bootSts_busy 1
  if c.p 12 = 1 then keeperStep c.port (c.pn 0 8) (c.pn 8 4) 1 pcieErr (some c.key) f (p.gset R.bootSts_step 1)
  else (f, (p.gset R.bootSts_step 6).imgStep f c.port (c.pn 0 8) (c.pn 8 4) pcieErr (some c.key))

/-- The checks of IMAGE_LOAD. -/
def imageChecks (c : Cmd) (p : Panel) : List (Bool × Nat) :=
  let kind := c.p 12
  let len := c.pn 8 4
  [(c.soiled {} (span 0 13) || c.pn 0 8 % 4096 != 0 || decide (1 < kind), stBadParam),
   (if kind = 1 then decide (len < 65536 ∨ 16 * 2 ^ 20 < len) else decide (2 * 2 ^ 20 + 65536 < len), stBadLength),
   (if kind = 1 then !p.bootDone 1 else !p.bootDone 4 || p.anyRuns, stConflict),
   (p.loadBusy, stBusy)]

/-- IMAGE_LOAD (R442). -/
def execImageLoad (id : CmdId) (pcieErr : Bool) (s : State) : Host.Outcome State Fault Refusal :=
  onFuses (fun f p => match p.begin 0x20 id with
    | none => (f, p)
    | some c => match (imageChecks c p).find? (·.1) with
      | some (_, st) => (f, p.cmdEnd c.key st [])
      | none => imageLoad pcieErr { c with started := true } f (p.setCmd { c with started := true })) s

/-- The bundles of program bytes. -/
def bundlesOf (bs : List Byte) : List (BitVec 256) := (chunks 32 bs).map (fun b => BitVec.ofNat 256 (ofBytes b))

/-- The half of the program store that a bundle is in (R87). -/
def halfOf (i : Nat) : Nat := i / 1024

/-- A core that runs would have a bundle of its own half written. -/
def Panel.halfClash (p : Panel) (first n : Nat) (x : Cid) : Bool :=
  p.running x && (halfOf first == halfOf (p.pc x) || halfOf (first + n - 1) == halfOf (p.pc x))

/-- The checks of PROGRAM_LOAD. -/
def progChecks (c : Cmd) (p : Panel) : List (Bool × Nat) :=
  let len := c.pn 8 4
  let first := c.pn 12 2
  let xs := maskCores (p.namedServing c) (c.pn 16 8)
  [(c.soiled { t := true } (span 0 14 ++ span 16 8) || c.badT || c.pn 0 8 % 64 != 0, stBadParam),
   (len % 32 != 0 || decide (len < 32 ∨ 65536 < len ∨ 2048 < first + len / 32), stBadLength),
   (p.goneOne c || xs.any (fun x => p.regionState x != 0 || p.halfClash first (len / 32) x), stConflict)]

/-- PROGRAM_LOAD: the bundles go into the program store of each named core that is usable and not fenced; measurement 6 is extended. -/
def Panel.programLoad (p : Panel) (pcieErr : Bool) (c : Cmd) : Panel :=
  if pcieErr then p.cmdEnd c.key stHwFault []
  else
    let bs := p.hostRd c.port (c.pn 0 8) (c.pn 8 4)
    let xs := maskCores (p.namedServing c) (c.pn 16 8)
    let live := xs.filter (fun x => p.usable x && !p.fenced x)
    let p := p.each live (fun p x => p.updSeq x (fun q => q.setBundles (c.pn 12 2) (bundlesOf bs)))
    let p := p.extend 6 (toBytes 1 c.tile ++ toBytes 2 (c.pn 12 2) ++ toBytes 8 (c.pn 16 8) ++ sha256 bs)
    p.ok c (toBytes 2 live.length ++ toBytes 2 (xs.length - live.length))

/-- PROGRAM_LOAD (R87, R442). -/
def execProgramLoad (id : CmdId) (pcieErr : Bool) (s : State) : Host.Outcome State Fault Refusal :=
  onPanel (fun p => p.start 0x21 id progChecks (fun c p => p.programLoad pcieErr c)) s

/-- The cores that PROGRAM_LAUNCH starts. -/
def Panel.launchable (p : Panel) (c : Cmd) : List Cid :=
  (maskCores (p.namedServing c) (c.pn 8 8)).filter (fun x => p.usable x && !p.fenced x)

/-- The checks of PROGRAM_LAUNCH. -/
def launchChecks (c : Cmd) (p : Panel) : List (Bool × Nat) :=
  let live := p.launchable c
  [(c.soiled { t := true } ([0, 1] ++ span 4 12) || c.badT || decide (2048 ≤ c.pn 0 2), stBadParam),
   (p.rd (keeperB + R.panelState) != 0 || p.goneOne c || live.any (fun x => p.regionState x != 0 || p.running x), stConflict),
   (live.any p.startBusy, stBusy)]

/-- PROGRAM_LAUNCH: the cores start at the bundle with s1 set, and are the launch set (R414). -/
def Panel.programLaunch (p : Panel) (c : Cmd) : Panel :=
  let live := p.launchable c
  let i := c.pn 0 2
  let p := p.each live (fun p x => (p.updSeq x (fun q => q.setSreg 1 (w32 (c.pn 4 4)))).launch x i)
  let p := p.updKeep (fun k => { k with launch := live.map (·.key), launchPc := i })
  p.ok c (toBytes 2 live.length)

/-- PROGRAM_LAUNCH (R442). -/
def execProgramLaunch (id : CmdId) (s : State) : Host.Outcome State Fault Refusal :=
  onPanel (fun p => p.start 0x22 id launchChecks (fun c p => p.programLaunch c)) s

/-- STEP_BARRIER (R414). -/
def execStepBarrier (id : CmdId) (s : State) : Host.Outcome State Fault Refusal :=
  onPanel (fun p => p.start 0x23 id (fun c p => [(c.soiled {} (span 0 4), stBadParam), (p.keep.launch.isEmpty, stConflict)])
    (fun c p => (p.waitFor c [partStep]).barrierCheck)) s

/-- STEP_REPLAY: the cores of the launch set that are not fenced are reset, and start again once all the resets have ended (R415). -/
def Panel.stepReplay (p : Panel) (c : Cmd) : Panel :=
  let xs := p.launchSet
  let p := p.updKeep (fun k => { k with replay := some (c.pn 0 4) })
  let p := p.each xs (fun p x => p.coreScope x)
  let parts := p.resetParts xs
  if parts.isEmpty then p.replayGo.ok c [] else p.waitFor c parts

/-- STEP_REPLAY (R406, R415). -/
def execStepReplay (id : CmdId) (s : State) : Host.Outcome State Fault Refusal :=
  onPanel (fun p => p.start 0x24 id (fun c p =>
    p.recovery c (c.soiled {} (span 0 4)) false
      (p.keep.launch.isEmpty || w32 (c.pn 0 4) != p.rd (keeperB + R.stepSts) + 1) ((p.launchSet.map (·.t.val)).eraseDups) ++
      [(p.launchSet.any p.heldRegion, stBusy)])
    (fun c p => p.stepReplay c)) s

/-! Windows (R459, R462). -/

/-- The window that WINDOW_OPEN describes. -/
def winOf (c : Cmd) : Win :=
  let e := Ep.of (c.pn 24 4)
  ⟨e.core, e.unit, c.pn 8 8, c.pn 16 8, c.pn 4 4, c.p 1, c.pn 28 2⟩

/-- The faults of form of a window (R459, R442). -/
def Panel.winBad (p : Panel) (c : Cmd) : Bool :=
  let e := Ep.of (c.pn 24 4)
  let size := if e.unit = 2 then 4 * 2 ^ 20 else 384 * 2 ^ 20
  decide (2 ^ 29 ≤ c.pn 24 4) || (e.unit != 2 && e.unit != 6) || !ofTile p c.tile (c.pn 24 4) || decide (16 ≤ c.p 1) || c.pn 4 4 == 0 ||
    c.pn 8 8 % 64 != 0 || c.pn 16 8 % 64 != 0 || c.pn 16 8 == 0 || decide (size < c.pn 8 8 + c.pn 16 8)

/-- A window opens, and WIN_MAP shows it. -/
def Panel.openWin (p : Panel) (t i : Nat) (w : Win) : Panel :=
  let a := tileB t + R.winMap + 4 * (i / 32)
  (p.updTile t (fun s => { s with wins := sset (fun _ => none) s.wins i (some w) })).wr a (setBits (p.rd a) (i % 32) (i % 32) 1)

/-- WINDOW_OPEN (R459). -/
def execWindowOpen (id : CmdId) (s : State) : Host.Outcome State Fault Refusal :=
  onPanel (fun p => p.start 0x30 id (fun c p =>
    [(c.soiled { t := true } ([0, 1] ++ span 4 26) || decide (144 ≤ c.tile) || p.winBad c, stBadParam),
     (p.gone c.tile || (p.win c.tile (c.p 0) != none && p.win c.tile (c.p 0) != some (winOf c)), stConflict)])
    (fun c p => (p.openWin c.tile (c.p 0) (winOf c)).ok c [])) s

/-- WINDOW_CLOSE (R462). -/
def execWindowClose (id : CmdId) (s : State) : Host.Outcome State Fault Refusal :=
  onPanel (fun p => p.start 0x31 id (fun c p =>
    [(c.soiled { t := true } [0] || decide (144 ≤ c.tile), stBadParam), (p.gone c.tile, stConflict)])
    (fun c p =>
      if p.win c.tile (c.p 0) = none then p.ok c []
      else ((p.waitFor c [partWin]).closeWin c.tile (c.p 0)).winDrain)) s

/-! DMA_COPY (R108 to R110). -/

/-- An end of a copy: unit 2 or 6 of a core of this panel, or the host memory of the port's die. -/
def Panel.copyEnd (p : Panel) (port ep : Nat) : Bool :=
  let e := Ep.of ep
  decide (ep < 2 ^ 29) && e.panel == p.panelId && e.defined &&
    ((e.isDie && e.core == 16 + port && e.unit == 3) || (!e.isDie && (e.unit == 2 || e.unit == 6)))

/-- An end of a copy is of a core that is not usable. -/
def Panel.copyDead (p : Panel) (ep : Nat) : Bool :=
  let e := Ep.of ep
  !e.isDie && !p.usable (cid e.tile e.core)

/-- The checks of DMA_COPY. -/
def copyChecks (c : Cmd) (p : Panel) : List (Bool × Nat) :=
  let src := c.pn 16 4
  let dst := c.pn 20 4
  let len := c.pn 24 4
  [(c.soiled {} (span 0 29) || decide (1 < c.p 28) || c.pn 0 8 % 64 != 0 || c.pn 8 8 % 64 != 0 || !p.copyEnd c.port src ||
      !p.copyEnd c.port dst || (isHostMem src && isHostMem dst), stBadParam),
   (len % 64 != 0 || decide (len < 64 ∨ 256 * 2 ^ 20 < len), stBadLength),
   (p.copyDead src || p.copyDead dst, stConflict)]

/-- DMA_COPY: the engine of the port's die takes the copy. -/
def Panel.dmaCopy (p : Panel) (c : Cmd) : Panel :=
  let d := 16 + c.port
  let job : HJob := ⟨c.key, c.pn 16 4, c.pn 20 4, c.pn 0 8, c.pn 8 8, c.pn 24 4, c.p 28 == 1, 0, [], none⟩
  ((p.waitFor c [partCopy]).updDie d (fun s => { s with jobs := s.jobs ++ [job] })).diePump d

/-- DMA_COPY (R442). -/
def execDmaCopy (id : CmdId) (s : State) : Host.Outcome State Fault Refusal :=
  onPanel (fun p => p.start 0x32 id copyChecks (fun c p => p.dmaCopy c)) s

/-! Power and clocks (R305 to R307, R313 to R324). -/

/-- A region's transition is not one of Table 12.2, or RUN is refused (R17, R332, R442). -/
def Panel.regionConflict (p : Panel) (t r dest : Nat) : Bool :=
  let s := p.rget t r R.regionState_state
  p.gone t || (dest == 1 && decide (2 ≤ s)) || (dest == 2 && s == 3) || (dest == 0 && (p.relayTile t || p.tooHot t r))

/-- A region has a handshake, a power-up or a power-down in progress (R315). -/
def Panel.regionMoving (p : Panel) (t r : Nat) : Bool :=
  (p.region t r).hs.isSome || (p.region t r).up.isSome || (p.region t r).commit.isSome

/-- A region is asked for a state that Table 12.2 lets it take. -/
def Panel.regionTo (p : Panel) (c : Cmd) (t r dest : Nat) : Panel :=
  let s := p.rget t r R.regionState_state
  if s = dest then p.ok c (toBytes 1 dest)
  else
    let p := (p.waitFor c [partRegion t r]).joinRegion c t r
    if dest = 0 then
      if s = 1 then ((p.rset t r R.regionState_state 0).rset t r R.regionState_target 0).updRegion t r (fun g => { g with cmds := [] })
        |>.cmdPart c.key (partRegion t r) 0
      else p.wakeRegion t r
    else if s = 2 then p.regionDown t r 3
    else p.hsStart t r dest

/-- The precondition of a tile's entry to DARK does not hold (R316). -/
def Panel.darkConflict (p : Panel) (t : Nat) : Bool :=
  (p.tile t).rails && !((List.range 4).all (fun r => decide (2 ≤ p.rget t r R.regionState_state)) &&
    (List.range 64).all (fun k => p.routerFree (cid t k)))

/-- A tile leaves or enters DARK (R316). -/
def Panel.tileTo (p : Panel) (c : Cmd) (t dest : Nat) : Panel :=
  if dest = 3 then (if (p.tile t).rails then p.tileOff t else p).ok c (toBytes 1 3)
  else if (p.tile t).rails then p.ok c (toBytes 1 0)
  else if !p.segmentUp (standOf t) then p.cmdEnd c.key stHwFault (toBytes 1 3)
  else (p.waitFor c [partTile t]).updKeep (fun k => { k with queue := k.queue ++ [t] })

/-- The host's side once no host die is powered: nothing waits for the panel, and no port answers. -/
def Panel.hostOff (p : Panel) : Panel :=
  let p := p.each (List.range 4) (fun p n => p.portReset n)
  { p with host := { p.host with cmds := [], arb := .zero } }

/-- STANDBY is entered: tiles go off stand by stand in reverse order, then every ring die but the keepers (R317, R318). -/
def Panel.toStandby (p : Panel) (own : Nat) : Panel :=
  let p := p.each ((List.range 16).reverse.flatMap standTiles) (fun p t => if (p.tile t).rails then p.tileOff t else p)
  let p := p.each (List.range 64) (fun p q => p.ykStop q 0 own)
  let p := p.hostOff
  let p := { p with
    dies := p.dies.filter (fun e => decide (20 ≤ e.1)), ptcs := p.ptcs.filter (fun e => decide (164 ≤ e.1))
    routers := p.routers.filter (fun e => decide (rtrDie 20 ≤ e.1)), links := []
    flights := [], awaits := [], msgs := [] }
  let p := p.clearRegs (fun a => decide (0x4000000 ≤ a ∧ (a < 0x4000000 + 0x2000 * 20 ∨ a % 0x2000 < 0x1000)))
  let p := p.clearCtrs (fun a => decide (keeperB + 0x4000 ≤ a ∧ a < keeperB + 0x4000 + 0x400 * 20))
  let p := p.updKeep (fun k => { k with boot := none, queue := [], signs := [], replay := none, drains := [] })
  (p.gset R.bootSts_busy 0).wr (keeperB + R.panelState) 2

/-- The panel is asked for a state (R317, R318). -/
def Panel.panelTo (p : Panel) (own : Nat) (c : Cmd) (dest : Nat) : Panel :=
  if p.rd (keeperB + R.panelState) = w32 dest then p.ok c (toBytes 1 dest)
  else if dest = 2 then (p.ok c (toBytes 1 2)).toStandby own
  else ((p.wr (keeperB + R.panelState) (w32 dest)).updKeep (fun k => { k with served := true })).ok c (toBytes 1 dest)

/-- The checks of POWER_STATE. -/
def powerChecks (c : Cmd) (p : Panel) : List (Bool × Nat) :=
  let dest := c.p 1
  match c.p 0 with
  | 0 => [(c.soiled { t := true, r := true } [0, 1] || decide (144 ≤ c.tile ∨ 3 < dest), stBadParam),
      (p.regionConflict c.tile c.region dest, stConflict), (p.regionMoving c.tile c.region, stBusy)]
  | 1 => [(c.soiled { t := true } [0, 1] || decide (144 ≤ c.tile) || (dest != 0 && dest != 3), stBadParam),
      (dest == 3 && p.darkConflict c.tile, stConflict),
      (p.keep.queue.contains c.tile || (dest == 3 && (List.range 4).any (fun r => p.regionMoving c.tile r)), stBusy)]
  | 2 => [(c.soiled {} [0, 1] || decide (2 < dest), stBadParam),
      (dest == 2 && (p.rd (keeperB + R.panelState) != 1 || p.anyRuns), stConflict)]
  | _ => [(true, stBadParam)]

/-- POWER_STATE (R314 to R324). -/
def execPowerState (id : CmdId) (s : State) : Host.Outcome State Fault Refusal :=
  onFused (fun f p => p.start 0x40 id powerChecks (fun c p =>
    match c.p 0 with
    | 0 => p.regionTo c c.tile c.region (c.p 1)
    | 1 => p.tileTo c c.tile (c.p 1)
    | _ => p.panelTo (identOf f) c (c.p 1))) s

/-- A pinned region whose voltage is too low for a code (R307). -/
def Panel.pinLow (p : Panel) (t r code : Nat) : Bool := p.rget t r R.vcoreSet_pin == 1 && decide (p.rget t r R.vcoreSet_mv < p.vf t code)

/-- The regions that CLOCK_SET names, by tile and region. -/
def Panel.clockRegions (p : Panel) (c : Cmd) : List (Nat × Nat) :=
  (p.named c).flatMap (fun t => ((List.range 4).filter (fun r => (c.p 0).testBit r)).map (fun r => (t, r)))

/-- A region that runs or holds takes a new target; for another it is recorded (R306). -/
def Panel.clockRegion (p : Panel) (c : Cmd) (t r code : Nat) : Panel :=
  if p.dcoOn t r then p.vfStart t r code (some c.key) else (p.rset t r R.dcoCtl_target code).rset t r R.dcoCtl_pend 1

/-- CLOCK_SET: regions whose pinned voltage is too low are left as they are, and make it end in REFUSED (R305 to R307). -/
def Panel.clockSet (p : Panel) (c : Cmd) : Panel :=
  let code := c.p 1
  let rs := p.clockRegions c
  let go := rs.filter (fun e => !p.pinLow e.1 e.2 code)
  let p := p.waitFor { c with st := if go.length < rs.length then stRefused else stOk }
    ((go.filter (fun e => p.dcoOn e.1 e.2)).map (fun e => partClock e.1 e.2))
  p.each go (fun p e => p.clockRegion c e.1 e.2 code)

/-- CLOCK_SET (R305 to R307). -/
def execClockSet (id : CmdId) (s : State) : Host.Outcome State Fault Refusal :=
  onPanel (fun p => p.start 0x41 id (fun c p =>
    [(c.soiled { t := true } [0, 1] || c.badT || decide (16 ≤ c.p 0 ∨ c.p 1 < 32 ∨ 132 < c.p 1) ||
        (p.named c).any (fun t => (p.tile t).rails && decide (bits (p.rd (tileB t + R.vfPoint + 28)) 7 0 < c.p 1)), stBadParam),
     (p.goneOne c, stConflict)])
    (fun c p => p.clockSet c)) s

/-- A value written to THERM_CTL under its field rules (Table 12.11). -/
def Panel.thermWrite (p : Panel) (t : Nat) (v : W32) : Panel :=
  p.wr (tileB t + R.thermCtl) (setBits (v &&& 0x8FFF00FF) 7 0 (max 60 (min 100 (bits v 7 0))))

/-- THERMAL_POLICY (R329, R442). -/
def execThermalPolicy (id : CmdId) (s : State) : Host.Outcome State Fault Refusal :=
  onPanel (fun p => p.start 0x42 id (fun c p =>
    [(c.soiled { t := true } (span 0 5) || c.badT || c.pn 0 4 &&& 0x7000FF00 != 0 || decide (1 < c.p 4), stBadParam),
     (p.goneOne c, stConflict)])
    (fun c p =>
      let p := p.each (p.named c) (fun p t =>
        let p := p.thermWrite t (w32 (c.pn 0 4))
        if c.p 4 = 1 then p.startCoef t else p)
      p.ok c [])) s

/-- BUDGET_SET (R335). -/
def execBudgetSet (id : CmdId) (s : State) : Host.Outcome State Fault Refusal :=
  onPanel (fun p => p.start 0x43 id (fun c _ =>
    [(c.soiled {} (span 0 4) || decide (c.pn 0 2 < 10000 ∨ 41676 < c.pn 0 2 ∨ c.pn 2 2 < 60 ∨ 310 < c.pn 2 2), stBadParam)])
    (fun c p => (((p.kset R.panelBudget_panel (c.pn 0 2)).kset R.panelBudget_tile_max (c.pn 2 2)).showBudget).ok c [])) s

end Sys2Proof.Machine
end

