-- ==== Sys2Proof/Machine/Commands2.lean ====
section
/-!
DEFINITION. The opcodes of Ranger: resets, route loads, checking and faults, time, the fabric, and trust (R442, Table 17.10).
-/
namespace Sys2Proof.Machine

open Sys2Proof

/-! Resets (R365 to R379). -/

/-- The fields of the target that a scope code reads; none for a code not listed. -/
def scopeReads (code : Nat) : Option Reads :=
  if code = 0 ∨ code = 8 then some { t := true, c := true }
  else if code = 1 ∨ code = 9 then some { t := true, r := true }
  else if code = 2 then some { t := true }
  else if code = 3 ∨ code = 0xA then some { s := true }
  else if code = 0xB then some {}
  else none

/-- The cores that a scope covers, of powered tiles. -/
def Panel.scopeCores (p : Panel) (c : Cmd) : List Cid :=
  let code := c.p 0
  if code = 0 ∨ code = 8 then [cid c.tile c.core]
  else if code = 1 ∨ code = 9 then (regionCores c.region).map (fun k => cid c.tile k)
  else ((scopeTiles c).filter (fun t => (p.tile t).rails)).flatMap (fun t => (List.range 64).map (fun k => cid t k))

/-- A reset of a core, or of its router, is in progress (R379). -/
def Panel.inReset (p : Panel) (x : Cid) : Bool := (p.core x).resetting || (p.router (rtrCore x.t x.c)).resetting || p.draining x

/-- The checks of RESET_SCOPE. -/
def scopeChecks (c : Cmd) (p : Panel) : List (Bool × Nat) :=
  let bad := match scopeReads (c.p 0) with
    | none => true
    | some rd => c.soiled rd [0] || (rd.t && decide (144 ≤ c.tile))
  let one := c.p 0 ∈ [0, 1, 2, 8, 9]
  [(bad, stBadParam), (one && p.gone c.tile, stConflict), ((p.scopeCores c).any p.inReset, stBusy)]

/-- RESET_SCOPE: a compute reset at its instant T (R370 to R374), or the drain of a legacy reset (R377). -/
def Panel.resetScope (p : Panel) (c : Cmd) : Panel :=
  let code := c.p 0
  let xs := p.scopeCores c
  if 8 ≤ code then
    let cores := xs.map (·.key)
    let p := p.waitFor c (partDrain :: xs.map (fun x => partRouter (rtrCore x.t x.c)))
    p.updKeep (fun k => { k with
      drains := k.drains ++ [(cores ++ (if code = 0xB then [legacyPanel] else []), p.now, [c.key])] })
  else
    let p :=
      if code = 0 then p.each xs (fun p x => p.coreScope x)
      else if code = 1 then p.regionReset c.tile c.region
      else p.each (scopeTiles c) (fun p t => p.tileReset t)
    p.waitFor c (p.resetParts xs)

/-- RESET_SCOPE (R365, R379). -/
def execResetScope (id : CmdId) (s : State) : Host.Outcome State Fault Refusal :=
  onPanel (fun p => p.start 0x50 id scopeChecks (fun c p => p.resetScope c)) s

/-- ROUTER_RESET (R375, R376, R379). -/
def execRouterReset (id : CmdId) (s : State) : Host.Outcome State Fault Refusal :=
  onPanel (fun p => p.start 0x51 id (fun c p =>
    let x := cid c.tile c.core
    [(c.soiled { t := true, c := true } [0] || decide (144 ≤ c.tile ∨ 1 < c.p 0), stBadParam),
     (p.gone c.tile || (c.p 0 == 0 && !p.routerFree x), stConflict),
     (p.inReset x, stBusy)])
    (fun c p =>
      let x := cid c.tile c.core
      (p.waitFor c [partRouter (rtrCore x.t x.c)]).routerReset [rtrCore x.t x.c] x)) s

/-! Route loads (R218, R443). -/

/-- The checks of a route load, its image being read where no PCIe error prevents it; done is the boot step that must be done. -/
def routeChecks (fab pcieErr : Bool) (done : Nat) (c : Cmd) (p : Panel) : List (Bool × Nat) :=
  let len := c.pn 8 4
  let chk := if pcieErr || len == 0 || decide (128 * 2 ^ 20 < len) then (stOk, []) else routeCheck fab len (p.hostRd c.port (c.pn 0 8) len)
  [(c.soiled {} (span 0 12) || chk.1 == stBadParam, stBadParam),
   (len == 0 || decide (128 * 2 ^ 20 < len) || chk.1 == stBadLength, stBadLength),
   (!p.bootDone done || (!fab && chk.2.any (fun r => !(p.tile r.t).rails)), stConflict),
   (p.loadBusy, stBusy)]

/-- The routers named take the tables of the image, and measurement 5 is extended. -/
def Panel.routeLoad (p : Panel) (fab pcieErr : Bool) (c : Cmd) : Panel :=
  if pcieErr then p.cmdEnd c.key stHwFault []
  else
    let img := p.hostRd c.port (c.pn 0 8) (c.pn 8 4)
    let p := (routeCheck fab (c.pn 8 4) img).2.foldl (fun (p : Panel) r => if (p.tile r.t).rails then p.loadRec r else p) p
    (p.extend 5 (sha256 img)).ok c []

/-- ROUTE_TABLE_LOAD (R443). -/
def execRouteTableLoad (id : CmdId) (pcieErr : Bool) (s : State) : Host.Outcome State Fault Refusal :=
  onPanel (fun p => p.start 0x58 id (routeChecks false pcieErr 2) (fun c p => p.routeLoad false pcieErr c)) s

/-- Yelkor ports that stood out of the choice take part in it again (R456). -/
def Panel.portsChosen (p : Panel) : Panel :=
  p.each (List.range 64) (fun p q =>
    let p := p.updYk q (fun l => { l with avoid := false })
    if p.ykState q = 6 then p.setYk q 3 else p)

/-- FABRIC_ROUTE_LOAD (R443, R456). -/
def execFabricRouteLoad (id : CmdId) (pcieErr : Bool) (s : State) : Host.Outcome State Fault Refusal :=
  onPanel (fun p => p.start 0x91 id (routeChecks true pcieErr 4) (fun c p =>
    p.routeLoad true pcieErr c |> fun q => if pcieErr then q else q.portsChosen)) s

/-! Checking and faults (R387, R392, R394 to R398). -/

/-- A command is recorded in measurement 7 (R473). -/
def Panel.record (p : Panel) (c : Cmd) : Panel := p.extend 7 (toBytes 64 c.desc.toNat)

/-- CHECK_POLICY (R394). -/
def execCheckPolicy (id : CmdId) (s : State) : Host.Outcome State Fault Refusal :=
  onPanel (fun p => p.start 0x60 id (fun c p =>
    [(c.soiled { t := true } [0] || c.badT || decide (4 ≤ c.p 0), stBadParam), (p.goneOne c, stConflict)])
    (fun c p => ((p.each (p.named c) (fun p t => (p.tset t R.checkCtl_policy (c.p 0)).checkEff t)).record c).ok c [])) s

/-- The cores that a SELFTEST targets (R396). -/
def Panel.testTargets (p : Panel) (c : Cmd) : List Cid := (maskCores [c.tile] (c.pn 0 8)).filter p.usable

/-- SELFTEST: the named cores that are not usable read NONE; the others begin the test. -/
def Panel.selftest (p : Panel) (c : Cmd) : Panel :=
  let xs := p.testTargets c
  let p := p.each ((maskCores [c.tile] (c.pn 0 8)).filter (fun x => !p.usable x)) (fun p x => p.cset x R.selftestRes_result 0)
  (p.each xs (fun p x => p.cset x R.selftestRes_run 1)).waitFor c (xs.map (fun x => partTest x.t x.c))

/-- SELFTEST (R396 to R398). -/
def execSelftest (id : CmdId) (s : State) : Host.Outcome State Fault Refusal :=
  onPanel (fun p => p.start 0x61 id (fun c p =>
    let xs := p.testTargets c
    [(c.soiled { t := true } (span 0 8) || decide (144 ≤ c.tile), stBadParam),
     (p.gone c.tile || xs.any (fun x => p.regionState x != 0 || p.running x), stConflict),
     (xs.any (fun x => p.startBusy x || p.testing x), stBusy)])
    (fun c p => p.selftest c)) s

/-- The collectors that a target names: one tile's, every tile's, or the panel's. -/
def collsOf (c : Cmd) : List Nat := if c.tile = 0xFF then List.range 144 else if c.tile = 0xFE then [144] else [c.tile]

/-- FAULT_READ (R442). -/
def execFaultRead (id : CmdId) (s : State) : Host.Outcome State Fault Refusal :=
  onPanel (fun p => p.start 0x70 id (fun c _ =>
    [(c.soiled { t := true } [] || decide (144 ≤ c.tile ∧ c.tile ≠ 0xFE), stBadParam)])
    (fun c p =>
      let n := if c.tile = 0xFE then 144 else c.tile
      let acts := (List.range 25).foldl (fun v i => if (p.sticky n).testBit i && p.reaction n i != 0 then v + 2 ^ i else v) 0
      p.ok c (toBytes 4 (p.sticky n) ++ toBytes 4 acts ++ toBytes 4 (p.pinVec n)))) s

/-- FAULT_CLEAR (R392). -/
def execFaultClear (id : CmdId) (s : State) : Host.Outcome State Fault Refusal :=
  onPanel (fun p => p.start 0x71 id (fun c _ =>
    [(c.soiled { t := true } (span 0 4) || decide (144 ≤ c.tile ∧ c.tile < 0xFE) || decide (2 ^ 25 ≤ c.pn 0 4), stBadParam)])
    (fun c p => (p.each (collsOf c) (fun p n => p.stickyWrite n (c.pn 0 4) 0 0)).ok c [])) s

/-- A tile's collector reports a change of its pin vector (R388). -/
def Panel.pinNote (p : Panel) (n old : Nat) : Panel := if n < 144 ∧ p.pinVec n ≠ old then p.sendNote n else p

/-- The reaction fields of masked sources written; a collector without power holds none (R387, R366). -/
def Panel.setReactions (p : Panel) (n mask code : Nat) : Panel :=
  if n < 144 ∧ (p.tile n).rails = false then p
  else
    let old := p.pinVec n
    (p.each ((List.range 25).filter (fun i => mask.testBit i)) (fun p i =>
      let a := reactAddr n + 4 * (i / 8)
      p.wr a (setBits (p.rd a) (3 * (i % 8) + 2) (3 * (i % 8)) code))).pinNote n old

/-- REACTION_SET (R387). -/
def execReactionSet (id : CmdId) (s : State) : Host.Outcome State Fault Refusal :=
  onPanel (fun p => p.start 0x72 id (fun c _ =>
    [(c.soiled { t := true } (span 0 5) || decide (144 ≤ c.tile ∧ c.tile < 0xFE) || decide (2 ^ 25 ≤ c.pn 0 4 ∨ 5 < c.p 4), stBadParam)])
    (fun c p => ((p.each (collsOf c) (fun p n => p.setReactions n (c.pn 0 4) (c.p 4))).record c).ok c [])) s

/-! Time (R281, R287 to R289). -/

/-- The master given a value in ns: a step of the master once it has started, and what it starts from before (R281). -/
def Panel.timeSet (p : Panel) (v : Nat) : Panel :=
  let n := p.keeperNode
  match p.ptc n with
  | none => p.updKeep (fun k => { k with ptcInit := some v })
  | some c => (p.setPtc n (some { c with val := v % 2 ^ 64 * Sys2Proof.Machine.ptcNs, slew := 0 })).ptcStepped n

/-- PTC_CTL written: FREE and PPS_CAPTURE run with rate 0, and a YELKOR port without time sync leaves the master in FREE. -/
def Panel.timeSrcSet (p : Panel) (want yport : Nat) : Panel :=
  let src := if want = 3 ∧ p.dieTime (yport / 4) = false then 0 else want
  let p := (p.kset R.ptcCtl_src src).kset R.ptcCtl_yport yport
  let p := if src ≤ 1 then p.wr (keeperB + R.kPtcRate) 0 else p
  if src = 3 then p.updFab (fun f => { f with thops := 255, ytAt := p.now }) else p.setPtcBit p.keeperNode 30 false

/-- TIME_SYNC: PTC_CTL is written, and a value given is taken. -/
def Panel.timeSync_ (p : Panel) (c : Cmd) : Panel :=
  let p := p.timeSrcSet (c.p 1) (c.p 2)
  let p := if c.p 0 = 1 then p.timeSet (c.pn 8 8) else p
  p.ok c (toBytes 1 p.timeSrc)

/-- TIME_SYNC (R287 to R289). -/
def execTimeSync (id : CmdId) (s : State) : Host.Outcome State Fault Refusal :=
  onPanel (fun p => p.start 0x80 id (fun c p =>
    [(c.soiled {} ([0, 1, 2] ++ span 8 8) || decide (1 < c.p 0 ∨ 3 < c.p 1 ∨ 63 < c.p 2), stBadParam), (!p.bootDone 1, stConflict)])
    (fun c p => p.timeSync_ c)) s

/-! The fabric (R452). -/

/-- FABRIC_DISCOVER: named ports start, or repeat HELLO; the others are held OFF; the panel takes the id given, or obtains one. -/
def Panel.discover (p : Panel) (own : Nat) (c : Cmd) : Panel :=
  let mask := c.pn 0 8
  let ports := (List.range 64).filter (fun q => mask.testBit q)
  let p := p.waitFor c [partFabric]
  let p := p.kset R.ykFabSts_auto (if c.p 8 = 0 then 1 else 0)
  let p := p.each ((List.range 64).filter (fun q => !mask.testBit q)) (fun p q => if p.ykState q = 0 then p else p.ykStop q 0 own)
  let p := p.each ports (fun p q =>
    if p.ykState q = 0 ∨ p.ykState q = 5 then
      (p.setYk q 1).updFab (fun f => { f with since := sset (fun _ => 0) f.since q p.now })
    else if p.ykActive q then p.ykSend q (p.helloOf q own)
    else p)
  let p := p.updFab (fun f => { f with disc := some (c.key, ports) })
  let p :=
    if c.p 8 = 1 then p.takeId (c.pn 10 2)
    else if p.kget R.ykFabSts_held = 0 ∧ (p.isRoot || p.keep.fab.parent.isSome) = true then p.askId own
    else p
  p.discCheck

/-- FABRIC_DISCOVER (R452). -/
def execFabricDiscover (id : CmdId) (s : State) : Host.Outcome State Fault Refusal :=
  onFused (fun f p => p.start 0x90 id (fun c p =>
    [(c.soiled {} (span 0 9 ++ [10, 11]) || decide (1 < c.p 8 ∨ 4096 ≤ c.pn 10 2), stBadParam), (!p.bootDone 4, stConflict),
     (p.loadBusy, stBusy)])
    (fun c p => p.discover (identOf f) c)) s

/-! Trust (R474 to R476). -/

/-- ATTEST: the report's content is fixed, and waits for its signature. -/
def Panel.attest (p : Panel) (f : Fuses) (c : Cmd) : Panel :=
  let cert := p.aliasCertNow f
  let total := 16624 + cert.length
  let head := p.reportHead f (toBytes 32 (c.pn 16 32)) total
  (p.waitFor { c with res := toBytes 4 total } [partSign]).addSign ⟨some c.key, c.port, head, head, cert, c.pn 0 8⟩

/-- ATTEST (R475, R476). -/
def execAttest (id : CmdId) (s : State) : Host.Outcome State Fault Refusal :=
  onFused (fun f p => p.start 0xA0 id (fun c p =>
    [(c.soiled {} (span 0 12 ++ span 16 32), stBadParam), (decide (c.pn 8 4 < 16624 + (p.aliasCertNow f).length), stBadLength),
     (!p.bootDone 1, stConflict), (!p.canSign, stBusy)])
    (fun c p => p.attest f c)) s

/-- MEASURE_READ (R474). -/
def execMeasureRead (id : CmdId) (pcieErr : Bool) (s : State) : Host.Outcome State Fault Refusal :=
  onPanel (fun p => p.start 0xA1 id (fun c p =>
    [(c.soiled {} (0 :: span 8 8) || decide (7 < c.p 0), stBadParam), (!p.bootDone 1, stConflict)])
    (fun c p =>
      if pcieErr then p.cmdEnd c.key stHwFault []
      else (p.hostWr c.port (c.pn 8 8) (p.meas (c.p 0))).ok c [])) s

end Sys2Proof.Machine
end

