-- ==== Sys2Proof/Machine/Queues.lean ====
section
/-!
DEFINITION. The queues of the host ports: configuration, doorbells, taking and timing out commands; and the BAR2 apertures (R425, R426,
R428 to R431, R435, R439).
-/
namespace Sys2Proof.Machine

open Sys2Proof

/-! Configuration (R428). -/

/-- A port answers its host (R347). -/
def Panel.portUp (p : Panel) (n : Nat) : Bool := sget (fun _ => false) p.host.up n

/-- A configuration write refused. -/
def Panel.cfgErr (p : Panel) (n q : Nat) : Panel := p.qset n q R.qSts_cfg_err 1

/-- A write of SQ_CFG. -/
def Panel.sqCfgWrite (p : Panel) (n q : Nat) (v : W32) : Panel :=
  let a := hostB n + qOff R.sqCfg q
  let sized := bits v 11 0 != p.qget n q R.sqCfg_size
  if p.qget n q R.sqCfg_en = 1 then (if sized then p.cfgErr n q else p.plainWrite a v)
  else if !bit v 31 then p.plainWrite a v
  else if p.sqBase n q % 4096 ≠ 0 ∨ p.qget n (bits v 21 16) R.cqCfg_en = 0 then (p.plainWrite a (v &&& 0x7FFFFFFF)).cfgErr n q
  else
    let p := (p.plainWrite a v).qset n q R.qSts_sq_head 0
    { p with host := { p.host with sqTail := sset (fun _ => 0) p.host.sqTail (qKey n q) 0 } }

/-- A write of CQ_CFG. -/
def Panel.cqCfgWrite (p : Panel) (n q : Nat) (v : W32) : Panel :=
  let a := hostB n + qOff R.cqCfg q
  let sized := bits v 11 0 != p.qget n q R.cqCfg_size
  let used := (List.range 64).any (fun i => p.qget n i R.sqCfg_en == 1 && p.qget n i R.sqCfg_cq == q)
  if p.qget n q R.cqCfg_en = 1 then (if sized || (!bit v 31 && used) then p.cfgErr n q else p.plainWrite a v)
  else if !bit v 31 then p.plainWrite a v
  else if p.cqBase n q % 4096 ≠ 0 then (p.plainWrite a (v &&& 0x7FFFFFFF)).cfgErr n q
  else
    let p := (p.plainWrite a v).qset n q R.qSts_cq_tail 0
    { p with host := { p.host with
      cqHead := sset (fun _ => 0) p.host.cqHead (qKey n q) 0, phase := sset (fun _ => true) p.host.phase (qKey n q) true } }

/-- SQ_ENABLE: SQ_CFG written with en set (R428). -/
def execSqEnable (port : Fin 4) (q cq : Fin 64) (size : BitVec 12) (s : State) : Host.Outcome State Fault Refusal :=
  onPanel (fun p => if p.portUp port then p.sqCfgWrite port q (w32 (2 ^ 31 + 2 ^ 16 * cq + size.toNat)) else p) s

/-- SQ_DISABLE: SQ_CFG written with en clear (R428). -/
def execSqDisable (port : Fin 4) (q cq : Fin 64) (size : BitVec 12) (s : State) : Host.Outcome State Fault Refusal :=
  onPanel (fun p => if p.portUp port then p.sqCfgWrite port q (w32 (2 ^ 16 * cq + size.toNat)) else p) s

/-- A value of CQ_CFG. -/
def cqCfgOf (en ien : Bool) (vec : BitVec 11) (size : BitVec 12) : W32 :=
  w32 (2 ^ 31 * b2n en + 2 ^ 30 * b2n ien + 2 ^ 16 * vec.toNat + size.toNat)

/-- CQ_ENABLE: CQ_CFG written with en set (R428). -/
def execCqEnable (port : Fin 4) (q : Fin 64) (ien : Bool) (vec : BitVec 11) (size : BitVec 12) (s : State) :
    Host.Outcome State Fault Refusal :=
  onPanel (fun p => if p.portUp port then p.cqCfgWrite port q (cqCfgOf true ien vec size) else p) s

/-- CQ_DISABLE: CQ_CFG written with en clear (R428). -/
def execCqDisable (port : Fin 4) (q : Fin 64) (ien : Bool) (vec : BitVec 11) (size : BitVec 12) (s : State) :
    Host.Outcome State Fault Refusal :=
  onPanel (fun p => if p.portUp port then p.cqCfgWrite port q (cqCfgOf false ien vec size) else p) s

/-! Doorbells (R429). -/

/-- A doorbell value that is out of range, or of a queue that is not enabled, is ignored. -/
def Panel.dbErr (p : Panel) (n q : Nat) : Panel := p.qset n q R.qSts_db_err 1

/-- SQ_TAIL_DOORBELL. -/
def Panel.sqDoorbell (p : Panel) (n q v : Nat) : Panel :=
  if !p.portUp n then p
  else if p.qget n q R.sqCfg_en = 0 ∨ p.sqN n q ≤ v then p.dbErr n q
  else { p with host := { p.host with sqTail := sset (fun _ => 0) p.host.sqTail (qKey n q) v } }

/-- SQ_TAIL_DOORBELL (R429). -/
def execSqTailDoorbell (port : Fin 4) (q : Fin 64) (v : BitVec 32) (s : State) : Host.Outcome State Fault Refusal :=
  onPanel (fun p => p.sqDoorbell port q v.toNat) s

/-- CQ_HEAD_DOORBELL. -/
def Panel.cqDoorbell (p : Panel) (n q v : Nat) : Panel :=
  if !p.portUp n then p
  else if p.qget n q R.cqCfg_en = 0 ∨ p.cqN n q ≤ v then p.dbErr n q
  else { p with host := { p.host with cqHead := sset (fun _ => 0) p.host.cqHead (qKey n q) v } }

/-- CQ_HEAD_DOORBELL (R429). -/
def execCqHeadDoorbell (port : Fin 4) (q : Fin 64) (v : BitVec 32) (s : State) : Host.Outcome State Fault Refusal :=
  onPanel (fun p => p.cqDoorbell port q v.toNat) s

/-! Taking commands (R431, R435, R437). -/

/-- The opcodes of Table 17.10. -/
def opcodes : List Nat :=
  [0x01, 0x02, 0x10, 0x11, 0x12, 0x13, 0x14, 0x18, 0x20, 0x21, 0x22, 0x23, 0x24, 0x30, 0x31, 0x32, 0x40, 0x41, 0x42, 0x43, 0x50,
   0x51, 0x58, 0x60, 0x61, 0x70, 0x71, 0x72, 0x80, 0x90, 0x91, 0xA0, 0xA1]

/-- Ranger runs and serves a port: H-N from the KEEPER step, the others from the ROUTES step (R346, R347). -/
def Panel.serves (p : Panel) (n : Nat) : Bool :=
  p.rangerUp && p.keeperState p.activeK == 2 && !p.standby && p.portUp n && (n == 0 || p.bootDone 4)

/-- The queues that Ranger may take from, by 64·port + q: not empty, with room in their CQ. -/
def Panel.ready (p : Panel) : List Nat :=
  (List.range 256).filter (fun k =>
    let n := k / 64
    let q := k % 64
    p.serves n && p.qget n q R.sqCfg_en == 1 && p.qget n q R.qSts_sq_head != p.sqTail n q && p.cqFree n (p.qget n q R.sqCfg_cq))

/-- A completion entry for a descriptor that does not become a command in flight (R435, R437). -/
def Panel.turnAway (p : Panel) (n q : Nat) (d : BitVec 512) (st : Nat) : Panel :=
  p.cqe n (p.qget n q R.sqCfg_cq) (bits d 31 16) st 0 (bits d 15 0) q (p.qget n q R.qSts_sq_head) []

/-- A command is taken from queue q of port n. -/
def Panel.take (p : Panel) (n q : Nat) (pcieErr : Bool) : Panel :=
  if pcieErr then (p.qset n q R.sqCfg_en 0).qset n q R.qSts_err 1
  else
    let head := p.qget n q R.qSts_sq_head
    let d : BitVec 512 := BitVec.ofNat 512 (ofBytes (p.hostRd n (p.sqBase n q + 64 * head) 64))
    let p := p.qset n q R.qSts_sq_head ((head + 1) % p.sqN n q)
    let tag := bits d 31 16
    if !opcodes.contains (bits d 15 0) then p.turnAway n q d stUnsupported
    else if (p.cmd (n, tag)).isSome then p.turnAway n q d stBadParam
    else { p with host := { p.host with cmds := p.host.cmds ++ [⟨n, q, tag, d, p.now, false, [], 0, [], false⟩] } }

/-- COMMAND_FETCH: the arbiter's choice among the queues is served while fewer than 4,096 commands are in flight. -/
def Panel.fetch (p : Panel) (pcieErr : Bool) : Panel :=
  let present := p.ready
  if 4096 ≤ p.host.cmds.length then p
  else match p.host.arb.pick 256 present with
    | none => p
    | some k => { p with host := { p.host with arb := p.host.arb.after 256 present k } }.take (k / 64) (k % 64) pcieErr

/-- COMMAND_FETCH (R431). -/
def execCommandFetch (pcieErr : Bool) (s : State) : Host.Outcome State Fault Refusal := onPanel (fun p => p.fetch pcieErr) s

/-! Time limits (R439). -/

/-- Regions that a TILE_ENABLE alone asks for and whose power-up has not begun are not powered. -/
def Panel.dropWakes (p : Panel) (c : Cmd) : Panel :=
  p.each (List.range 4) (fun p r =>
    if (p.region c.tile r).cmds = [c.key] ∧ (p.tile c.tile).upq.head? ≠ some r then
      (p.updRegion c.tile r (fun g => { g with up := none, cmds := [] })).updTile c.tile (fun s => { s with upq := s.upq.filter (· != r) })
    else p)

/-- What a command whose time is up has not begun is not begun. -/
def Panel.unbegun (p : Panel) (c : Cmd) : Panel :=
  if c.opcode = 0x10 then p.dropWakes c
  else if c.opcode = 0x18 then
    match p.swapOf (c.p 0) with
    | some w => if w.cmd = some c.key then p.swapFail w.r stTimeout else p
    | none => p
  else if c.opcode = 0x24 then p.updKeep (fun k => { k with replay := none })
  else if c.opcode = 0x32 then
    (p.updDie (16 + c.port) (fun s => { s with
      jobs := s.jobs.map (fun (j : HJob) => if j.key = c.key ∧ j.failed = none then { j with failed := some (j.sent, stTimeout) } else j) }))
      |>.jobsPump (16 + c.port)
  else if c.opcode = 0x40 then
    (if c.p 0 = 1 ∧ p.keep.queue.head? ≠ some c.tile then p.updKeep (fun k => { k with queue := k.queue.filter (· != c.tile) }) else p)
  else if c.opcode = 0x90 then p.updFab (fun f => { f with disc := none })
  else if c.opcode = 0xA0 then p.updKeep (fun k => { k with signs := k.signs.take 1 ++ (k.signs.drop 1).filter (fun r => r.cmd != some c.key) })
  else p

/-- COMMAND_TIMEOUT: the time limit of a command in flight has expired. -/
def Panel.timeout (p : Panel) (k : Nat × Nat) : Panel :=
  match p.cmd k with
  | none => p
  | some c =>
    if p.now < c.taken + 1000 * c.tmo then p
    else if c.started then (p.cmdEnd k stTimeout (p.cmdResult c)).unbegun c
    else p.cmdEnd k stTimeout []

/-- COMMAND_TIMEOUT (R439). -/
def execCommandTimeout (id : CmdId) (s : State) : Host.Outcome State Fault Refusal :=
  onPanel (fun p => p.timeout (id.port, id.tag.toNat)) s

/-! Apertures (R425, R426). -/

/-- The size of the unit that a slot maps. -/
def aperSize (ep : Nat) : Nat := if (Ep.of ep).unit = 2 then 4 * 2 ^ 20 else 384 * 2 ^ 20

/-- The APER_MAP of slot i of a port. -/
def Panel.aperMap (p : Panel) (n i : Nat) : W32 := p.rd (hostB n + R.aperMap + 4 * i)

/-- An access joins those of its die. -/
def Panel.aperAdd (p : Panel) (n ep off len : Nat) (data : Option (List Byte)) : Panel :=
  (p.updDie (16 + n) (fun s => { s with apers := s.apers ++ [⟨ep, off, len, data, false, [], [], false⟩] })).diePump (16 + n)

/-- APERTURE_WRITE: sent, or dropped and counted. -/
def Panel.aperWrite (p : Panel) (n i off : Nat) (data : List Byte) : Panel :=
  let m := p.aperMap n i
  let ep := bits m 28 0
  if !p.portUp n || data.isEmpty then p
  else if off % 64 ≠ 0 ∨ data.length % 64 ≠ 0 ∨ bit m 31 = false ∨ bit m 30 = false ∨ aperSize ep ≤ off then p.aperDrop (16 + n)
  else p.aperAdd n ep off data.length (some data)

/-- APERTURE_WRITE (R425). -/
def execApertureWrite (port : Fin 4) (slot : Fin 64) (off : BitVec 30) (data : List (BitVec 8)) (s : State) :
    Host.Outcome State Fault Refusal :=
  onPanel (fun p => p.aperWrite port slot off.toNat data) s

/-- APERTURE_READ: served, or all ones and counted. -/
def Panel.aperRead (p : Panel) (n i off len : Nat) : Panel :=
  let m := p.aperMap n i
  let ep := bits m 28 0
  if !p.portUp n || len == 0 then p
  else if bit m 31 = false ∨ aperSize ep ≤ off then
    let p := p.aperDrop (16 + n)
    { p with host := { p.host with out := p.host.out ++ [(n, List.replicate len 255)] } }
  else p.aperAdd n ep off len none

/-- APERTURE_READ (R425, R426). -/
def execApertureRead (port : Fin 4) (slot : Fin 64) (off : BitVec 30) (len : Fin 4097) (s : State) :
    Host.Outcome State Fault Refusal :=
  onPanel (fun p => p.aperRead port slot off.toNat len) s

end Sys2Proof.Machine
end

