-- ==== Sys2Proof/Machine/Registers.lean ====
section
/-!
DEFINITION. The register map as the host and the BMC reach it: reads, writes, and what writes of particular registers do (R346, R347, R478
to R494, R502, R511, R513).
-/
namespace Sys2Proof.Machine

open Sys2Proof

/-! Reachability (R346, R347, R478, R488). -/

/-- The blocks outside a port's own are reachable through it: H-N from the start, the others once the ROUTES step is done. -/
def Panel.portOpen (p : Panel) (n : Nat) : Bool := n == 0 || p.bootDone 4

/-- A block is reachable through port n. -/
def Panel.blkReachable (p : Panel) (n : Nat) (b : Blk) : Bool :=
  let tile (t : Nat) := p.portOpen n && (p.pathFrom (16 + n)).any (fun e => e.1 == t)
  match b with
  | .glob _ => p.keep.ring && !p.standby && p.portOpen n
  | .keep _ => p.keep.ring && !p.standby && p.portOpen n
  | .host m _ => m == n || (p.bootDone 4 && (p.die (16 + m)).rails)
  | .tile t _ => tile t
  | .region t _ _ => tile t
  | .link t _ _ => tile t
  | .core t _ _ => tile t
  | .none => true

/-- The MSI-X table and pending bits of another port (R488). -/
def farMsix (n : Nat) : Blk → Bool
  | .host m o => m != n && decide (0x1000 ≤ o)
  | _ => false

/-! Reads. -/

/-- TALLY_DATA shows the word that TALLY_IDX selects, corrected, from the active keeper's copy, from the end of step 1 on; what a word
that cannot be corrected reads as is left open (R355). -/
def Panel.showTally (p : Panel) (f : Fuses) : Panel :=
  let idx := p.rd (globB + R.tallyIdx)
  let put (p : Panel) (w : W64) : Panel :=
    (p.wr (globB + R.tallyData) (w32 w.toNat)).wr (globB + R.tallyData + 4) (w32 (w.toNat / 2 ^ 32))
  if !p.bootDone 1 then p
  else if 143 < bits idx 23 16 ∨ 619 < bits idx 9 0 then put p 0
  else match f.copy p.activeK (bits idx 23 16) (bits idx 9 0) with
    | some w => put p w
    | none => (put p (Config.freeWord p.free)).tookFree

/-- A 32-bit read of the register at a BAR0 address through a port: the value, and the panel after it. -/
def Panel.hostRead (p : Panel) (f : Fuses) (n a : Nat) : W32 × Panel :=
  let b := blkOf a
  if !p.blkReachable n b then (0xFFFFFFFF, p)
  else if farMsix n b then (0, p)
  else (if a = globB + R.tallyData ∨ a = globB + R.tallyData + 4 then p.showTally f else p).regRead n a

/-- LO_READ_LATCH: a read of a register, by word number; a read of LO latches HI (R481). -/
def execLoReadLatch (port : Fin 4) (w : BitVec 24) (s : State) : Host.Outcome State Fault Refusal :=
  onFused (fun f p =>
    if p.portUp port then
      let r := p.hostRead f port (4 * w.toNat)
      { r.2 with host := { r.2.host with out := r.2.host.out ++ [(port.val, toBytes 4 r.1.toNat)] } }
    else p) s

/-! Writes of the global and keeper blocks. -/

/-- A write of BOOT_CTL (Table 13.1, R348). -/
def bootCtlWrite (v : W32) (f : Fuses) (p : Panel) : Fuses × Panel :=
  let step := bits v 27 24
  let ksel := bits v 17 16
  if !bit v 31 then (f, p.plainWrite (globB + R.bootCtl) v)
  else if step = 1 then keeperGo ksel false f p
  else
    (f, if step = 2 then p.tallyGo f ksel
      else if step = 3 then p.bootGo 3 ksel Panel.powerStep
      else if step = 4 then p.routesGo ksel false
      else if step = 5 then p.ptcGo ksel
      else if step = 6 then p.imageGo f ksel false
      else p.bootGo step ksel id)

/-- A write in the global block. -/
def globWrite (o : Nat) (v : W32) (f : Fuses) (p : Panel) : Fuses × Panel :=
  if o = R.bootCtl then bootCtlWrite v f p
  else if o = R.tallyRecCtl then tallyWrite v f p
  else (f, p.plainWrite (globB + o) v)

/-- Reaction fields written in word i of a collector; a field given a reserved code keeps its value (Table 15.7). -/
def Panel.reactWrite (p : Panel) (n i : Nat) (v : W32) : Panel :=
  let a := reactAddr n + 4 * i
  let old := p.pinVec n
  let fields := (List.range 8).filter (fun j => 8 * i + j < 25 ∧ bits v (3 * j + 2) (3 * j) < 6)
  (p.wr a (fields.foldl (fun r j => setBits r (3 * j + 2) (3 * j) (bits v (3 * j + 2) (3 * j))) (p.rd a))).pinNote n old

/-- A write in the keeper block. -/
def Panel.keepWrite (p : Panel) (o : Nat) (v : W32) : Panel :=
  if o = R.kFcSticky then p.stickyWrite 144 (bits v 24 0) 0 0
  else if R.kFcReact ≤ o ∧ o < R.kFcReact + 16 ∧ o % 4 = 0 then p.reactWrite 144 ((o - R.kFcReact) / 4) v
  else if o = R.alertSts then p.alertClear (bits v 2 0)
  else if o = R.ptcCtl then p.timeSrcSet (bits v 1 0) (bits v 13 8)
  else if o = R.panelBudget then (p.plainWrite (keeperB + o) v).showBudget
  else p.plainWrite (keeperB + o) v

/-! Writes of the host-port blocks. -/

/-- An MSI-X vector control written: a vector that is unmasked while its pending bit is set is sent (R488). -/
def Panel.msixWrite (p : Panel) (n o : Nat) (v : W32) : Panel :=
  let p := p.plainWrite (hostB n + o) v
  let i := (o - 0x8000) / 16
  let a := hostB n + 0x1000 + 4 * (i / 32)
  if o % 16 = 12 ∧ bit v 0 = false ∧ bit (p.rd a) (i % 32) then (p.wr a (setBits (p.rd a) (i % 32) (i % 32) 0)).msix n i
  else p

/-- APER_MAP written: a value that names another unit than 2 or 6 of a core of this panel is ignored (Table 17.6). -/
def Panel.aperMapWrite (p : Panel) (n o : Nat) (v : W32) : Panel :=
  let e := Ep.of (bits v 28 0)
  if e.defined && !e.isDie && (e.unit == 2 || e.unit == 6) && e.panel == p.panelId then p.plainWrite (hostB n + o) v else p

/-- A write in a port's block. -/
def Panel.hostBlkWrite (p : Panel) (n o : Nat) (v : W32) : Panel :=
  let q := o / 0x20
  let r := o % 0x20
  if o < 0x800 then
    if (r = R.sqBaseLo ∨ r = R.sqBaseHi) ∧ p.qget n q R.sqCfg_en = 1 then p.cfgErr n q
    else if (r = R.cqBaseLo ∨ r = R.cqBaseHi) ∧ p.qget n q R.cqCfg_en = 1 then p.cfgErr n q
    else if r = R.sqCfg then p.sqCfgWrite n q v
    else if r = R.cqCfg then p.cqCfgWrite n q v
    else p.plainWrite (hostB n + o) v
  else if o < 0x900 then p.aperMapWrite n o v
  else if 0x8000 ≤ o then p.msixWrite n o v
  else p.plainWrite (hostB n + o) v

/-! Writes of the tile blocks. -/

/-- A write among a tile's registers. -/
def Panel.tileWrite (p : Panel) (t o : Nat) (v : W32) : Panel :=
  if o = R.fcSticky then p.stickyWrite t (bits v 24 0) 0 0
  else if R.fcReact ≤ o ∧ o < R.fcReact + 16 ∧ o % 4 = 0 then p.reactWrite t ((o - R.fcReact) / 4) v
  else if o = R.checkCtl then (p.plainWrite (tileB t + o) v).checkEff t
  else if o = R.thermCtl then p.thermWrite t v
  else p.plainWrite (tileB t + o) v

/-- A write in a sub-link's block; one of a terminated port ignores it (R492). -/
def Panel.linkBlkWrite (p : Panel) (t j o : Nat) (v : W32) : Panel :=
  if termPort t (j / 8) then p
  else if o = 0 then p.linkCtlWrite (mkTileEnd t j) v
  else p.plainWrite (linkB t j + o) v

/-- A 32-bit write of the register at a BAR0 address through a port (R479, R488). -/
def hostWrite (n a : Nat) (v : W32) (f : Fuses) (p : Panel) : Fuses × Panel :=
  let b := blkOf a
  if !p.blkReachable n b || farMsix n b then (f, p)
  else match b with
    | .glob o => globWrite o v f p
    | .keep o => (f, p.keepWrite o v)
    | .host m o => (f, p.hostBlkWrite m o v)
    | .tile t o => (f, p.tileWrite t o v)
    | .region t r o => (f, if o = R.vcoreSet then p.vcoreWrite t r v else p.plainWrite (regionB t r + o) v)
    | .link t j o => (f, p.linkBlkWrite t j o v)
    | .core t c o => (f, p.coreWrite (cid t c) o v)
    | .none => (f, p)

/-- REGISTER_WRITE: a write of the register of a word number through a port; one that does not enable all four bytes is ignored
(R479). -/
def execRegisterWrite (port : Fin 4) (w : BitVec 24) (be : BitVec 4) (v : BitVec 32) (s : State) : Host.Outcome State Fault Refusal :=
  onFuses (fun f p => if p.portUp port && be == 15 then hostWrite port (4 * w.toNat) v f p else (f, p)) s

/-! Sideband (R502, R511, R513). -/

/-- CAGE_OVERCURRENT: a cage's supply is removed and its port goes DOWN (R502). -/
def execCageOvercurrent (q : Fin 64) (s : State) : Host.Outcome State Fault Refusal :=
  onFused (fun f p =>
    if p.keep.ring then (p.updFab (fun g => { g with cages := g.cages.filter (· != q.val) ++ [q.val] })).ykDown q (identOf f) else p) s

/-- The BMC's target changed; in OFF it does not acknowledge (R511). -/
def Panel.updBmc (p : Panel) (g : Bmc → Bmc) : Panel := if p.keep.ring then p.updKeep (fun k => { k with bmc := g k.bmc }) else p

/-- SETDASA: the target at the static address 0x3A takes a dynamic address (R511). -/
def execSetdasa (addr : BitVec 7) (s : State) : Host.Outcome State Fault Refusal :=
  onPanel (fun p => p.updBmc (fun b => if b.addr.isNone then { b with addr := some addr.toNat } else b)) s

/-- ENTDAA: a target without a dynamic address takes one by arbitration (R511). -/
def execEntdaa (addr : BitVec 7) (s : State) : Host.Outcome State Fault Refusal :=
  onPanel (fun p => p.updBmc (fun b => { b with addr := some (b.addr.getD addr.toNat) })) s

/-- ENEC: in-band interrupts are enabled, and each ALERT_STS bit that has raised none raises one (R511). -/
def Panel.enec (p : Panel) : Panel :=
  let a := (p.rd (keeperB + R.alertSts)).toNat
  p.updBmc (fun b =>
    let fresh := (List.range 3).filter (fun i => a.testBit i && !b.raised.testBit i)
    { b with ibi := true, raised := fresh.foldl (fun v i => withBit v i true) b.raised, count := b.count + fresh.length })

/-- ENEC (R511). -/
def execEnec (s : State) : Host.Outcome State Fault Refusal := onPanel Panel.enec s

/-- A private write to the target: ALERT_STS and BMC_WAKE take writes, and other offsets ignore them (Table 21.6). -/
def Panel.bmcWrite (p : Panel) (off : Nat) (v : W32) : Panel :=
  if !p.keep.ring then p
  else if off = 0x10 then p.alertClear (bits v 2 0)
  else if off = 0x14 then p.bmcWake v
  else p

/-- BMC_REGISTER_WRITE (R511). -/
def execBmcRegisterWrite (off : BitVec 8) (v : BitVec 32) (s : State) : Host.Outcome State Fault Refusal :=
  onPanel (fun p => p.bmcWrite off.toNat v) s

/-- REFCLK_LOST: port n's link goes down (R513). -/
def execRefclkLost (n : Fin 4) (s : State) : Host.Outcome State Fault Refusal :=
  onPanel (fun p => { p with host := { p.host with up := sset (fun _ => false) p.host.up n false } }) s

end Sys2Proof.Machine
end

