-- ==== Sys2Proof/Machine/Dispatch.lean ====
section
/-!
DEFINITION. The dispatch of a command to its meaning: one arm for each constructor of Instr.
-/
namespace Sys2Proof.Machine

open Sys2Proof

/-- The effect of a command on everything but the queue. -/
def exec (i : Instr) (s : State) : Host.Outcome State Fault Refusal :=
  match i with
  | .bundleIssue x req => Sys2Proof.Machine.execBundleIssue x req s
  | .nop x => Sys2Proof.Machine.execNop x s
  | .jmp x target => Sys2Proof.Machine.execJmp x target s
  | .br x cond reg target => Sys2Proof.Machine.execBr x cond reg target s
  | .loop x reg last => Sys2Proof.Machine.execLoop x reg last s
  | .setl x reg imm => Sys2Proof.Machine.execSetl x reg imm s
  | .seth x reg imm => Sys2Proof.Machine.execSeth x reg imm s
  | .addi x reg imm => Sys2Proof.Machine.execAddi x reg imm s
  | .strm x stream base stride count => Sys2Proof.Machine.execStrm x stream base stride count s
  | .gmode x entry a b c => Sys2Proof.Machine.execGmode x entry a b c s
  | .dmaq x addr => Sys2Proof.Machine.execDmaq x addr s
  | .postr x token ep amount => Sys2Proof.Machine.execPostr x token ep amount s
  | .wreg x reg off => Sys2Proof.Machine.execWreg x reg off s
  | .rreg x reg off => Sys2Proof.Machine.execRreg x reg off s
  | .reti x => Sys2Proof.Machine.execReti x s
  | .halt x => Sys2Proof.Machine.execHalt x s
  | .vec x mode row stream side sstream => Sys2Proof.Machine.execVec x mode row stream side sstream s
  | .open_ x mode first groups anchor chk => Sys2Proof.Machine.execOpen x mode first groups anchor chk s
  | .read x mode row planer stream => Sys2Proof.Machine.execRead x mode row planer stream s
  | .swap x => Sys2Proof.Machine.execSwap x s
  | .load x mode chk addr => Sys2Proof.Machine.execLoad x mode chk addr s
  | .weightLoadDone x => Sys2Proof.Machine.execWeightLoadDone x s
  | .heldWeightMismatch x k col code => Sys2Proof.Machine.execHeldWeightMismatch x k col code s
  | .srd x reg addr => Sys2Proof.Machine.execSrd x reg addr s
  | .swr x reg addr => Sys2Proof.Machine.execSwr x reg addr s
  | .trapEntry x => Sys2Proof.Machine.execTrapEntry x s
  | .watchdogExpiry x => Sys2Proof.Machine.execWatchdogExpiry x s
  | .descriptorStart x => Sys2Proof.Machine.execDescriptorStart x s
  | .copy x k => Sys2Proof.Machine.execCopy x k s
  | .gather x k => Sys2Proof.Machine.execGather x k s
  | .scatter x k => Sys2Proof.Machine.execScatter x k s
  | .dispatch x k => Sys2Proof.Machine.execDispatch x k s
  | .descriptorWriteback x k => Sys2Proof.Machine.execDescriptorWriteback x k s
  | .scrubWriteback x bank => Sys2Proof.Machine.execScrubWriteback x bank s
  | .coreRetainWrite x v => Sys2Proof.Machine.execCoreRetainWrite x v s
  | .larderEnable x v => Sys2Proof.Machine.execLarderEnable x v s
  | .larderDisable x v => Sys2Proof.Machine.execLarderDisable x v s
  | .larderRel x v => Sys2Proof.Machine.execLarderRel x v s
  | .larderArrival x id => Sys2Proof.Machine.execLarderArrival x id s
  | .larderRefill x => Sys2Proof.Machine.execLarderRefill x s
  | .larderTimeout x => Sys2Proof.Machine.execLarderTimeout x s
  | .smax x sl => Sys2Proof.Machine.execSmax x sl s
  | .ofold x sl => Sys2Proof.Machine.execOfold x sl s
  | .odiv x sl => Sys2Proof.Machine.execOdiv x sl s
  | .lpack x sl => Sys2Proof.Machine.execLpack x sl s
  | .lmerge x sl => Sys2Proof.Machine.execLmerge x sl s
  | .stat x sl => Sys2Proof.Machine.execStat x sl s
  | .norm x sl => Sys2Proof.Machine.execNorm x sl s
  | .act x sl => Sys2Proof.Machine.execAct x sl s
  | .quant x sl => Sys2Proof.Machine.execQuant x sl s
  | .scan x sl => Sys2Proof.Machine.execScan x sl s
  | .lclr x sl => Sys2Proof.Machine.execLclr x sl s
  | .planerInboxWrite x id => Sys2Proof.Machine.execPlanerInboxWrite x id s
  | .dramAccess x => Sys2Proof.Machine.execDramAccess x s
  | .dramReadDone x k => Sys2Proof.Machine.execDramReadDone x k s
  | .refresh x bank => Sys2Proof.Machine.execRefresh x bank s
  | .dramScrubWrite x bank => Sys2Proof.Machine.execDramScrubWrite x bank s
  | .dramRetire x v => Sys2Proof.Machine.execDramRetire x v s
  | .retirementDone x => Sys2Proof.Machine.execRetirementDone x s
  | .dramInitDone x => Sys2Proof.Machine.execDramInitDone x s
  | .wardenSample t die dram pw draw => Sys2Proof.Machine.execWardenSample t die dram pw draw s
  | .packetInject r h0 h1 h2 h3 payload => Sys2Proof.Machine.execPacketInject r h0 h1 h2 h3 payload s
  | .packetRoute id => Sys2Proof.Machine.execPacketRoute id s
  | .packetCommit id => Sys2Proof.Machine.execPacketCommit id s
  | .write id => Sys2Proof.Machine.execWrite id s
  | .readPacket id => Sys2Proof.Machine.execReadPacket id s
  | .rdata id => Sys2Proof.Machine.execRdata id s
  | .post id => Sys2Proof.Machine.execPost id s
  | .status id => Sys2Proof.Machine.execStatus id s
  | .rspTimeout src xfer => Sys2Proof.Machine.execRspTimeout src xfer s
  | .portDown x port => Sys2Proof.Machine.execPortDown x port s
  | .routerInternalFault r => Sys2Proof.Machine.execRouterInternalFault r s
  | .arbStarve x arb q => Sys2Proof.Machine.execArbStarve x arb q s
  | .dataFrame e d sd => Sys2Proof.Machine.execDataFrame e d sd s
  | .idleFrame e d sd => Sys2Proof.Machine.execIdleFrame e d sd s
  | .ctrlFrame e d sd t => Sys2Proof.Machine.execCtrlFrame e d sd t s
  | .nak e seq => Sys2Proof.Machine.execNak e seq s
  | .replayTimeout e => Sys2Proof.Machine.execReplayTimeout e s
  | .replayLimit e => Sys2Proof.Machine.execReplayLimit e s
  | .linkMessageRepeat e => Sys2Proof.Machine.execLinkMessageRepeat e s
  | .cap e m => Sys2Proof.Machine.execCap e m s
  | .capAck e m => Sys2Proof.Machine.execCapAck e m s
  | .phase e ph => Sys2Proof.Machine.execPhase e ph s
  | .phaseSwitch e => Sys2Proof.Machine.execPhaseSwitch e s
  | .eq e m => Sys2Proof.Machine.execEq e m s
  | .ping e m turn => Sys2Proof.Machine.execPing e m turn s
  | .pong e m rt => Sys2Proof.Machine.execPong e m rt s
  | .retrainReq e => Sys2Proof.Machine.execRetrainReq e s
  | .retrainAck e refuse => Sys2Proof.Machine.execRetrainAck e refuse s
  | .down e reason => Sys2Proof.Machine.execDown e reason s
  | .spare e m => Sys2Proof.Machine.execSpare e m s
  | .trainingStart e => Sys2Proof.Machine.execTrainingStart e s
  | .clockLock e => Sys2Proof.Machine.execClockLock e s
  | .censusEnd e bad => Sys2Proof.Machine.execCensusEnd e bad s
  | .trainIdleEnd e => Sys2Proof.Machine.execTrainIdleEnd e s
  | .trainLoadedEnd e ms => Sys2Proof.Machine.execTrainLoadedEnd e ms s
  | .phaseTimeout e => Sys2Proof.Machine.execPhaseTimeout e s
  | .marginLow e m => Sys2Proof.Machine.execMarginLow e m s
  | .linkCtlRetrain e v => Sys2Proof.Machine.execLinkCtlRetrain e v s
  | .retrainDone e bad pass => Sys2Proof.Machine.execRetrainDone e bad pass s
  | .pllLock n => Sys2Proof.Machine.execPllLock n s
  | .refLost n => Sys2Proof.Machine.execRefLost n s
  | .refReturn n => Sys2Proof.Machine.execRefReturn n s
  | .adaptWindow x slack => Sys2Proof.Machine.execAdaptWindow x slack s
  | .droopTrip x cycles => Sys2Proof.Machine.execDroopTrip x cycles s
  | .droopClear x cycles => Sys2Proof.Machine.execDroopClear x cycles s
  | .dcoLock x => Sys2Proof.Machine.execDcoLock x s
  | .timeTick => Sys2Proof.Machine.execTimeTick s
  | .time n ttx trx => Sys2Proof.Machine.execTime n ttx trx s
  | .timeHoldover n => Sys2Proof.Machine.execTimeHoldover n s
  | .timeTreeReform => Sys2Proof.Machine.execTimeTreeReform s
  | .ppsEdge frac => Sys2Proof.Machine.execPpsEdge frac s
  | .ppsLost => Sys2Proof.Machine.execPpsLost s
  | .feedSample va vb ia ib => Sys2Proof.Machine.execFeedSample va vb ia ib s
  | .powerCollapse => Sys2Proof.Machine.execPowerCollapse s
  | .ibcFailure seg => Sys2Proof.Machine.execIbcFailure seg s
  | .polFault t => Sys2Proof.Machine.execPolFault t s
  | .regCellFail x => Sys2Proof.Machine.execRegCellFail x s
  | .headerStage x a b => Sys2Proof.Machine.execHeaderStage x a b s
  | .admitForce x a b => Sys2Proof.Machine.execAdmitForce x a b s
  | .tileAdmit t => Sys2Proof.Machine.execTileAdmit t s
  | .vfStep x => Sys2Proof.Machine.execVfStep x s
  | .vcoreSetWrite x v => Sys2Proof.Machine.execVcoreSetWrite x v s
  | .prepareRetry x unit => Sys2Proof.Machine.execPrepareRetry x unit s
  | .prepareAnswer x unit => Sys2Proof.Machine.execPrepareAnswer x unit s
  | .entryCommit x => Sys2Proof.Machine.execEntryCommit x s
  | .handshakeTimeout x => Sys2Proof.Machine.execHandshakeTimeout x s
  | .wakeOnPacket x => Sys2Proof.Machine.execWakeOnPacket x s
  | .regionWakeDone x => Sys2Proof.Machine.execRegionWakeDone x s
  | .regionSwitchOff x => Sys2Proof.Machine.execRegionSwitchOff x s
  | .analogTrip x => Sys2Proof.Machine.execAnalogTrip x s
  | .reportTick t => Sys2Proof.Machine.execReportTick t s
  | .report t => Sys2Proof.Machine.execReport t s
  | .budgetTick => Sys2Proof.Machine.execBudgetTick s
  | .budget t => Sys2Proof.Machine.execBudget t s
  | .budgetStale t => Sys2Proof.Machine.execBudgetStale t s
  | .trayRead ack tin tout flow st => Sys2Proof.Machine.execTrayRead ack tin tout flow st s
  | .throttleTick => Sys2Proof.Machine.execThrottleTick s
  | .bmcWake v => Sys2Proof.Machine.execBmcWake v s
  | .bringupStart sel => Sys2Proof.Machine.execBringupStart sel s
  | .perstRelease n => Sys2Proof.Machine.execPerstRelease n s
  | .hostPortReset n => Sys2Proof.Machine.execHostPortReset n s
  | .panelReset pin => Sys2Proof.Machine.execPanelReset pin s
  | .keeper ksel pcieErr => Sys2Proof.Machine.execKeeper ksel pcieErr s
  | .tally => Sys2Proof.Machine.execTally s
  | .power => Sys2Proof.Machine.execPower s
  | .tileRailsUp t => Sys2Proof.Machine.execTileRailsUp t s
  | .routes pcieErr => Sys2Proof.Machine.execRoutes pcieErr s
  | .ptcStart => Sys2Proof.Machine.execPtcStart s
  | .image pcieErr => Sys2Proof.Machine.execImage pcieErr s
  | .imageCheck x => Sys2Proof.Machine.execImageCheck x s
  | .bootStepDone => Sys2Proof.Machine.execBootStepDone s
  | .tallyRecCtl v => Sys2Proof.Machine.execTallyRecCtl v s
  | .tallyVoid slot tile => Sys2Proof.Machine.execTallyVoid slot tile s
  | .tallyRecordDone ok => Sys2Proof.Machine.execTallyRecordDone ok s
  | .tileReady t => Sys2Proof.Machine.execTileReady t s
  | .computeReset x => Sys2Proof.Machine.execComputeReset x s
  | .computeResetDone x => Sys2Proof.Machine.execComputeResetDone x s
  | .legacyDrainEnd => Sys2Proof.Machine.execLegacyDrainEnd s
  | .routerResetDone x => Sys2Proof.Machine.execRouterResetDone x s
  | .faultNote t => Sys2Proof.Machine.execFaultNote t s
  | .faultNoteTick t => Sys2Proof.Machine.execFaultNoteTick t s
  | .fcStickyWrite n v ev c => Sys2Proof.Machine.execFcStickyWrite n v ev c s
  | .selftestDone x mask => Sys2Proof.Machine.execSelftestDone x mask s
  | .epochIncrement => Sys2Proof.Machine.execEpochIncrement s
  | .epoch n => Sys2Proof.Machine.execEpoch n s
  | .epochAck n => Sys2Proof.Machine.execEpochAck n s
  | .epochAckTimeout t => Sys2Proof.Machine.execEpochAckTimeout t s
  | .heartbeatLost t => Sys2Proof.Machine.execHeartbeatLost t s
  | .healthRise t => Sys2Proof.Machine.execHealthRise t s
  | .health t => Sys2Proof.Machine.execHealth t s
  | .expulsion t => Sys2Proof.Machine.execExpulsion t s
  | .governorTick => Sys2Proof.Machine.execGovernorTick s
  | .mirror => Sys2Proof.Machine.execMirror s
  | .skidHeartbeat => Sys2Proof.Machine.execSkidHeartbeat s
  | .keeperTakeover relayed => Sys2Proof.Machine.execKeeperTakeover relayed s
  | .panelQuery id => Sys2Proof.Machine.execPanelQuery id s
  | .healthRead id => Sys2Proof.Machine.execHealthRead id s
  | .tileEnable id => Sys2Proof.Machine.execTileEnable id s
  | .tileFence id => Sys2Proof.Machine.execTileFence id s
  | .tileReadmit id => Sys2Proof.Machine.execTileReadmit id s
  | .coreFence id => Sys2Proof.Machine.execCoreFence id s
  | .coreReadmit id => Sys2Proof.Machine.execCoreReadmit id s
  | .swapReserve id => Sys2Proof.Machine.execSwapReserve id s
  | .imageLoad id pcieErr => Sys2Proof.Machine.execImageLoad id pcieErr s
  | .programLoad id pcieErr => Sys2Proof.Machine.execProgramLoad id pcieErr s
  | .programLaunch id => Sys2Proof.Machine.execProgramLaunch id s
  | .stepBarrier id => Sys2Proof.Machine.execStepBarrier id s
  | .stepReplay id => Sys2Proof.Machine.execStepReplay id s
  | .windowOpen id => Sys2Proof.Machine.execWindowOpen id s
  | .windowClose id => Sys2Proof.Machine.execWindowClose id s
  | .dmaCopy id => Sys2Proof.Machine.execDmaCopy id s
  | .powerState id => Sys2Proof.Machine.execPowerState id s
  | .clockSet id => Sys2Proof.Machine.execClockSet id s
  | .thermalPolicy id => Sys2Proof.Machine.execThermalPolicy id s
  | .budgetSet id => Sys2Proof.Machine.execBudgetSet id s
  | .resetScope id => Sys2Proof.Machine.execResetScope id s
  | .routerReset id => Sys2Proof.Machine.execRouterReset id s
  | .routeTableLoad id pcieErr => Sys2Proof.Machine.execRouteTableLoad id pcieErr s
  | .checkPolicy id => Sys2Proof.Machine.execCheckPolicy id s
  | .selftest id => Sys2Proof.Machine.execSelftest id s
  | .faultRead id => Sys2Proof.Machine.execFaultRead id s
  | .faultClear id => Sys2Proof.Machine.execFaultClear id s
  | .reactionSet id => Sys2Proof.Machine.execReactionSet id s
  | .timeSync id => Sys2Proof.Machine.execTimeSync id s
  | .fabricDiscover id => Sys2Proof.Machine.execFabricDiscover id s
  | .fabricRouteLoad id pcieErr => Sys2Proof.Machine.execFabricRouteLoad id pcieErr s
  | .attest id => Sys2Proof.Machine.execAttest id s
  | .measureRead id pcieErr => Sys2Proof.Machine.execMeasureRead id pcieErr s
  | .sqTailDoorbell port q v => Sys2Proof.Machine.execSqTailDoorbell port q v s
  | .cqHeadDoorbell port q v => Sys2Proof.Machine.execCqHeadDoorbell port q v s
  | .sqEnable port q cq size => Sys2Proof.Machine.execSqEnable port q cq size s
  | .sqDisable port q cq size => Sys2Proof.Machine.execSqDisable port q cq size s
  | .cqEnable port q ien vec size => Sys2Proof.Machine.execCqEnable port q ien vec size s
  | .cqDisable port q ien vec size => Sys2Proof.Machine.execCqDisable port q ien vec size s
  | .commandFetch pcieErr => Sys2Proof.Machine.execCommandFetch pcieErr s
  | .commandTimeout id => Sys2Proof.Machine.execCommandTimeout id s
  | .apertureWrite port slot off data => Sys2Proof.Machine.execApertureWrite port slot off data s
  | .apertureRead port slot off len => Sys2Proof.Machine.execApertureRead port slot off len s
  | .yelkorLaneTrainingEnd q ok r200 => Sys2Proof.Machine.execYelkorLaneTrainingEnd q ok r200 s
  | .yelkorCell q cell fecBad t => Sys2Proof.Machine.execYelkorCell q cell fecBad t s
  | .yelkorReplayTimeout q => Sys2Proof.Machine.execYelkorReplayTimeout q s
  | .ykMarginWindow q n => Sys2Proof.Machine.execYkMarginWindow q n s
  | .helloTick q => Sys2Proof.Machine.execHelloTick q s
  | .hello q m => Sys2Proof.Machine.execHello q m s
  | .rootExpiry => Sys2Proof.Machine.execRootExpiry s
  | .idReq q ident => Sys2Proof.Machine.execIdReq q ident s
  | .idClaim q ident id => Sys2Proof.Machine.execIdClaim q ident id s
  | .idGrant ident id => Sys2Proof.Machine.execIdGrant ident id s
  | .idRefuse ident id => Sys2Proof.Machine.execIdRefuse ident id s
  | .yelkorReceive id => Sys2Proof.Machine.execYelkorReceive id s
  | .ytimeTick => Sys2Proof.Machine.execYtimeTick s
  | .ytime q m => Sys2Proof.Machine.execYtime q m s
  | .ytimeHoldover => Sys2Proof.Machine.execYtimeHoldover s
  | .portDelayTick q => Sys2Proof.Machine.execPortDelayTick q s
  | .deviceidDerived k => Sys2Proof.Machine.execDeviceidDerived k s
  | .aliasDerived k => Sys2Proof.Machine.execAliasDerived k s
  | .signatureDone pcieErr => Sys2Proof.Machine.execSignatureDone pcieErr s
  | .getVersion port req => Sys2Proof.Machine.execGetVersion port req s
  | .getCapabilities port req => Sys2Proof.Machine.execGetCapabilities port req s
  | .negotiateAlgorithms port req => Sys2Proof.Machine.execNegotiateAlgorithms port req s
  | .getDigests port req => Sys2Proof.Machine.execGetDigests port req s
  | .getCertificate port req => Sys2Proof.Machine.execGetCertificate port req s
  | .challenge port req => Sys2Proof.Machine.execChallenge port req s
  | .getMeasurements port req => Sys2Proof.Machine.execGetMeasurements port req s
  | .chunkSend port req => Sys2Proof.Machine.execChunkSend port req s
  | .chunkGet port req => Sys2Proof.Machine.execChunkGet port req s
  | .srSeedHiWrite x v => Sys2Proof.Machine.execSrSeedHiWrite x v s
  | .srSeedLoWrite x v => Sys2Proof.Machine.execSrSeedLoWrite x v s
  | .loReadLatch port w => Sys2Proof.Machine.execLoReadLatch port w s
  | .registerWrite port w be v => Sys2Proof.Machine.execRegisterWrite port w be v s
  | .cageOvercurrent q => Sys2Proof.Machine.execCageOvercurrent q s
  | .setdasa addr => Sys2Proof.Machine.execSetdasa addr s
  | .entdaa addr => Sys2Proof.Machine.execEntdaa addr s
  | .enec => Sys2Proof.Machine.execEnec s
  | .bmcRegisterWrite off v => Sys2Proof.Machine.execBmcRegisterWrite off v s
  | .clockLost e => Sys2Proof.Machine.execClockLost e s
  | .refclkLost n => Sys2Proof.Machine.execRefclkLost n s
  | .busySecond t => Sys2Proof.Machine.execBusySecond t s
  | .forcedStretchEnd t => Sys2Proof.Machine.execForcedStretchEnd t s
  | .glideEnd x => Sys2Proof.Machine.execGlideEnd x s

end Sys2Proof.Machine
end

