-- ==== Sys2Proof/Machine/Tick.lean ====
section
/-!
DEFINITION. The passing of a microsecond: the keeper's time base, the copies of panel time, the watchdogs, the Larder timers and paused
sub-links (R117, R144, R248, R280, R284, R285).
-/
namespace Sys2Proof.Machine

open Sys2Proof

/-- A copy after ps picoseconds of its time base, at a rate in ppb and with up to lim sixteenths of a ns slewed (R280, R284). -/
def Ptc.tick (c : Ptc) (ps lim : Nat) (rate : Int) : Ptc :=
  let adv : Int := 16 * (ps : Int) * (10 ^ 9 + rate) / 1000
  let k : Int := max (-(lim : Int)) (min (lim : Int) c.slew)
  { c with val := (((c.val : Int) + adv + k * 10 ^ 9) % (ptcMod : Int)).toNat, slew := c.slew - k }

/-- A copy of panel time advances by a microsecond.  A time base whose reference is missing stays within 2 % of nominal, and by how
much it differs is free (R269). -/
def Panel.tickPtc (p : Panel) (n : Nat) : Panel :=
  match p.ptc n with
  | none => p
  | some c =>
    let rate := signed 32 (p.rd (p.ptcRateAt n)).toNat
    let lim := 62 + p.now % 2
    if p.ptcBit n 29 then (p.setPtc n (some (c.tick (980000 + Config.freeBelow 40001 p.free) lim rate))).tookFree
    else p.setPtc n (some (c.tick 1000000 lim rate))

/-- A core's watchdog counts while its sequencer runs or waits in a region in RUN (R117), and its Larder's timer while it waits in one
(R144). -/
def Panel.tickCore (p : Panel) (x : Cid) : Panel :=
  if p.regionState x ≠ 0 then p
  else
    let p := if p.running x then p.updSeq x (fun q => { q with wdog := q.wdog + 1 }) else p
    if p.larWaiting x then p.updLarder x (fun l => { l with timer := l.timer + 1 }) else p

/-- The end of a key of linkKey. -/
def endOf (k : Nat) : LinkEnd := if k < 4608 then mkTileEnd (k / 32) (k % 32) else mkDieEnd ((k - 4608) / 8) ((k - 4608) % 8)

/-- An end in service that has received pause sends an IDLE frame in every 16th of its frame slots, of which a microsecond has at
most 2,000; how many have come is free (R248). -/
def Panel.tickLink (p : Panel) (k : Nat) : Panel :=
  if decide (k < 4784) && (p.link (endOf k)).paused && p.linkServes (endOf k) then
    (p.lcount (endOf k) 0x90 (Config.freeBelow 126 p.free)).tookFree
  else p

/-- A microsecond passes. -/
def Panel.tick (p : Panel) : Panel :=
  let p := { p with now := p.now + 1 }
  let p := p.each (p.ptcs.map (·.1)) Panel.tickPtc
  let p := p.each (p.links.map (·.1)) Panel.tickLink
  p.each (p.cores.map (·.1)) (fun p k => p.tickCore (cid (k / 64) k))

end Sys2Proof.Machine
end

