-- ==== Sys2Proof/Safety.lean ====
section
/-!
DEFINITION. What counts as a well-formed state and a safe run: the terms the statements use.
-/
namespace Sys2Proof.Machine

open Sys2Proof

/-- The panel's maps hold their canonical form: keys strictly rising, and no entry that holds its key's default. -/
def Panel.wf (p : Panel) : Bool :=
  swf regReset p.regs && swf (fun _ => Ctr.zero) p.ctrs && swf (fun _ => Core.zero) p.cores && swf (fun _ => Chan.zero) p.chans &&
  swf (fun _ => TileSt.zero) p.tiles && swf (fun _ => RegionSt.zero) p.regions && swf (fun _ => Router.zero) p.routers &&
  swf (fun _ => Coll.zero) p.colls && swf (fun _ => HealthSt.zero) p.healths && swf (fun _ => DieSt.zero) p.dies &&
  swf hostReset p.host.mem

/-- The Tally fuses hold their canonical form. -/
def Fuses.wf (f : Fuses) : Bool := swf (fun _ => (0 : W76)) f.tally

/-- A well-formed state. -/
def State.wf (s : State) : Bool := s.fuses.wf && s.p.wf

/-- What a command may change: the registers and counters at some addresses, the units of some cores, the channels above some cores,
some tiles, regions (by 4t + r), sub-link ends (by linkKey), copies of panel time, routers, collectors, health records and ring
dies, and other parts of the panel as a whole.  Nothing, where a field is left out. -/
structure May where
  regs : Nat → Prop := fun _ => False
  ctrs : Nat → Prop := fun _ => False
  cores : Cid → Prop := fun _ => False
  chans : Cid → Prop := fun _ => False
  tiles : Nat → Prop := fun _ => False
  regions : Nat → Prop := fun _ => False
  links : Nat → Prop := fun _ => False
  ptcs : Nat → Prop := fun _ => False
  routers : Nat → Prop := fun _ => False
  colls : Nat → Prop := fun _ => False
  healths : Nat → Prop := fun _ => False
  dies : Nat → Prop := fun _ => False
  latches : Prop := False
  now : Prop := False
  free : Prop := False
  flights : Prop := False
  awaits : Prop := False
  msgs : Prop := False
  bad : Prop := False
  keep : Prop := False
  host : Prop := False
  prst : Prop := False

/-- An address in the block of tile t: its registers and those of its regions, sub-links and cores (Table 20.6). -/
def atTile (t a : Nat) : Prop := tileB t ≤ a ∧ a < tileB t + 0x40000

/-- An address in the page of core x (Table 20.6). -/
def atCore (x : Cid) (a : Nat) : Prop := coreB x.t x.c ≤ a ∧ a < coreB x.t x.c + 0x800

/-- What a fault event of a unit of tile t may reach (R383 to R393, R409, R410): the tile's registers, counters, cores and channels (a
reaction may trap or reset them), its collector and health record, ALERT_STS and the BMC, messages to the keeper, and the answers
awaited by a core that is reset. -/
def May.event (t : Nat) : May :=
  { regs := fun a => atTile t a ∨ a = keeperB + R.alertSts, ctrs := atTile t, cores := fun y => y.t.val = t
    chans := fun y => y.t.val = t, colls := fun n => n = t, healths := fun n => n = t, msgs := True, awaits := True, keep := True }

/-- What the work of a core of tile t may reach: what an event may, packets sent, and values that the spec leaves open. -/
def May.work (t : Nat) : May := { May.event t with flights := True, free := True }

/-- What an event of the panel collector may reach (R383, R384, R390, R441): the keeper block, the host ports' blocks and the host, the
collector, the BMC and PANEL_RESET. -/
def May.panelEvent : May :=
  { regs := fun a => (keeperB ≤ a ∧ a < keeperB + 0x10000) ∨ (hostB 0 ≤ a ∧ a < hostB 4)
    ctrs := fun a => (keeperB ≤ a ∧ a < keeperB + 0x10000) ∨ (hostB 0 ≤ a ∧ a < hostB 4)
    colls := fun n => n = 144, keep := True, host := True, prst := True }

/-- The registers of a sub-link end, with TILE_STS and the port of its edge core's router that show its state. -/
def linkRegs (e : LinkEnd) (a : Nat) : Prop :=
  (linkBase e ≤ a ∧ a < linkBase e + 0x20) ∨
    match e with
    | .tile t j => a = tileB t + R.tileSts ∨ a = coreB t (edgeCore (j / 8) (j % 8)) + R.rtrPort
    | .die _ _ => False

/-- What a fault event of a sub-link end may reach, with the end itself (R259, R263). -/
def May.linkEnd (e : LinkEnd) : May :=
  match e with
  | .tile t _ => { May.event t with links := fun n => n = linkKey e }
  | .die _ _ => { May.panelEvent with
      regs := fun a => May.panelEvent.regs a ∨ linkRegs e a, links := fun n => n = linkKey e }

/-- From p to q nothing has changed but what m names. -/
structure Panel.Only (m : May) (p q : Panel) : Prop where
  regs : ∀ a, ¬ m.regs a → q.rd a = p.rd a
  ctrs : ∀ a, ¬ m.ctrs a → q.ctr a = p.ctr a
  cores : ∀ x, ¬ m.cores x → q.core x = p.core x
  chans : ∀ x, ¬ m.chans x → q.chan x = p.chan x
  tiles : ∀ n, ¬ m.tiles n → q.tile n = p.tile n
  regions : ∀ n, ¬ m.regions n → q.region 0 n = p.region 0 n
  links : ∀ n, ¬ m.links n → sget (fun _ => LinkSt.zero) q.links n = sget (fun _ => LinkSt.zero) p.links n
  ptcs : ∀ n, ¬ m.ptcs n → q.ptc n = p.ptc n
  routers : ∀ n, ¬ m.routers n → q.router n = p.router n
  colls : ∀ n, ¬ m.colls n → q.coll n = p.coll n
  healths : ∀ n, ¬ m.healths n → q.health n = p.health n
  dies : ∀ n, ¬ m.dies n → q.die n = p.die n
  latches : ¬ m.latches → q.latches = p.latches
  now : ¬ m.now → q.now = p.now
  free : ¬ m.free → q.free = p.free
  flights : ¬ m.flights → q.flights = p.flights ∧ q.nextFlight = p.nextFlight
  awaits : ¬ m.awaits → q.awaits = p.awaits
  msgs : ¬ m.msgs → q.msgs = p.msgs
  bad : ¬ m.bad → q.bad = p.bad
  keep : ¬ m.keep → q.keep = p.keep
  host : ¬ m.host → q.host = p.host
  prst : ¬ m.prst → q.prst = p.prst

/-- From s to t nothing has changed but what m names of the panel; the queue of waiting commands and the fuses are as they were. -/
def Only (m : May) (s t : State) : Prop := t.pending = s.pending ∧ t.fuses = s.fuses ∧ s.p.Only m t.p

/-- Every command in flight came by one of the 64 queues of one of the four ports, and no two have the same port and tag (R423, R428,
R435). -/
def CmdsInRange (s : State) : Prop :=
  (∀ c ∈ s.p.host.cmds, c.port < 4 ∧ c.sq < 64) ∧ (s.p.host.cmds.map (·.key)).Nodup

/-- The numbers that the state holds in lists are those of tiles, windows, epochs and mirrored registers: the tiles to be powered and
the candidates held, the indexes of open windows, the epochs that messages carry, the registers that a MIRROR has brought, and the record being burnt. -/
def ListsInRange (s : State) : Prop :=
  (∀ n ∈ s.p.keep.queue, n < 144) ∧ (∀ n ∈ s.p.keep.held, n < 144) ∧ (∀ n, ∀ w ∈ (s.p.tile n).wins, w.1 < 256) ∧
    (∀ m ∈ s.p.msgs, m.kind = 0x50 → m.at 0 < 65536) ∧
    (∀ m, s.p.keep.mirror = some m → ∀ e ∈ m.regs, (keepCtr e.1 && mirrored e.1) = true) ∧
    (∀ b, s.p.keep.burn = some b → b.1 < 144 ∧ b.2 < 4)

/-- The memories hold their canonical form: host memory behind the ports, every scratchpad and every DRAM channel. -/
def MemoryWf (s : State) : Prop :=
  swf hostReset s.p.host.mem = true ∧ (∀ x, swf spadReset (s.p.core x).spad = true) ∧ (∀ x, swf cellReset (s.p.chan x).cells = true)

/-- The fuses hold their canonical form, and an accepted security version is a number of bits of its 64-bit fuse word (R472). -/
def FusesInRange (s : State) : Prop := s.fuses.wf = true ∧ s.fuses.svnA ≤ 64 ∧ s.fuses.svnB ≤ 64

/-- A register of the host ports' blocks. -/
def hostRegs (a : Nat) : Prop := hostB 0 ≤ a ∧ a < hostB 4

/-- A run of k steps that no fault and no refusal stops ends in s'. -/
def RunsTo (k : Nat) (s s' : State) : Prop := core.run k s = .next s'

end Sys2Proof.Machine
end

