-- ==== Sys2Proof/WellFormed.lean ====
section
/-!
DEFINITION. The commands that can reach a panel: what the spec demands of a command's operands beyond their types.
-/
namespace Sys2Proof

open Sys2Proof.Machine

/-- A region cycle's requests: of the asynchronous requesters 12 to 14 only (Table 5.1). -/
def BankReq.wf (r : BankReq) : Bool := decide (12 ≤ r.q.val)

/-- A message of SPDM: its header's four bytes, and at most what one DOE object carries (R477). -/
def doeWf (req : List (BitVec 8)) : Bool := decide (4 ≤ req.length ∧ req.length ≤ 4088)

/-- The command can be sent: requests come from asynchronous requesters; a Warden sample holds 24 compute-die and four DRAM-die readings
and four regions' powers (R327); a payload is whole flits (R204); training results name a position once (R242, R243); an aperture
write is one PCIe request; an SPDM request has its header.  The types of every other operand admit only what the spec admits. -/
def Instr.wf : Instr → Bool
  | .bundleIssue _ req => req.all BankReq.wf
  | .wardenSample _ die dram pw _ => decide (die.length = 24 ∧ dram.length = 4 ∧ pw.length = 4)
  | .packetInject _ _ _ _ _ payload => decide (payload.length % 8 = 0 ∧ payload.length ≤ 512)
  | .censusEnd _ bad => decide bad.Nodup
  | .trainLoadedEnd _ ms => decide (ms.map (·.1)).Nodup
  | .retrainDone _ bad _ => decide bad.Nodup
  | .apertureWrite _ _ _ data => decide (0 < data.length ∧ data.length ≤ 4096)
  | .apertureRead _ _ _ len => decide (0 < len.val)
  | .getVersion _ req => doeWf req
  | .getCapabilities _ req => doeWf req
  | .negotiateAlgorithms _ req => doeWf req
  | .getDigests _ req => doeWf req
  | .getCertificate _ req => doeWf req
  | .challenge _ req => doeWf req
  | .getMeasurements _ req => doeWf req
  | .chunkSend _ req => doeWf req
  | .chunkGet _ req => doeWf req
  | _ => true

end Sys2Proof
end

