-- ==== Sys2Proof/Certificates/Slice0/Obligations.lean ====
section
/-!
DEFINITION. The statements for the provers, by family of the opcode table.
-/

open Sys2Proof Sys2Proof.Machine

/-- A feed voltage, in mV, beyond the absolute maximum ratings (R514, log entry 16). -/
def Beyond (v : BitVec 32) : Prop := v.toInt < -60000 ∨ 80000 < v.toInt

/-- The step of the machine, and which commands can stop it. -/
def Obligations.StepRunsFront : Prop :=
  (∀ (c : Instr) (rest : List Instr) (s : State), s.pending = c :: rest → step s = exec c { s with pending := rest }) ∧
  (∀ s : State, s.pending = [] → step s = .next { s with p := s.p.tick }) ∧
  (∀ (i : Instr) (s : State), (∀ va vb ia ib, i = .feedSample va vb ia ib → ¬ Beyond va ∧ ¬ Beyond vb) →
    ∃ t, exec i s = .next t ∧ t.pending = s.pending) ∧
  (∀ (va vb : BitVec 32) ia ib (s : State), Beyond va ∨ Beyond vb → exec (.feedSample va vb ia ib) s = .fault .beyondAbsoluteMax)

/-- The Tally word at an index is a field record's: words 40 to 43 of a tile's 620. -/
def recordWord (a : Nat) : Prop := 40 ≤ a % 620 ∧ a % 620 < 44

/-- R351, R357, R466 and R472, over every step. -/
def Obligations.FusesKept : Prop :=
  ∀ (s s' : State), step s = .next s' → FusesInRange s →
    FusesInRange s' ∧ s'.fuses.uds = s.fuses.uds ∧ s'.fuses.keyHash = s.fuses.keyHash ∧ s'.fuses.keyRev = s.fuses.keyRev ∧
      s'.fuses.cert = s.fuses.cert ∧ s'.fuses.root = s.fuses.root ∧ s.fuses.svnA ≤ s'.fuses.svnA ∧ s.fuses.svnB ≤ s'.fuses.svnB ∧
      (ListsInRange s → ∃ b, recordWord b ∧ ∀ a,
        sget (fun _ => (0 : BitVec 76)) s'.fuses.tally a ≠ sget (fun _ => (0 : BitVec 76)) s.fuses.tally a →
          a = b ∨ a = b + 89280)

/-- The invariants that other statements take as premises are kept by every step. -/
def Obligations.RangesKept : Prop :=
  ∀ (s s' : State), step s = .next s' → CmdsInRange s → ListsInRange s → CmdsInRange s' ∧ ListsInRange s'

/-- The memories keep their canonical form in every step. -/
def Obligations.MemoryKept : Prop :=
  ∀ (s s' : State), step s = .next s' → MemoryWf s → MemoryWf s'

/-- What reset leaves. -/
def Obligations.ResetState : Prop :=
  State.reset.pending = [] ∧ State.reset.p.keep.ring = false ∧
  (∀ d, (State.reset.p.die d).rails = false) ∧ (∀ n, (State.reset.p.tile n).rails = false ∧ State.reset.p.portUp n = false) ∧
  State.reset.p.flights = [] ∧ State.reset.p.msgs = [] ∧ State.reset.p.host.cmds = [] ∧
  (∀ (x : Cid) (k : Nat), k < 64 → (State.reset.p.core x).seq.token k = if k = 62 then 16 else 0) ∧
  (∀ x : Cid, (State.reset.p.crd x R.srSeed).toNat = 1 + 2 ^ 13 * tileX x.t + 2 ^ 9 * tileY x.t + 8 * x.c ∧
    State.reset.p.crd x (R.srSeed + 4) = 0 ∧
    (State.reset.p.lfsr x).toNat = 1 + 2 ^ 13 * tileX x.t + 2 ^ 9 * tileY x.t + 8 * x.c) ∧
  (∀ a, (State.reset.p.ctr a).lo = 0 ∧ (State.reset.p.ctr a).hi = 0) ∧
  FusesInRange State.reset ∧ CmdsInRange State.reset ∧ ListsInRange State.reset ∧ MemoryWf State.reset ∧ State.reset.wf = true

/-- The sequencer after k uses of stream i. -/
def usedTimes (i : Nat) : Nat → Seq → Seq
  | 0, q => q
  | k + 1, q => (usedTimes i k q).useStream i

/-- R91. -/
def Obligations.StreamUses : Prop :=
  ∀ (x : Cid) (i : Fin 8) (rb rs rn : Fin 16) (s : State), s.p.active x = true →
    ∃ t, exec (.strm x i rb rs rn) s = .next t ∧
      ∀ (r : Fin 16 → Nat) (m k : Nat), (∀ j, r j = ((s.p.core x).seq.sreg j.val).toNat) →
        m = (if r rn % 65536 = 0 then 65536 else r rn % 65536) →
        ((usedTimes i k (t.p.core x).seq).stream i).base.toNat = r rb % 2 ^ 19 ∧
        ((usedTimes i k (t.p.core x).seq).stream i).stride.toInt =
          (if r rs % 2 ^ 19 < 2 ^ 18 then ((r rs % 2 ^ 19 : Nat) : Int) else (r rs % 2 ^ 19 : Nat) - 2 ^ 19) ∧
        ((usedTimes i k (t.p.core x).seq).stream i).count.toNat = r rn % 65536 ∧
        (((usedTimes i k (t.p.core x).seq).stream i).addr : Int) =
          ((r rb : Int) + (k % m : Nat) * ((usedTimes i k (t.p.core x).seq).stream i).stride.toInt) % 2 ^ 19

/-- A symbol times a column of SSC4-76. -/
def times3 (e : BitVec 4) (h : BitVec 4 × BitVec 4 × BitVec 4) : BitVec 4 × BitVec 4 × BitVec 4 :=
  (gfMul e h.1, gfMul e h.2.1, gfMul e h.2.2)

/-- A sum of symbols of a word. -/
def symbolSum {w : Nat} (x : BitVec w) (f : Nat → BitVec 4) (n : Nat) : BitVec 4 :=
  (List.range n).foldl (fun a i => a ^^^ gfMul (f i) (sym x i)) 0

/-- The column of a symbol position of SSC4-76 (R129). -/
def column76 (i : Nat) : BitVec 4 × BitVec 4 × BitVec 4 :=
  if i < 15 then (1, gfPow i, gfPow (2 * i))
  else if i = 15 then (0, 1, 1)
  else if i = 16 then (1, 0, 0)
  else if i = 17 then (0, 1, 0)
  else (0, 0, 1)

/-- R129. -/
def code76 : Prop :=
  gfMul 2 8 = 3 ∧
  (∀ d : BitVec 64, ssc76Data (ssc76Enc d) = d ∧
    sym (ssc76Enc d) 16 = symbolSum d (fun _ => 1) 15 ∧
    sym (ssc76Enc d) 17 = symbolSum d gfPow 15 ^^^ sym d 15 ∧
    sym (ssc76Enc d) 18 = symbolSum d (fun i => gfPow (2 * i)) 15 ^^^ sym d 15 ∧
    ssc76Dec (ssc76Enc d) = (ssc76Enc d, .clean) ∧
    (∀ i e, i < 19 → e ≠ 0 → ssc76Dec (symXor (ssc76Enc d) i e) = (ssc76Enc d, .corrected))) ∧
  (∀ (x : BitVec 76) (s : BitVec 4 × BitVec 4 × BitVec 4),
    s = (symbolSum x (fun i => (column76 i).1) 19, symbolSum x (fun i => (column76 i).2.1) 19, symbolSum x (fun i => (column76 i).2.2) 19) →
    (s = (0, 0, 0) → ssc76Dec x = (x, .clean)) ∧
    (∀ i e, i < 19 → e ≠ 0 → s = times3 e (column76 i) → ssc76Dec x = (symXor x i e, .corrected)) ∧
    (s ≠ (0, 0, 0) → (∀ i e, i < 19 → e ≠ 0 → s ≠ times3 e (column76 i)) → ssc76Dec x = (x, .uncorrectable))) ∧
  (∀ i j e f, i < j → j < 19 → e ≠ 0 ∨ f ≠ 0 → times3 e (column76 i) ≠ times3 f (column76 j)) ∧
  ssc76Syn (symXor 0 1 1) = (1, 2, 4) ∧ ssc76Dec (symXor 0 1 1) = (0, .corrected)

/-- The column of a symbol position of SSC4-528 (Table 7.4). -/
def column528 (i : Nat) : BitVec 4 × BitVec 4 × BitVec 4 × BitVec 4 :=
  if i < 128 then (1, BitVec.ofNat 4 (i % 16), BitVec.ofNat 4 (i / 16 + 2), quadN (BitVec.ofNat 4 (i % 16)) (BitVec.ofNat 4 (i / 16 + 2)))
  else if i = 128 then (1, 0, 0, 0)
  else if i = 129 then (1, 1, 0, 1)
  else if i = 130 then (1, 0, 1, 8)
  else (0, 0, 0, 1)

/-- The sum of three columns with their coefficients. -/
def sum3 (e f g : BitVec 4) (a b c : BitVec 4 × BitVec 4 × BitVec 4 × BitVec 4) : BitVec 4 × BitVec 4 × BitVec 4 × BitVec 4 :=
  (gfMul e a.1 ^^^ gfMul f b.1 ^^^ gfMul g c.1, gfMul e a.2.1 ^^^ gfMul f b.2.1 ^^^ gfMul g c.2.1,
    gfMul e a.2.2.1 ^^^ gfMul f b.2.2.1 ^^^ gfMul g c.2.2.1, gfMul e a.2.2.2 ^^^ gfMul f b.2.2.2 ^^^ gfMul g c.2.2.2)

/-- The symbol that a u and a v name (R179). -/
def namedBy (u v : BitVec 4) (i : Nat) : Prop :=
  (u = 0 ∧ v = 0 ∧ i = 128) ∨ (u = 1 ∧ v = 0 ∧ i = 129) ∨ (u = 0 ∧ v = 1 ∧ i = 130) ∨
    (2 ≤ v.toNat ∧ v.toNat ≤ 9 ∧ i = 16 * (v.toNat - 2) + u.toNat)

/-- R179. -/
def code528 : Prop :=
  (∀ (x : BitVec 528) (s0 s1 s2 s3 : BitVec 4),
    s0 = symbolSum x (fun i => (column528 i).1) 132 → s1 = symbolSum x (fun i => (column528 i).2.1) 132 →
    s2 = symbolSum x (fun i => (column528 i).2.2.1) 132 → s3 = symbolSum x (fun i => (column528 i).2.2.2) 132 →
    (s0 = 0 ∧ s1 = 0 ∧ s2 = 0 ∧ s3 = 0 → ssc528Dec x = (x, .clean)) ∧
    (s0 = 0 → s1 = 0 → s2 = 0 → s3 ≠ 0 → ssc528Dec x = (symXor x 131 s3, .corrected)) ∧
    (∀ u v i, s0 ≠ 0 → s1 = gfMul u s0 → s2 = gfMul v s0 → s3 = gfMul s0 (quadN u v) → namedBy u v i →
      ssc528Dec x = (symXor x i s0, .corrected)) ∧
    ((s0 = 0 → s1 ≠ 0 ∨ s2 ≠ 0) →
      (s0 ≠ 0 → ∀ u v i, s1 = gfMul u s0 → s2 = gfMul v s0 → s3 = gfMul s0 (quadN u v) → ¬ namedBy u v i) →
      ssc528Dec x = (x, .uncorrectable))) ∧
  (∀ i, i < 132 → gfMul (column528 i).1 (column528 i).2.2.2 = quadN (column528 i).2.1 (column528 i).2.2.1) ∧
  (∀ i j k e f g, i < j → j < k → k < 132 → e ≠ 0 ∨ f ≠ 0 ∨ g ≠ 0 → sum3 e f g (column528 i) (column528 j) (column528 k) ≠ (0, 0, 0, 0)) ∧
  (∀ d : BitVec 512, ssc528Data (ssc528Enc d) = d ∧ ssc528Dec (ssc528Enc d) = (ssc528Enc d, .clean) ∧
    (∀ i e, i < 132 → e ≠ 0 → ssc528Dec (symXor (ssc528Enc d) i e) = (ssc528Enc d, .corrected)) ∧
    (∀ i j e f, i < j → j < 132 → e ≠ 0 → f ≠ 0 →
      ssc528Dec (symXor (symXor (ssc528Enc d) i e) j f) = (symXor (symXor (ssc528Enc d) i e) j f, .uncorrectable))) ∧
  (∃ i j k e f g x, i < j ∧ j < k ∧ k < 132 ∧ e ≠ 0 ∧ f ≠ 0 ∧ g ≠ 0 ∧
    ssc528Dec (symXor (symXor (symXor 0 i e) j f) k g) = (x, .corrected) ∧ x ≠ 0) ∧
  ssc528Syn (symXor 0 19 1) = (1, 3, 3, 0xE) ∧ ssc528Dec (symXor 0 19 1) = (0, .corrected)

/-- R129 and R179. -/
def Obligations.SymbolCodes : Prop := code76 ∧ code528

/-- The scalar register r of core x takes v, s0 ignores it, and nothing else changes (R90). -/
def WritesScalar (x : Cid) (r : Fin 16) (v : BitVec 32) (s t : State) : Prop :=
  (∀ k, (t.p.core x).seq.sreg k = if k = r.val ∧ r.val ≠ 0 then v else (s.p.core x).seq.sreg k) ∧
    (t.p.core x).seq.sreg 0 = 0 ∧
    t.p.core x = { s.p.core x with seq := { (s.p.core x).seq with sregs := (t.p.core x).seq.sregs } } ∧
    Only { cores := fun y => y = x } s t

/-- R90, Table 4.4: SETL, SETH and ADDI of an executing sequencer. -/
def scalarRegisterOps : Prop :=
  ∀ (x : Cid) (r : Fin 16) (imm : BitVec 16) (s : State), s.p.active x = true →
    (∃ t, exec (.setl x r imm) s = .next t ∧ WritesScalar x r (imm.zeroExtend 32) s t) ∧
    (∃ t, exec (.seth x r imm) s = .next t ∧
      WritesScalar x r (imm ++ BitVec.ofNat 16 ((s.p.core x).seq.sreg r.val).toNat) s t) ∧
    (∃ t, exec (.addi x r imm) s = .next t ∧ WritesScalar x r ((s.p.core x).seq.sreg r.val + imm.signExtend 32) s t)

/-- The registers SEQ_PC and SEQ_STATUS of a core. -/
def seqRegs (x : Cid) (a : Nat) : Prop := a = coreB x.t x.c + R.seqPc ∨ a = coreB x.t x.c + R.seqStatus

/-- Whether BR's condition holds (Table 4.4). -/
def BranchHolds (s : State) (x : Cid) (cond : Fin 4) (reg : Fin 16) : Prop :=
  match cond with
  | 0 => (s.p.core x).seq.chkDue = true
  | 1 => s.p.cget x R.seqStatus_abft_cond = 1
  | 2 => (s.p.core x).seq.sreg reg.val = 0
  | 3 => (s.p.core x).seq.sreg reg.val ≠ 0

/-- R90 and R524: NOP, JMP, BR, LOOP and RETI of an executing sequencer. -/
def controlTransfers : Prop :=
  ∀ (x : Cid) (s : State), s.p.active x = true →
    exec (.nop x) s = .next s ∧
    (∀ target, ∃ t, exec (.jmp x target) s = .next t ∧ t.p.pc x = target.val ∧
      Only { regs := fun a => a = coreB x.t x.c + R.seqPc } s t) ∧
    (∀ (cond : Fin 4) reg target, ∃ t, exec (.br x (Fin.castLE (by decide) cond) reg target) s = .next t ∧
      (BranchHolds s x cond reg → t.p.pc x = target.val) ∧
      (¬ BranchHolds s x cond reg → t.p.pc x = (s.p.pc x + 1) % 2048) ∧
      t.p.cget x R.seqStatus_abft_cond =
        (if cond = 1 then 0 else s.p.cget x R.seqStatus_abft_cond) ∧
      Only { regs := seqRegs x } s t) ∧
    (∀ (reg : Fin 16) (last : Fin 2048), s.p.pc x < last.val →
      (s.p.core x).seq.sreg reg.val = 0 ∨ (s.p.core x).seq.loops.length < 4 →
      ∃ t, exec (.loop x reg last) s = .next t ∧
        ((s.p.core x).seq.sreg reg.val = 0 →
          t.p.pc x = (last.val + 1) % 2048 ∧ Only { regs := fun a => a = coreB x.t x.c + R.seqPc } s t) ∧
        ((s.p.core x).seq.sreg reg.val ≠ 0 →
          t.p.pc x = (s.p.pc x + 1) % 2048 ∧
          t.p.core x = { s.p.core x with seq := { (s.p.core x).seq with
            loops := ⟨s.p.pc x + 1, last.val, ((s.p.core x).seq.sreg reg.val).toNat⟩ :: (s.p.core x).seq.loops } } ∧
          Only { regs := fun a => a = coreB x.t x.c + R.seqPc, cores := fun y => y = x } s t)) ∧
    (∃ t, exec (.reti x) s = .next t ∧ t.p.pc x = bits (s.p.crd x R.seqEpc) 10 0 ∧ t.p.cget x R.seqStatus_in_trap = 0 ∧
      Only { regs := seqRegs x } s t)

/-- SETL, SETH, ADDI, NOP, JMP, BR, LOOP and RETI. -/
def Obligations.SequencerControl : Prop := scalarRegisterOps ∧ controlTransfers

/-- The panel's own endpoint. -/
def OwnEndpoint (s : State) (a : Nat) : Prop := (Ep.of a).panel = s.p.panelId ∧ (Ep.of a).defined = true

/-- R90, R91, R103 and R106: STRM, GMODE, DMAQ and POSTR. -/
def Obligations.StreamsModesTokens : Prop :=
  ∀ (x : Cid) (s : State), s.p.active x = true →
    (∀ (i : Fin 8) (b st n : Fin 16), ∃ t, exec (.strm x i b st n) s = .next t ∧
      (∀ k, (t.p.core x).seq.stream k = if k = i.val then
        ⟨((s.p.core x).seq.sreg b.val).setWidth 19, ((s.p.core x).seq.sreg st.val).setWidth 19,
          ((s.p.core x).seq.sreg n.val).setWidth 16, 0⟩ else (s.p.core x).seq.stream k) ∧
      t.p.core x = { s.p.core x with seq := { (s.p.core x).seq with streams := (t.p.core x).seq.streams } } ∧
      Only { cores := fun y => y = x } s t) ∧
    (∀ (i : Fin 8) (a b c : Fin 16), gmodeOk ((s.p.core x).seq.sreg a.val) ((s.p.core x).seq.sreg b.val) = true →
      ∃ t, exec (.gmode x i a b c) s = .next t ∧
        (∀ k, (t.p.core x).seq.gmode k = if k = i.val then
          ⟨((s.p.core x).seq.sreg a.val).setWidth 16, ((s.p.core x).seq.sreg a.val).extractLsb' 16 16,
            ((s.p.core x).seq.sreg b.val).setWidth 16, ((s.p.core x).seq.sreg b.val).getLsbD 16,
            ((s.p.core x).seq.sreg c.val).setWidth 8, ((s.p.core x).seq.sreg c.val).extractLsb' 8 8⟩
          else (s.p.core x).seq.gmode k) ∧
        t.p.core x = { s.p.core x with seq := { (s.p.core x).seq with gmodes := (t.p.core x).seq.gmodes } } ∧
        Only { cores := fun y => y = x } s t) ∧
    (∀ addr, 0 < (s.p.core x).seq.token 62 → ∃ t, exec (.dmaq x addr) s = .next t ∧
      (t.p.core x).dmaq = (s.p.core x).dmaq ++ [addr.toNat] ∧
      (∀ k, (t.p.core x).seq.token k = (s.p.core x).seq.token k - (if k = 62 then 1 else 0)) ∧
      t.p.core x = { s.p.core x with
        dmaq := (t.p.core x).dmaq, seq := { (s.p.core x).seq with tokens := (t.p.core x).seq.tokens } } ∧
      Only { cores := fun y => y = x } s t) ∧
    (∀ (tok : Fin 64) (r : Fin 16) (amount : BitVec 8), amount ≠ 0 →
      OwnEndpoint s (((s.p.core x).seq.sreg r.val).toNat % 2 ^ 29) →
      ∃ t, exec (.postr x tok r amount) s = .next t ∧
        (∃ f, t.p.flights = s.p.flights ++ [f] ∧ f.id = s.p.nextFlight ∧ f.loc = rtrCore x.t x.c ∧ f.stage = .transit ∧
          f.flits = mkFlits { Header.blank with
            cls := clsReq, kind := kPost, dst := ((s.p.core x).seq.sreg r.val).toNat % 2 ^ 29, src := s.p.unitAddr x 0,
            token := tok.val, tokv := true, xfer := (s.p.core x).nextXfer,
            epoch := s.p.epochAt (rtrCore x.t x.c) % 256 } [ssc76Enc (w64 amount.toNat), ssc76Enc 0, ssc76Enc 0, ssc76Enc 0]) ∧
        t.p.core x = { s.p.core x with nextXfer := ((s.p.core x).nextXfer + 1) % 256 } ∧
        Only { cores := fun y => y = x, flights := True, awaits := True } s t)

/-- Offsets of a core page whose writes act beyond storing (R134, R135, R138 to R143, R197, R496). -/
def actingOffset (o : Nat) : Prop :=
  o ∈ [R.larderCtl, R.larderDepth, R.larderProd, R.larderTok, R.larderSpillBase, R.larderRel, R.coreRetain, R.dramRetire,
    R.srSeed, R.srSeed + 4]

/-- R11 and R497: WREG and RREG. -/
def Obligations.CoreRegisterAccess : Prop :=
  ∀ (x : Cid) (s : State), s.p.active x = true →
    (∀ (r : Fin 16) (off : BitVec 12) (row : RegRow), off.toNat % 4 = 0 → off.toNat < 0x800 → ¬ actingOffset off.toNat →
      s.p.computeDead x = false → rowAt (coreB x.t x.c + off.toNat) = some row →
      ∃ t, exec (.wreg x r off) s = .next t ∧
        (∀ i, i < 32 → (t.p.crd x off.toNat).getLsbD i =
          if (w32 row.rw).getLsbD i then ((s.p.core x).seq.sreg r.val).getLsbD i
          else if (w32 row.w1c).getLsbD i && ((s.p.core x).seq.sreg r.val).getLsbD i then false
          else (s.p.crd x off.toNat).getLsbD i) ∧
        Only { regs := fun a => a = coreB x.t x.c + off.toNat } s t) ∧
    (∀ (r : Fin 16) (off : BitVec 12), 0x800 ≤ off.toNat → exec (.wreg x r off) s = .next s) ∧
    (∀ (r : Fin 16) (off : BitVec 12), off.toNat % 4 = 0 → off.toNat < 0x800 →
      (∀ l ∈ s.p.latches, ¬ (l.1 = 5 + x.key ∧ l.2.1 = coreB x.t x.c + off.toNat)) →
      ∃ t, exec (.rreg x r off) s = .next t ∧
        (∀ k, (t.p.core x).seq.sreg k =
          if k = r.val ∧ r.val ≠ 0 then s.p.regVal (coreB x.t x.c + off.toNat) else (s.p.core x).seq.sreg k) ∧
        Only { cores := fun y => y = x, latches := True } s t)

/-- No reaction of tile t's collector is BLOCK_RESET. -/
def NoBlockReset (s : State) (t : Nat) : Prop := ∀ src, src < 25 → s.p.reaction t src ≠ 3

/-- R114, R117 and Table 4.4: HALT, TRAP_ENTRY and WATCHDOG_EXPIRY. -/
def Obligations.HaltTrapsWatchdog : Prop :=
  ∀ (x : Cid) (s : State), s.p.active x = true →
    (CmdsInRange s → ∃ t, exec (.halt x) s = .next t ∧ t.p.seqState x = 3 ∧ (t.p.core x).seq.loops = [] ∧
      (t.p.core x).seq.haltAt = some (s.p.ptcNs x.t) ∧ t.fuses = s.fuses ∧ t.p.keep = s.p.keep ∧
      (∀ y, y ≠ x → t.p.core y = s.p.core y)) ∧
    (s.p.trapDue x = true → s.p.cget x R.seqCtl_vec ≠ 0 → (∀ c ∈ (s.p.core x).seq.traps, c ∈ [1, 3, 4]) →
      (s.p.core x).drainEnd ≤ (s.p.core x).seq.cycle →
      ∃ t, exec (.trapEntry x) s = .next t ∧
        t.p.crd x R.seqEpc = w32 (s.p.pc x) ∧ t.p.cget x R.seqStatus_cause = s.p.firstTrap x ∧
        t.p.cget x R.seqStatus_in_trap = 1 ∧ t.p.pc x = s.p.cget x R.seqCtl_vec ∧
        (s.p.firstTrap x = 2 → t.p.cget x R.seqStatus_abft_cond = 0) ∧
        (t.p.core x).seq.traps = (s.p.core x).seq.traps.filter (· ≠ s.p.firstTrap x) ∧
        Only { regs := fun a => a = coreB x.t x.c + R.seqEpc ∨ seqRegs x a, cores := fun y => y = x } s t) ∧
    (0 < s.p.cget x R.seqWdog_limit → s.p.cget x R.seqWdog_limit ≤ (s.p.core x).seq.wdog → NoBlockReset s x.t →
      ∃ t, exec (.watchdogExpiry x) s = .next t ∧ t.p.cget x R.seqStatus_wdog = 1 ∧ (t.p.core x).seq.wdog = 0 ∧
        (t.p.sticky x.t).testBit 22 = true ∧ Only (May.event x.t) s t)

/-- A counter counts k events, and the counter exists. -/
def Counts (a k : Nat) (s t : State) : Prop := ∃ kind, ctrKindAt a = some kind ∧ t.p.ctr a = (s.p.ctr a).add kind k

/-- The slot commands: the core, and whether the slot's form is legal there (R92, R93, R103, R105, R151). -/
def slotForm (s : State) : Instr → Option (Cid × Bool)
  | .br x cond _ _ => some (x, decide (cond.val < 4))
  | .loop x reg last => some (x, decide (s.p.pc x < last.val) &&
      (decide ((s.p.core x).seq.sreg reg.val = 0) || decide ((s.p.core x).seq.loops.length < 4)))
  | .gmode x _ a b _ => some (x, gmodeOk ((s.p.core x).seq.sreg a.val) ((s.p.core x).seq.sreg b.val))
  | .postr x _ _ amount => some (x, decide (amount ≠ 0))
  | .vec x mode row _ _ _ => some (x, (s.p.core x).vecOk mode.val row.val)
  | .open_ x mode first groups _ chk => some (x, (s.p.core x).openOk mode.val first.val groups.val chk)
  | .read x mode row planer _ => some (x, (s.p.core x).readOk false mode.val row.val planer)
  | .load x mode chk _ => some (x, (s.p.core x).loadOk mode.val chk)
  | .srd x reg _ => some (x, decide (reg.val ≠ 15))
  | .swr x reg _ => some (x, decide (reg.val ≠ 15))
  | .smax x sl => some (x, (s.p.core x).plnOk false 1 sl)
  | .ofold x sl => some (x, (s.p.core x).plnOk false 2 sl)
  | .odiv x sl => some (x, (s.p.core x).plnOk false 3 sl)
  | .lpack x sl => some (x, (s.p.core x).plnOk false 4 sl)
  | .lmerge x sl => some (x, (s.p.core x).plnOk false 5 sl)
  | .stat x sl => some (x, (s.p.core x).plnOk false 6 sl)
  | .norm x sl => some (x, (s.p.core x).plnOk false 7 sl)
  | .act x sl => some (x, (s.p.core x).plnOk false 8 sl)
  | .quant x sl => some (x, (s.p.core x).plnOk false 9 sl)
  | .scan x sl => some (x, (s.p.core x).plnOk false 10 sl)
  | .lclr x sl => some (x, (s.p.core x).plnOk false 11 sl)
  | .jmp x _ => some (x, true)
  | .setl x _ _ => some (x, true)
  | .seth x _ _ => some (x, true)
  | .addi x _ _ => some (x, true)
  | .strm x _ _ _ _ => some (x, true)
  | .dmaq x _ => some (x, true)
  | .wreg x _ _ => some (x, true)
  | .rreg x _ _ => some (x, true)
  | .reti x => some (x, true)
  | .halt x => some (x, true)
  | .swap x => some (x, true)
  | _ => none

/-- R105: illegal forms, and slots outside execution. -/
def Obligations.SlotsOutsideExecution : Prop :=
  ∀ (c : Instr) (s : State) (x : Cid) (ok : Bool), slotForm s c = some (x, ok) →
    (s.p.active x = false → exec c s = .next s) ∧
    (s.p.active x = true → ok = false → ∃ t, exec c s = .next t ∧
      Counts (coreB x.t x.c + 0x128) 1 s t ∧ t.p.trapDue x = true ∧
      t.p.core x = { s.p.core x with seq := { (s.p.core x).seq with traps := (t.p.core x).seq.traps } } ∧
      Only { ctrs := fun a => a = coreB x.t x.c + 0x128, cores := fun y => y = x } s t)

/-- The panel when the due bundle of core x has been reached. -/
def atDue (s : State) (x : Cid) : Panel := s.p.reach x (s.p.core x).seq.due

/-- The due bundle can be issued: in no half being written, of good parity, and legal (R87, R105, R386). -/
def Issuable (p : Panel) (x : Cid) : Prop :=
  (p.core x).storeBusy (p.pc x) (p.unitAddr x 0) = false ∧ p.pc x ∉ (p.core x).seq.badPar ∧
    (p.core x).bundleOk (p.pc x) ((p.core x).seq.bundle (p.pc x)) = true

/-- R95 to R98: BUNDLE_ISSUE. -/
def Obligations.BundleIssue : Prop :=
  ∀ (x : Cid) (req : List BankReq) (s : State), (∀ r ∈ req, r.wf = true) → s.p.active x = true → s.p.trapDue x = false →
    NoBlockReset s x.t → Issuable (atDue s x) x →
    let p := atDue s x
    let b := (p.core x).seq.bundle (p.pc x)
    let k := ctlOf (slotOf b 0)
    (k.wcnt ≠ 0 → (p.core x).seq.token k.wtok < k.wcnt → ∃ t, exec (.bundleIssue x req) s = .next t ∧
      t.p.seqState x = 2 ∧ t.p.pc x = p.pc x ∧ t.p.ctr (coreB x.t x.c + 0x130) = (p.ctr (coreB x.t x.c + 0x130)).add .w 1) ∧
    (k.wcnt ≤ (p.core x).seq.token k.wtok →
      (p.grantRound x ((p.core x).dueReqs ++ ((p.core x).accesses b).map mkReq) req).1 = true →
      ∃ t, exec (.bundleIssue x req) s = .next t ∧
        t.p = (p.grantRound x ((p.core x).dueReqs ++ ((p.core x).accesses b).map mkReq) req).2.issue x (p.pc x) b ∧
        (slotOf b 1 = 0 → slotOf b 2 = 0 → slotOf b 3 = 0 → k.cop = 0 → (p.core x).seq.loops = [] →
          p.cget x R.seqStatus_in_trap = 0 → (p.core x).grid.load = none →
          (t.p.core x).seq.cycle = (p.core x).seq.cycle + 1 ∧
          (t.p.core x).seq.due = (p.core x).seq.cycle + 1 + k.gap ∧ (t.p.core x).seq.wdog = 0 ∧
          t.p.pc x = (p.pc x + 1) % 2048 ∧ t.p.seqState x = 1 ∧
          (∀ i, (t.p.core x).seq.token i = min 65535
            ((p.core x).seq.token i - (if i = k.wtok then k.wcnt else 0) +
              (if k.pen = true ∧ i = k.ptok then 1 else 0)) ∨ 65535 < (p.core x).seq.token i)))

/-- R64, R78 and R94. -/
def Obligations.WeightPlanes : Prop :=
  ∀ (x : Cid) (s : State), NoBlockReset s x.t →
    (s.p.active x = true →
      (∀ mode chk addr, (s.p.core x).loadOk mode.val chk = true → ∃ t, exec (.load x mode chk addr) s = .next t ∧
        (t.p.core x).grid.shadow.wf = ((s.p.core x).seq.gmode mode.val).wf ∧
        (t.p.core x).grid.shadow.ocm = ((s.p.core x).seq.gmode mode.val).ocm ∧
        (t.p.core x).grid.shadow.chk = chk ∧ (t.p.core x).grid.active = (s.p.core x).grid.active ∧
        (t.p.core x).grid.acc = (s.p.core x).grid.acc ∧
        (t.p.core x).grid.load = some ⟨(s.p.core x).seq.cycle + 1, addr.toNat + 8,
          loadWords (Fmtd.of ((s.p.core x).seq.gmode mode.val).wf) ((s.p.core x).seq.gmode mode.val).ocm - 8⟩ ∧
        Only (May.work x.t) s t) ∧
      (∀ j, (s.p.core x).grid.load = some j → 0 < j.left → ∃ t, exec (.weightLoadDone x) s = .next t ∧
        (t.p.core x).grid.load = none ∧ (t.p.core x).grid.active = (s.p.core x).grid.active ∧
        Only (May.work x.t) s t) ∧
      (0 < (s.p.core x).seq.token 63 → ∃ t, exec (.swap x) s = .next t ∧
        (t.p.core x).grid.active = { (s.p.core x).grid.shadow with failed := [] } ∧
        (t.p.core x).grid.shadow = (s.p.core x).grid.active ∧
        (∀ k, (t.p.core x).seq.token k = (s.p.core x).seq.token k - (if k = 63 then 1 else 0)) ∧
        t.p.core x = { s.p.core x with
          grid := { (s.p.core x).grid with active := (t.p.core x).grid.active, shadow := (t.p.core x).grid.shadow }
          seq := { (s.p.core x).seq with tokens := (t.p.core x).seq.tokens } } ∧
        Only { cores := fun y => y = x } s t)) ∧
    (∀ (k col : Fin 128) (code : BitVec 16), k.val < (s.p.core x).grid.active.fmt.kStored →
      col.val < (s.p.core x).grid.active.fmt.cols →
      ∃ t, exec (.heldWeightMismatch x k col code) s = .next t ∧
        (∀ (i j : Fin 128), (t.p.core x).grid.active.elem i.val j.val =
          if i = k ∧ j = col then code.toNat % 2 ^ (fmtElem (s.p.core x).grid.active.fmt.fmt).width
          else (s.p.core x).grid.active.elem i.val j.val) ∧
        (t.p.core x).grid.shadow = (s.p.core x).grid.shadow ∧ Only (May.event x.t) s t)

/-- What a VEC reads (R67, R518): the activation values, and the side values with their reduction positions. -/
def vecReads (s : State) (x : Cid) (mode stream : Nat) (side : Bool) (ss : Nat) : List Q × List (Nat × Q) :=
  let q := (s.p.core x).seq
  let g := q.gmode mode
  let af := Fmtd.of g.af
  let wf := Fmtd.of g.wf
  let pl := (s.p.core x).grid.active
  let r1 := s.p.spadReads x (q.stream stream).addr (vecWords wf af)
  let n := (if side then 2 else 0) + (if af.scaled then 1 else 0)
  let r2 := (r1.2.2.spadAt x ((List.range n).map (recordAddr (q.stream ss).addr))).1
  let outs := if pl.fmt.four && !pl.fmt.sparse then pl.outliers else []
  ((activation af g.ats wf.kLog r1.1 (r2.getD (if side then 2 else 0) 0) (outs.map (·.2))).1,
    if side then (sideValues outs (r2.getD 0 0) (r2.getD 1 0)).1 else [])

/-- The AccMem entry that column c of a vector for row m adds to (R61, R62). -/
def vecEntry (m c : Nat) : Nat := if c < 64 then m else (m + 256) % 512

/-- The values of row m that a READ converts, with the checksum columns of a checked tile left out (R74, R76). -/
def readRow (s : State) (x : Cid) (mode m : Nat) : List (Bool × Q) :=
  let c := s.p.core x
  let dbl := (Fmtd.of (c.seq.gmode mode).wf).doubled
  let es := c.grid.rowEntries (c.seq.cycle + 6) m ++ (if dbl then c.grid.rowEntries (c.seq.cycle + 6) ((m + 256) % 512) else [])
  (List.range es.length).map (fun j =>
    ((c.grid.group m).chk && j % 64 == 63, Q.dy (es.getD j Acc.zero).v.toInt (c.grid.group m).W))

/-- R66, R73, R74, Table 4.5: OPEN, VEC and READ. -/
def Obligations.AccumulatorWindow : Prop :=
  ∀ (x : Cid) (s : State), s.p.active x = true → NoBlockReset s x.t →
    (∀ mode first groups anchor chk, (s.p.core x).openOk mode.val first.val groups.val chk = true →
      let dbl := (Fmtd.of ((s.p.core x).seq.gmode mode.val).wf).doubled
      let gs := openGroups dbl first.val (groups.val + 1)
      ∃ t, exec (.open_ x mode first groups anchor chk) s = .next t ∧
        (∀ k, (t.p.core x).grid.entry k = if k % 512 / 16 ∈ gs then Acc.zero else (s.p.core x).grid.entry k) ∧
        (∀ m, (t.p.core x).grid.group m = if m / 16 ∈ gs then ⟨anchor, chk, dbl⟩ else (s.p.core x).grid.group m) ∧
        (t.p.core x).grid.active = (s.p.core x).grid.active ∧ (t.p.core x).grid.shadow = (s.p.core x).grid.shadow ∧
        (t.p.core x).seq.lastChk = some chk ∧ (t.p.core x).seq.tiles = (s.p.core x).seq.tiles + 1 ∧
        Only { cores := fun y => y = x } s t) ∧
    (∀ mode row stream side sstream, (s.p.core x).vecOk mode.val row.val = true →
      let v := vecReads s x mode.val stream.val side sstream.val
      let pl := (s.p.core x).grid.active
      ∃ t, exec (.vec x mode row stream side sstream) s = .next t ∧
        (∀ c, c < (Fmtd.of ((s.p.core x).seq.gmode mode.val).wf).cols →
          (t.p.core x).grid.entry (accKey (c % 64) (vecEntry row.val c)) =
            (((s.p.core x).grid.entry (accKey (c % 64) (vecEntry row.val c))).add
              ((s.p.core x).grid.group (vecEntry row.val c)).W
              (pl.products v.1 c ++ v.2.map (fun e => (pl.sideWeight e.1 c).mul e.2))).1) ∧
        (t.p.core x).grid.active = pl ∧ (t.p.core x).spad = (s.p.core x).spad ∧
        (stream ≠ sstream → (t.p.core x).seq.stream stream.val = ((s.p.core x).seq.stream stream.val).next) ∧
        Only (May.work x.t) s t) ∧
    (∀ mode row planer stream, (s.p.core x).readOk false mode.val row.val planer = true →
      let g := (s.p.core x).seq.gmode mode.val
      let o := Fmtd.of g.outf
      let ts : ScaleRd := if o.fmt = 3 then ScaleTy.e8m0.read g.ots.toNat else ⟨Q.int 1, false, false⟩
      let r := convert o ts (readRow s x mode.val row.val) ⟨s.p.lfsr x, 0⟩
      let w := (fmtElem o.fmt).width
      let a := ((s.p.core x).seq.stream stream.val).addr
      ∃ t, exec (.read x mode row planer stream) s = .next t ∧
        (∀ k, (t.p.core x).grid.entry k = (s.p.core x).grid.entry k) ∧
        (planer = true → (t.p.core x).spad = (s.p.core x).spad ∧
          ((t.p.core x).grid.rows.drop (s.p.core x).grid.rows.length).flatMap (·.vals) = r.vals o ts) ∧
        (planer = false → (t.p.core x).grid.rows = (s.p.core x).grid.rows ∧
          (t.p.core x).seq.stream stream.val = ((s.p.core x).seq.stream stream.val).next ∧
          (∀ b, (∀ i, i < 2 * w → b % 2 ^ 19 ≠ (a + i) % 2 ^ 19) → (t.p.core x).cell b = (s.p.core x).cell b) ∧
          (∀ i, i < w → ssc76Data ((t.p.core x).cell (a + i)) =
            (toWords w (packCodes w ((r.els.map (·.code)).take 64))).getD i 0)) ∧
        Only (May.work x.t) s t)

/-- R70 and R72. -/
def Obligations.WindowArithmetic : Prop :=
  ∀ (a : Acc) (W : Int),
    (∀ ns : List Int, (∀ n ∈ ns, n.natAbs < 2 ^ 67) →
      (-(2 ^ 95) ≤ a.v.toInt + ns.sum → a.v.toInt + ns.sum < 2 ^ 95 →
        a.add W (ns.map (fun n => Q.dy n W)) = (⟨BitVec.ofInt 96 (a.v.toInt + ns.sum), a.xlo, a.xhi⟩, false)) ∧
      (2 ^ 95 ≤ a.v.toInt + ns.sum →
        a.add W (ns.map (fun n => Q.dy n W)) = (⟨BitVec.ofInt 96 (2 ^ 95 - 1), a.xlo, true⟩, true)) ∧
      (a.v.toInt + ns.sum < -(2 ^ 95) →
        a.add W (ns.map (fun n => Q.dy n W)) = (⟨BitVec.ofInt 96 (-(2 ^ 95)), a.xlo, true⟩, true))) ∧
    (∀ n : Int, 2 ^ 67 ≤ n.natAbs →
      window W (Q.dy n W) = ((if n < 0 then -(2 ^ 67 - 1) else 2 ^ 67 - 1), false, true)) ∧
    (∀ (n : Int) (k : Nat), n % 2 ^ (k + 1) ≠ 0 → n.natAbs < 2 ^ (67 + k + 1) →
      (window W (Q.dy n (W - (k + 1)))).2 = (true, false))

/-- The ledger of core x is unchanged but in the n rows from r on. -/
def LedgerKept (x : Cid) (r n : Nat) (s t : State) : Prop :=
  ∀ k, (k < r ∨ r + n ≤ k) → (t.p.core x).ledger k = (s.p.core x).ledger k

/-- The output stream of the slot, where no other field names it, has been used once. -/
def OutUsed (x : Cid) (sl : PlnSlot) (s t : State) : Prop :=
  sl.outs ∉ [sl.ins, sl.auxs, sl.scs, sl.sds] →
    (t.p.core x).seq.stream sl.outs.val = ((s.p.core x).seq.stream sl.outs.val).next

/-- R155 to R165. -/
def Obligations.PlanerOperations : Prop :=
  ∀ (x : Cid) (sl : PlnSlot) (s : State), s.p.active x = true → NoBlockReset s x.t →
    ((s.p.core x).plnOk false 11 sl = true → ∃ t, exec (.lclr x sl) s = .next t ∧
      (∀ k, (t.p.core x).ledger k =
        if sl.row.val ≤ k ∧ k < sl.row.val + ((s.p.core x).seq.sreg sl.preg.val).toNat then ledgerReset k
        else (s.p.core x).ledger k) ∧
      t.p.core x = { s.p.core x with pln := { (s.p.core x).pln with ledger := (t.p.core x).pln.ledger } } ∧
      Only { cores := fun y => y = x } s t) ∧
    ((s.p.core x).plnOk false 1 sl = true → ∃ t, exec (.smax x sl) s = .next t ∧ LedgerKept x sl.row.val 1 s t ∧
      (laneValid (s.p.core x) sl 0 = true → sl.src = 0 → -32768 < rowMax ((s.p.core x).ledger sl.row.val) →
        let old := (s.p.core x).ledger sl.row.val
        let new := (t.p.core x).ledger sl.row.val
        rowMax old ≤ rowMax new ∧ rowEmpty new = false ∧
          rowShift new = (rowMax new - rowMax old).toNat) ∧
      OutUsed x sl s t ∧ Only (May.work x.t) s t) ∧
    ((s.p.core x).plnOk false 6 sl = true → ∃ t, exec (.stat x sl) s = .next t ∧ LedgerKept x sl.row.val 1 s t ∧
      (sl.func ≠ 0 → rowHigh ((t.p.core x).ledger sl.row.val) = 0) ∧ Only (May.work x.t) s t) ∧
    ((s.p.core x).plnOk false 5 sl = true → ∃ t, exec (.lmerge x sl) s = .next t ∧ LedgerKept x sl.row.val 1 s t ∧
      (rowEmpty (s.p.spadRead x (((s.p.core x).seq.stream sl.ins.val).addr + sl.func.val)).1 = true →
        LedgerKept x 0 0 s t) ∧ OutUsed x sl s t ∧ Only (May.work x.t) s t) ∧
    ((s.p.core x).plnOk false 10 sl = true → ∃ t, exec (.scan x sl) s = .next t ∧ LedgerKept x sl.row.val 64 s t ∧
      OutUsed x sl s t ∧ Only (May.work x.t) s t) ∧
    ((s.p.core x).plnOk false 2 sl = true → ∃ t, exec (.ofold x sl) s = .next t ∧ LedgerKept x 0 0 s t ∧
      OutUsed x sl s t ∧ Only (May.work x.t) s t) ∧
    ((s.p.core x).plnOk false 3 sl = true → ∃ t, exec (.odiv x sl) s = .next t ∧ LedgerKept x 0 0 s t ∧
      OutUsed x sl s t ∧ Only (May.work x.t) s t) ∧
    ((s.p.core x).plnOk false 4 sl = true → ∃ t, exec (.lpack x sl) s = .next t ∧ LedgerKept x 0 0 s t ∧
      (ssc76Dec ((t.p.core x).cell (((s.p.core x).seq.stream sl.outs.val).addr + sl.func.val))).2 = .clean ∧
      OutUsed x sl s t ∧ Only (May.work x.t) s t) ∧
    ((s.p.core x).plnOk false 7 sl = true → ∃ t, exec (.norm x sl) s = .next t ∧ LedgerKept x 0 0 s t ∧
      OutUsed x sl s t ∧ Only (May.work x.t) s t) ∧
    ((s.p.core x).plnOk false 8 sl = true → ∃ t, exec (.act x sl) s = .next t ∧ LedgerKept x 0 0 s t ∧
      OutUsed x sl s t ∧ Only (May.work x.t) s t) ∧
    ((s.p.core x).plnOk false 9 sl = true → ∃ t, exec (.quant x sl) s = .next t ∧ LedgerKept x 0 0 s t ∧
      OutUsed x sl s t ∧ Only (May.work x.t) s t)

/-- R93, R131, R132 and R135. -/
def Obligations.ScratchpadCommands : Prop :=
  ∀ (x : Cid) (s : State),
    (s.p.active x = true → ∀ (r : Fin 16) (a : BitVec 19), r.val ≠ 15 →
      ((ssc76Dec ((s.p.core x).cell a.toNat)).2 = .clean → ∃ t, exec (.srd x r a) s = .next t ∧
        (∀ k, (t.p.core x).seq.sreg k =
          if k = r.val + 1 then (ssc76Data ((s.p.core x).cell a.toNat)).extractLsb' 32 32
          else if k = r.val ∧ r.val ≠ 0 then (ssc76Data ((s.p.core x).cell a.toNat)).setWidth 32
          else (s.p.core x).seq.sreg k) ∧
        Only { cores := fun y => y = x } s t) ∧
      (∃ t, exec (.swr x r a) s = .next t ∧
        ssc76Dec ((t.p.core x).cell a.toNat) =
          (ssc76Enc ((s.p.core x).seq.sreg (r.val + 1) ++ (s.p.core x).seq.sreg r.val), .clean) ∧
        (∀ b, b % 2 ^ 19 ≠ a.toNat → (t.p.core x).cell b = (s.p.core x).cell b) ∧
        t.p.core x = { s.p.core x with spad := (t.p.core x).spad, scrub := (t.p.core x).scrub } ∧
        Only { cores := fun y => y = x } s t)) ∧
    (∀ (b : Fin 32) (e : Scrub), (s.p.core x).scrubOf b.val = some e → ∃ t, exec (.scrubWriteback x b) s = .next t ∧
      (∀ k, sget spadReset (t.p.core x).spad k = if k = e.addr then e.cw else sget spadReset (s.p.core x).spad k) ∧
      (∀ k, (t.p.core x).scrubOf k = if k = b.val then none else (s.p.core x).scrubOf k) ∧
      t.p.core x = { s.p.core x with spad := (t.p.core x).spad, scrub := (t.p.core x).scrub } ∧
      Only { cores := fun y => y = x } s t) ∧
    (∀ v, ∃ t, exec (.coreRetainWrite x v) s = .next t ∧
      (popcount v ≤ 8 → t.p.crd x R.coreRetain = v ∧ Only { regs := fun a => a = coreB x.t x.c + R.coreRetain } s t) ∧
      (8 < popcount v → t.p.cget x R.spadStatus_retain_rej = 1 ∧
        Only { regs := fun a => a = coreB x.t x.c + R.spadStatus } s t))

/-- The core's compute block answers, and no reaction of its tile resets it. -/
def Alive (s : State) (x : Cid) : Prop := s.p.computeDead x = false ∧ NoBlockReset s x.t

/-- R139 to R145. -/
def Obligations.LarderCommands : Prop :=
  ∀ (x : Cid) (s : State), Alive s x →
    (∀ v : BitVec 32, s.p.larOn x = false → v.getLsbD 31 = true → s.p.larEnableOk x (v &&& 0xFE07FFFF) = true →
      ∃ t, exec (.larderEnable x v) s = .next t ∧ t.p.crd x R.larderCtl = v &&& 0xFE07FFFF ∧
        t.p.larHeld x = 0 ∧ t.p.larSpillHeld x = 0 ∧ t.p.larSpillMode x = false ∧ (t.p.core x).larder.accepted = 0 ∧
        Only { May.work x.t with keep := False } s t) ∧
    (∀ v : BitVec 32, s.p.larOn x = true → v.getLsbD 31 = false →
      (v &&& 0x7E07FFFF) = (s.p.crd x R.larderCtl &&& 0x7FFFFFFF) →
      s.p.larHeld x = 0 → s.p.larSpillHeld x = 0 → (s.p.core x).larder.writing = 0 →
      ∃ t, exec (.larderDisable x v) s = .next t ∧ t.p.larOn x = false ∧
        Only { regs := fun a => a = coreB x.t x.c + R.larderCtl ∨ a = coreB x.t x.c + R.larderStatus, cores := fun y => y = x } s t) ∧
    (∀ v : BitVec 32, 0 < bits v 15 0 → bits v 15 0 ≤ s.p.larHeld x →
      ∃ t, exec (.larderRel x v) s = .next t ∧ t.p.larHeld x = s.p.larHeld x - bits v 15 0 ∧
        t.p.crd x R.larderHead = w32 (((s.p.crd x R.larderHead).toNat + bits v 15 0) % max (s.p.larN x) 1) ∧
        Only { May.work x.t with keep := False } s t) ∧
    (∀ id f, s.p.committedAt id x 5 = some f → s.p.larderRefuse x f.hdr (64 * f.hdr.length) = stOk →
      s.p.larSpillHeld x = 0 → 0 < s.p.larFree x → s.p.larHeld x < 65535 →
      ∃ t, exec (.larderArrival x id) s = .next t ∧ t.p.larHeld x = s.p.larHeld x + 1 ∧
        (t.p.core x).larder.accepted = (s.p.core x).larder.accepted + 1 ∧ Only (May.work x.t) s t) ∧
    (s.p.larOn x = true → 0 < s.p.larSpillHeld x → 0 < s.p.larFree x → s.p.larHeld x < 65535 →
      ∃ t, exec (.larderRefill x) s = .next t ∧ t.p.larHeld x = s.p.larHeld x + 1 ∧
        t.p.larSpillHeld x = s.p.larSpillHeld x - 1 ∧ Only (May.work x.t) s t) ∧
    (s.p.larWaiting x = true → s.p.regionState x = 0 → bits (s.p.crd x R.larderTimeout) 15 0 ≤ (s.p.core x).larder.timer →
      s.p.cget x R.larderDepth_spill ≠ 0 → s.p.larSpillMode x = false →
      ∃ t, exec (.larderTimeout x) s = .next t ∧ t.p.larSpillMode x = true ∧ (t.p.sticky x.t).testBit 20 = true ∧
        Only (May.work x.t) s t)

/-- The movement command of a descriptor operation. -/
def moveCmd (x : Cid) (i : Nat) : Nat → Instr
  | 1 => .copy x i
  | 2 => .gather x i
  | 3 => .scatter x i
  | _ => .dispatch x i

/-- R106 to R112. -/
def Obligations.DmaEngine : Prop :=
  ∀ (x : Cid) (s : State), Alive s x → s.p.draining x = false →
    (∀ a rest, (s.p.core x).dmaq = a :: rest → (s.p.core x).descs.length < 4 →
      ∃ t d, exec (.descriptorStart x) s = .next t ∧ (t.p.core x).dmaq = rest ∧
        (t.p.core x).descs = (s.p.core x).descs ++ [d] ∧ d.addr = a ∧ d.id = (s.p.core x).nextDesc ∧
        d.words = (s.p.spadReads x a 8).1 ∧ ((s.p.spadReads x a 8).2.1 = true → d.status = stHwFault) ∧
        Only (May.event x.t) s t) ∧
    (∀ op i d pc ws, op ∈ [1, 2, 3, 4] → (s.p.core x).descs[i]? = some d → d.op = op → d.status = 0 → d.planned = true →
      s.p.ownUnit x d.src 2 = true → d.pieces[d.next]? = some pc → d.next + 1 = d.pieces.length →
      s.p.ownUnit x pc.ep 6 = true → pc.dst + pc.bytes ≤ chanBytes → pc.src + pc.bytes ≤ 2 ^ 22 →
      (s.p.pieceData x d d.next pc).1 = some ws →
      ∃ t, exec (moveCmd x i op) s = .next t ∧
        (t.p.chan x).q0.length = (s.p.chan x).q0.length + pc.bytes / 64 ∧
        (t.p.chan x).cells = (s.p.chan x).cells ∧ Only (May.work x.t) s t) ∧
    (∀ i d, (s.p.core x).descs[i]? = some d → d.sent = true → s.p.descQuiet x d = true → d.noWord0 = false → d.op ≠ 4 →
      d.token < 62 → d.rtv = false → (s.p.core x).seq.token 62 < 65535 →
      ∃ t, exec (.descriptorWriteback x i) s = .next t ∧ (t.p.core x).descs = (s.p.core x).descs.eraseIdx i ∧
        bits (ssc76Data ((t.p.core x).cell d.addr)) 15 8 = d.status % 256 ∧
        bits (ssc76Data ((t.p.core x).cell d.addr)) 63 32 = d.doneBytes % 2 ^ 32 ∧
        (t.p.core x).seq.token 62 = (s.p.core x).seq.token 62 + 1 ∧ Only (May.event x.t) s t)

/-- The requests a channel slot offers (R173). -/
def offered (h : Chan) (w : Nat) : Option DReq := (queued (if w = 0 then h.q0 else h.q1)).find? h.eligible

/-- R173 to R187. -/
def Obligations.DramAccesses : Prop :=
  ∀ (x : Cid) (s : State),
    (∀ w r, (s.p.chan x).inited = true → s.p.selfref x = false →
      (s.p.chan x).starts < capStarts (s.p.tget x.t R.dramTherm_cap) →
      (s.p.chan x).arb.pick 2 ((if (offered (s.p.chan x) 0).isSome then [0] else []) ++
        (if (offered (s.p.chan x) 1).isSome then [1] else [])) = some w →
      offered (s.p.chan x) w = some r →
      ∃ t, exec (.dramAccess x) s = .next t ∧ (t.p.chan x).slot = (s.p.chan x).slot + 1 ∧
        (if w = 0 then (t.p.chan x).q0 = (s.p.chan x).q0.erase r ∧ (t.p.chan x).q1 = (s.p.chan x).q1
         else (t.p.chan x).q1 = (s.p.chan x).q1.erase r ∧ (t.p.chan x).q0 = (s.p.chan x).q0) ∧
        (∀ d, r.wdata = some d → ∀ k, sget cellReset (t.p.chan x).cells k =
          if k = (s.p.chan x).cellOf r.off then ssc528Enc d else sget cellReset (s.p.chan x).cells k) ∧
        (r.wdata = none → (t.p.chan x).cells = (s.p.chan x).cells ∧
          (t.p.chan x).reads = (s.p.chan x).reads ++ [⟨r, (s.p.chan x).raw r.off⟩]) ∧
        Only { ctrs := fun a => atCore x a, chans := fun y => y = x } s t) ∧
    (∀ i r, (s.p.chan x).reads[i]? = some r → NoBlockReset s x.t → ∃ t d, exec (.dramReadDone x i) s = .next t ∧
      (t.p.chan x).reads = (s.p.chan x).reads.eraseIdx i ∧ (t.p.chan x).got = (s.p.chan x).got ++ [(r.req.tag, d)] ∧
      ((ssc528Dec r.raw).2 = .uncorrectable → d = none) ∧
      ((ssc528Dec r.raw).2 ≠ .uncorrectable → d = some (ssc528Data (ssc528Dec r.raw).1)) ∧
      Only (May.event x.t) s t) ∧
    (∀ b : Fin 64, s.p.selfref x = false →
      (refreshDue (s.p.dblRefresh x) (sget (fun _ => 0) (s.p.chan x).maint b.val) = true →
        ∃ t, exec (.refresh x b) s = .next t ∧
          (∀ k, sget (fun _ => 0) (t.p.chan x).refresh k =
            if k = b.val then (sget (fun _ => 0) (s.p.chan x).refresh b.val + 1) % 3080
            else sget (fun _ => 0) (s.p.chan x).refresh k) ∧
          (t.p.chan x).cells = (s.p.chan x).cells ∧ Only { chans := fun y => y = x } s t) ∧
      (∀ e, refreshDue (s.p.dblRefresh x) (sget (fun _ => 0) (s.p.chan x).maint b.val) = false →
        (s.p.chan x).scrub.find? (fun e => cellBank e.row == b.val) = some e →
        ∃ t, exec (.dramScrubWrite x b) s = .next t ∧
          (∀ k, sget cellReset (t.p.chan x).cells k = if k = e.row then e.cw else sget cellReset (s.p.chan x).cells k) ∧
          (t.p.chan x).scrub = (s.p.chan x).scrub.erase e ∧
          Only { ctrs := fun a => a = coreB x.t x.c + 0x188, chans := fun y => y = x } s t))

/-- R193, R196 and R197. -/
def Obligations.DramRetirementAndStart : Prop :=
  ∀ (x : Cid) (s : State),
    (∀ v : BitVec 32, v.getLsbD 31 = true → s.p.cget x R.dramStatus_retire_busy = 0 → bits v 11 0 ≤ 3071 →
      (∀ r ∈ (s.p.chan x).remaps, ¬ (r.bank = bits v 23 18 ∧ r.spare = bits v 26 24)) →
      ∃ t, exec (.dramRetire x v) s = .next t ∧ t.p.cget x R.dramStatus_retire_busy = 1 ∧
        (t.p.chan x).retire = some ⟨bits v 23 18, bits v 11 0, bits v 26 24, true⟩ ∧
        (t.p.chan x).cells = (s.p.chan x).cells ∧
        Only { regs := fun a => a = coreB x.t x.c + R.dramRetire ∨ a = coreB x.t x.c + R.dramStatus
               chans := fun y => y = x } s t) ∧
    (∀ v : BitVec 32, v.getLsbD 31 = true → 3071 < bits v 11 0 →
      ∃ t, exec (.dramRetire x v) s = .next t ∧ t.p.cget x R.dramStatus_retire_rej = 1 ∧
        Only { regs := fun a => a = coreB x.t x.c + R.dramStatus } s t) ∧
    (∀ r, (s.p.chan x).retire = some r → ∃ t, exec (.retirementDone x) s = .next t ∧
      (t.p.chan x).retire = none ∧ r ∈ (t.p.chan x).remaps ∧
      (∀ w, w < 32 → sget cellReset (t.p.chan x).cells (cellKey r.bank (3072 + r.spare) w) = 0) ∧
      t.p.cget x R.dramStatus_retire_busy = 0 ∧
      Only { regs := fun a => a = coreB x.t x.c + R.dramStatus, chans := fun y => y = x } s t) ∧
    ((s.p.chan x).inited = false → s.p.tilePowered x.t = true → ∃ t, exec (.dramInitDone x) s = .next t ∧
      (t.p.chan x).inited = true ∧ (∀ off, (t.p.chan x).raw off = 0) ∧
      Only { regs := fun a => a = coreB x.t x.c + R.dramStatus, chans := fun y => y = x } s t)

/-- No core's units change but for the counting of tokens and trap flags; the scratchpads and grids are as they were. -/
def CoresQuiet (s t : State) : Prop :=
  ∀ y, (t.p.core y).spad = (s.p.core y).spad ∧ (t.p.core y).grid = (s.p.core y).grid ∧ (t.p.core y).pln = (s.p.core y).pln ∧
    (t.p.chan y).cells = (s.p.chan y).cells

/-- R209, R210, R220: PACKET_INJECT, PACKET_ROUTE and PACKET_COMMIT. -/
def Obligations.PacketMovement : Prop :=
  ∀ (s : State),
    (∀ (r : RouterId) (h0 h1 h2 h3 : BitVec 64) (payload : List (BitVec 76)), s.p.forwards (rtrOf r) = true →
      (Header.of h0 h1 h2 h3).lenOk = true → s.p.check3 (rtrOf r) (Header.of h0 h1 h2 h3) = true →
      ∃ t f, exec (.packetInject r h0 h1 h2 h3 payload) s = .next t ∧ t.p.flights = s.p.flights ++ [f] ∧
        f.id = s.p.nextFlight ∧ t.p.nextFlight = s.p.nextFlight + 1 ∧ f.loc = rtrOf r ∧ f.stage = .transit ∧
        f.flits = mkFlits { Header.of h0 h1 h2 h3 with
          epoch := s.p.epochAt (rtrOf r) % 256, hops := 0, det := 0, fan := false } payload ∧
        t.p.awaits.length = s.p.awaits.length + (if (Header.of h0 h1 h2 h3).drawsStatus then 1 else 0) ∧
        Only { flights := True, awaits := True } s t) ∧
    (∀ (id : Nat) (f : Flight) (port det c : Nat), s.p.flight id = some f → f.stage = .transit → f.loc < 9216 →
      s.p.forwards f.loc = true → s.p.hop f = .out port det → (s.p.outRound f.loc port).1 = some f →
      edgeLink (f.loc % 64) port = none → coreAcross (f.loc % 64) port = some c →
      ∃ t g, exec (.packetRoute id) s = .next t ∧ t.p.flight id = some g ∧ g.loc = rtrCore (f.loc / 64) c ∧
        g.inp = oppPort port ∧ g.stage = .transit ∧ t.p.flights.length = s.p.flights.length ∧ CoresQuiet s t ∧
        t.fuses = s.fuses ∧ t.p.keep = s.p.keep ∧ t.p.host = s.p.host) ∧
    (∀ (id : Nat) (f : Flight), s.p.flight id = some f → f.stage = .dest → s.p.atHead f = true → s.p.check6 f = true →
      f.readOk = true → s.p.check7 f = some 0 → s.p.check8 f = 0 → f.check9.isSome = true →
      ∃ t g, exec (.packetCommit id) s = .next t ∧ t.p.flight id = some g ∧ g.stage = .committed ∧ g.flits = f.flits ∧
        CoresQuiet s t ∧ t.fuses = s.fuses ∧ t.p.keep = s.p.keep)

/-- The core whose router a packet is at. -/
def coreAt (f : Flight) : Cid := cid (f.loc / 64) (f.loc % 64)

/-- R163, R205 to R208, R427. -/
def Obligations.PacketEffects : Prop :=
  ∀ (s : State) (id : Nat) (f : Flight), f.loc < 9216 + 22 →
    (s.p.committed id kWrite = some f → f.loc < 9216 → (Ep.of f.hdr.dst).unit = 2 → ∃ t, exec (.write id) s = .next t ∧
      (t.p.core (coreAt f)).spad = ((s.p.core (coreAt f)).writes (f.unitOff / 8) f.data).spad ∧
      (∀ y, y ≠ coreAt f → t.p.core y = s.p.core y) ∧
      Only { May.work (coreAt f).t with chans := fun _ => False, colls := fun _ => False, keep := False, msgs := False } s t) ∧
    (s.p.committed id kWrite = some f → 9216 + 16 ≤ f.loc → f.loc < 9216 + 20 → ∃ t, exec (.write id) s = .next t ∧
      (∀ a, sget hostReset t.p.host.mem a =
        if hostKey (f.loc - 9216 - 16) f.hdr.offset ≤ a ∧
            a < hostKey (f.loc - 9216 - 16) f.hdr.offset + (wordBytes f.data).length
        then (wordBytes f.data).getD (a - hostKey (f.loc - 9216 - 16) f.hdr.offset) 0
        else sget hostReset s.p.host.mem a) ∧
      Only { flights := True, awaits := True, host := True } s t) ∧
    (∀ x, s.p.committedAt id x 4 = some f → f.hdr.kind = kWrite → ∃ t, exec (.planerInboxWrite x id) s = .next t ∧
      (t.p.core x).spad = ((s.p.core x).writes (8 * s.p.cget x R.plnInbox_base + f.hdr.offset / 8) f.data).spad ∧
      (∀ y, y ≠ x → t.p.core y = s.p.core y)) ∧
    (s.p.committed id kRead = some f → f.loc < 9216 → (Ep.of f.hdr.dst).unit = 2 → NoBlockReset s (coreAt f).t →
      (s.p.spadReads (coreAt f) (f.unitOff / 8) (f.bytes / 8)).2.1 = false → f.reply.lenOk = true →
      s.p.check3 f.loc f.reply = true →
      ∃ t g, exec (.readPacket id) s = .next t ∧ t.p.flights = s.p.flights.filter (fun e => e.id != id) ++ [g] ∧
        g.id = s.p.nextFlight ∧ g.loc = f.loc ∧
        g.flits = mkFlits { f.reply with epoch := s.p.epochAt f.loc % 256, hops := 0, det := 0, fan := false }
          ((s.p.spadReads (coreAt f) (f.unitOff / 8) (f.bytes / 8)).1.map ssc76Enc) ∧
        Only (May.work (coreAt f).t) s t) ∧
    (∀ a, s.p.committed id kRdata = some f → f.loc < 9216 → (Ep.of f.hdr.dst).unit = 2 → s.p.answers f = some a →
      (Ep.of a.src).isDie = false → ∃ t, exec (.rdata id) s = .next t ∧
        (t.p.core (coreAt f)).spad = ((s.p.core (coreAt f)).writes (f.hdr.offset / 8) f.data).spad ∧
        t.p.awaits = s.p.awaits.erase a ∧ t.p.flights = s.p.flights.filter (fun e => e.id != id)) ∧
    (s.p.committed id kPost = some f → f.loc < 9216 → ∃ t, exec (.post id) s = .next t ∧
      (∀ k, (t.p.core (coreAt f)).seq.token k =
        if k = f.hdr.token then min 65535 ((s.p.core (coreAt f)).seq.token k + bits (f.data.getD 0 0) 7 0)
        else (s.p.core (coreAt f)).seq.token k) ∧
      (∀ y, y ≠ coreAt f → t.p.core y = s.p.core y) ∧ CoresQuiet s t) ∧
    (∀ a, s.p.committed id kStatus = some f → s.p.answers f = some a → (Ep.of a.src).isDie = false →
      ∃ t, exec (.status id) s = .next t ∧ t.p.awaits = s.p.awaits.erase a ∧
        t.p.flights = s.p.flights.filter (fun e => e.id != id) ∧ CoresQuiet s t) ∧
    (∀ (src : BitVec 29) (xfer : BitVec 8) a, s.p.awaiting src.toNat xfer.toNat = some a → (Ep.of a.src).isDie = false →
      0 < s.p.cget (cid (Ep.of src.toNat).tile (Ep.of src.toNat).core) R.rspTimeout_limit →
      a.sent + s.p.cget (cid (Ep.of src.toNat).tile (Ep.of src.toNat).core) R.rspTimeout_limit ≤ s.p.now →
      ∃ t, exec (.rspTimeout src xfer) s = .next t ∧ t.p.awaits = s.p.awaits.erase a ∧ t.p.flights = s.p.flights ∧
        CoresQuiet s t)

/-- R232 and R237. -/
def Obligations.RouterFaults : Prop :=
  ∀ (x : Cid) (s : State),
    (∀ (port : Fin 4) (c : Nat), edgeLink x.c.val port.val = none → coreAcross x.c.val port.val = some c →
      ((s.p.router (rtrCore x.t c)).faulted = true ∨ (s.p.router (rtrCore x.t c)).resetting = true) →
      ∃ t, exec (.portDown x port) s = .next t ∧
        bits (t.p.crd x R.rtrPort) (2 * port.val + 1) (2 * port.val) = 1 ∧
        Only { regs := fun a => a = coreB x.t x.c + R.rtrPort } s t) ∧
    (∃ t, exec (.routerInternalFault (.core x)) s = .next t ∧ (t.p.router (rtrCore x.t x.c)).faulted = true ∧
      t.p.forwards (rtrCore x.t x.c) = false ∧ (t.p.sticky x.t).testBit 11 = true) ∧
    (∀ (arb : Fin 38) (q : Fin 15), arb.val < 32 → NoBlockReset s x.t → 0 < s.p.tget x.t R.arbStarveLimit_limit →
      s.p.tget x.t R.arbStarveLimit_limit ≤ sget (fun _ => 0) ((s.p.core x).bankArb arb.val).run q.val →
      q.val ∉ ((s.p.core x).bankArb arb.val).flagged → ∃ t, exec (.arbStarve x arb q) s = .next t ∧
        ((t.p.core x).bankArb arb.val).flagged = ((s.p.core x).bankArb arb.val).flagged ++ [q.val] ∧
        (t.p.sticky x.t).testBit 19 = true ∧ Only (May.event x.t) s t)

/-- An end has gone DOWN for a reason (R263). -/
def WentDown (e : LinkEnd) (reason : Nat) (s t : State) : Prop :=
  t.p.linkState e = 10 ∧ t.p.nget e R.linkSts_reason = reason ∧
    (t.p.link e).out = (s.p.link e).out ++ [linkMsg [9, reason]] ∧ (t.p.link e).replay = [] ∧ (t.p.link e).avoid = true ∧
    Counts (linkCtr e 0xA0) 1 s t ∧ Only (May.linkEnd e) s t

/-- R249, R256 and R263. -/
def Obligations.LinkGoesDown : Prop :=
  ∀ (e : LinkEnd) (s : State),
    (s.p.linkServes e = true → (∃ r ∈ (s.p.link e).resent, 16 ≤ r.2) →
      ∃ t, exec (.replayLimit e) s = .next t ∧ WentDown e 6 s t) ∧
    (1 ≤ s.p.linkState e → s.p.linkState e ≤ 7 → (s.p.link e).since + phaseBound (s.p.linkState e) ≤ s.p.now →
      ∃ t, exec (.phaseTimeout e) s = .next t ∧ WentDown e 9 s t) ∧
    (1 ≤ s.p.linkState e → s.p.linkState e ≤ 9 →
      (∃ t, exec (.clockLost e) s = .next t ∧ WentDown e 1 s t) ∧
      (∀ reason, ∃ t, exec (.down e reason) s = .next t ∧ WentDown e 7 s t))

/-- R252 and R254. -/
def Obligations.LinkNegotiation : Prop :=
  ∀ (e : LinkEnd) (s : State),
    (∀ m r, s.p.linkState e = 3 → creditsOk m = true → negotiate (capOf e) m = some r →
      ∃ t, exec (.cap e m) s = .next t ∧
        t.p.link e = { s.p.link e with
          cap := some m, own := some (linkMsg (2 :: r)).toNat, out := (s.p.link e).out ++ [linkMsg (2 :: r)] } ∧
        Only { links := fun n => n = linkKey e } s t) ∧
    (∀ m o, s.p.linkState e = 3 → (s.p.link e).own = some o →
      (o % 2 ^ 40 = m.toNat % 2 ^ 40 → ∃ t, exec (.capAck e m) s = .next t ∧
        t.p.nget e R.linkSts_ver = msgByte m 1 % 16 ∧ t.p.nget e R.linkSts_rate = msgByte m 3 % 4 ∧
        t.p.nget e R.linkSts_feat = msgByte m 4 % 16 ∧ t.p.nget e R.linkSts_w128 = (if msgByte m 2 = 128 then 1 else 0) ∧
        t.p.linkState e = 3 ∧
        t.p.link e = { s.p.link e with out := (s.p.link e).out ++ [phaseMsg 4], msg := some (phaseMsg 4, s.p.now) } ∧
        Only { regs := fun a => a = linkBase e + R.linkSts, links := fun n => n = linkKey e } s t) ∧
      (o % 2 ^ 40 ≠ m.toNat % 2 ^ 40 → (s.p.link e).restarts < 3 → ∃ t, exec (.capAck e m) s = .next t ∧
        t.p.link e = { s.p.link e with
          cap := none, own := none, restarts := (s.p.link e).restarts + 1, out := (s.p.link e).out ++ [capOf e]
          msg := some (capOf e, s.p.now) } ∧
        Only { links := fun n => n = linkKey e } s t)) ∧
    (∀ ph : BitVec 8, s.p.linkState e ≠ 0 → s.p.linkState e < 8 → 2 ≤ ph.toNat → ph.toNat ≤ 8 → s.p.linkState e ≤ ph.toNat →
      (ph.toNat = s.p.linkState e → ph.toNat = 6) → ∃ t, exec (.phase e ph) s = .next t ∧
        ((∃ at_, (s.p.link e).msg = some (phaseMsg ph.toNat, at_)) →
          t.p.link e = { s.p.link e with msg := none, switchTo := some ph.toNat }) ∧
        ((∀ at_, (s.p.link e).msg ≠ some (phaseMsg ph.toNat, at_)) →
          t.p.link e = { s.p.link e with
            out := (s.p.link e).out ++ [phaseMsg ph.toNat], switchTo := some ph.toNat }) ∧
        Only { links := fun n => n = linkKey e } s t) ∧
    (∀ ph, (s.p.link e).switchTo = some ph → 2 ≤ ph → ph ≤ 8 → ∃ t, exec (.phaseSwitch e) s = .next t ∧
      t.p.linkState e = ph ∧ (t.p.link e).switchTo = none ∧ (t.p.link e).rxMap = (s.p.link e).rxNew ∧
      (t.p.link e).txMap = (s.p.link e).txNew ∧ (t.p.link e).since = s.p.now ∧
      (ph = 3 → (t.p.link e).msg = some (capOf e, s.p.now)) ∧ (ph = 4 → (t.p.link e).msg = some (phaseMsg 5, s.p.now)) ∧
      (ph = 8 → (t.p.link e).seq = 0 ∧ (t.p.link e).expect = 0 ∧ (t.p.link e).replay = [] ∧
        ∀ m, (s.p.link e).cap = some m → ∀ c, c < 5 → sget (fun _ => (0 : Int)) (t.p.link e).cred c =
          (msgByte m (10 + 2 * c) + 256 * msgByte m (11 + 2 * c) : Nat)) ∧
      Only { regs := linkRegs e, links := fun n => n = linkKey e } s t)

/-- R242, R251, R252, R256 to R258 and R263. -/
def Obligations.LinkTraining : Prop :=
  ∀ (e : LinkEnd) (s : State),
    (∀ f, linkPartner e = some f → s.p.linkRuns e = true → s.p.linkRuns f = true → s.p.linkHeld e = false →
      s.p.linkHeld f = false → s.p.linkState e = 0 ∨ (s.p.linkState e = 10 ∧ s.p.linkState f ≤ 7) →
      ∃ t, exec (.trainingStart e) s = .next t ∧ t.p.linkState e = 1 ∧ t.p.nget e R.linkDelay_valid = 0 ∧
        (t.p.link e).since = s.p.now ∧ (t.p.link e).rxMap = (s.p.link e).rxMap ∧ (t.p.link e).avoid = (s.p.link e).avoid ∧
        Only { regs := linkRegs e, links := fun n => n = linkKey e } s t) ∧
    (s.p.linkState e = 1 → ∃ t, exec (.clockLock e) s = .next t ∧ t.p.linkState e = 2 ∧
      t.p.link e = { s.p.link e with since := s.p.now } ∧
      Only { regs := fun a => a = linkBase e + R.linkSts, links := fun n => n = linkKey e } s t) ∧
    (∀ bad : List (Fin 170), s.p.linkState e = 2 →
      (∀ m, addSpares (s.p.link e).rxMap ((bad.map (·.val)).eraseDups.filter
          (fun q => (s.p.link e).rxMap.all (fun r => r.1 != q))) = some m →
        ∃ t, exec (.censusEnd e bad) s = .next t ∧
          t.p.link e = { s.p.link e with
            rxNew := m, out := (s.p.link e).out ++ [spareMsg m], msg := some (spareMsg m, s.p.now) } ∧
          Only { links := fun n => n = linkKey e } s t) ∧
      (addSpares (s.p.link e).rxMap ((bad.map (·.val)).eraseDups.filter
          (fun q => (s.p.link e).rxMap.all (fun r => r.1 != q))) = none →
        ∃ t, exec (.censusEnd e bad) s = .next t ∧ WentDown e 2 s t)) ∧
    (∀ m, s.p.linkState e = 2 ∨ s.p.linkState e = 6 ∨ s.p.linkState e = 9 → ∃ t, exec (.spare e m) s = .next t ∧
      ((∃ at_, (s.p.link e).msg = some (m, at_)) →
        (t.p.link e).txNew = (s.p.link e).txNew ∧
        (t.p.link e).out = (s.p.link e).out ++ (if (s.p.link e).gotSpare = true then
          (if s.p.linkState e = 2 then [phaseMsg 3] else if s.p.linkState e = 6 then [phaseMsg 6] else []) else [])) ∧
      ((∀ at_, (s.p.link e).msg ≠ some (m, at_)) →
        (t.p.link e).txNew = spareMap m ∧ (t.p.link e).gotSpare = true ∧
        (t.p.link e).out = (s.p.link e).out ++ [m] ++ (if (s.p.link e).msg = none then
          (if s.p.linkState e = 2 then [phaseMsg 3] else if s.p.linkState e = 6 then [phaseMsg 6] else []) else [])) ∧
      (t.p.link e).rxMap = (s.p.link e).rxMap ∧ (t.p.link e).txMap = (s.p.link e).txMap ∧
      Only { links := fun n => n = linkKey e } s t) ∧
    (∀ m, s.p.linkState e = 5 ∨ s.p.linkState e = 6 ∨ s.p.linkState e = 9 → ∃ t, exec (.eq e m) s = .next t ∧
      (∀ k, sget (fun _ => (0 : Int)) (t.p.link e).taps k = sget (fun _ => (0 : Int)) (s.p.link e).taps k +
        (if k = 4 * msgByte m 1 + msgByte m 2 % 4 then signed 8 (msgByte m 3) else 0)) ∧
      t.p.link e = { s.p.link e with taps := (t.p.link e).taps, out := (s.p.link e).out ++ [m] } ∧
      Only { links := fun n => n = linkKey e } s t) ∧
    (s.p.linkState e = 5 → ∃ t, exec (.trainIdleEnd e) s = .next t ∧
      t.p.link e = { s.p.link e with out := (s.p.link e).out ++ [phaseMsg 6], msg := some (phaseMsg 6, s.p.now) } ∧
      Only { links := fun n => n = linkKey e } s t) ∧
    (∀ ms : List (Fin 170 × BitVec 6), s.p.linkState e = 6 → (∀ q ∈ ms, bits (s.p.marginTh e) 13 8 ≤ q.2.toNat) →
      ∃ t, exec (.trainLoadedEnd e ms) s = .next t ∧
        t.p.nget e R.linkSts_margin = ms.foldl (fun m q => min m q.2.toNat) 63 ∧
        (t.p.link e).msg = some (phaseMsg (if s.p.timeSync e = true then 7 else 8), s.p.now) ∧
        t.p.link e = { s.p.link e with out := (t.p.link e).out, msg := (t.p.link e).msg } ∧
        Only { regs := fun a => a = linkBase e + R.linkSts, links := fun n => n = linkKey e } s t) ∧
    (∀ m turn, 1 ≤ s.p.linkState e → s.p.linkState e ≤ 9 → ∃ t r, exec (.ping e m turn) s = .next t ∧
      t.p.link e = { s.p.link e with out := (s.p.link e).out ++ [r] } ∧ msgByte r 0 = 6 ∧ bits r 63 32 = turn.toNat ∧
      bits r 127 64 = bits m 127 64 ∧ Only { links := fun n => n = linkKey e } s t) ∧
    (∀ m (rt : BitVec 32), s.p.linkState e = 7 ∨ s.p.linkState e = 9 → s.p.timeSync e = true →
      ∃ t, exec (.pong e m rt) s = .next t ∧ (t.p.link e).pongs = (s.p.link e).pongs + 1 ∧
        (t.p.link e).delays = (s.p.link e).delays + (rt.toNat - bits m 63 32) ∧
        (15 ≤ (s.p.link e).pongs → (t.p.link e).delays % 32 = 0 → (t.p.link e).delays / 32 < 65536 →
          t.p.nget e R.linkDelay_delay = (t.p.link e).delays / 32 ∧ t.p.nget e R.linkDelay_valid = 1) ∧
        Only { regs := fun a => a = linkBase e + R.linkDelay, links := fun n => n = linkKey e, free := True } s t)

/-- The pause, credit and acknowledgement fields of a frame's side data have been taken (R247 to R249). -/
def FieldsTaken (e : LinkEnd) (sd : BitVec 168) (s t : State) : Prop :=
  (t.p.link e).paused = bit sd 129 ∧
    (∀ c, sget (fun _ => (0 : Int)) (t.p.link e).cred c = sget (fun _ => (0 : Int)) (s.p.link e).cred c +
      (if c = bits sd 132 130 then
        (((bits sd 140 133 : Nat) : Int) + 256 - ((sget (fun _ => 0) (s.p.link e).ccnt c : Nat) : Int)) % 256 else 0)) ∧
    (t.p.link e).replay = (if bits sd 128 127 = 1 then ((s.p.link e).acked s.p.now (bits sd 126 117)).replay
      else if bits sd 128 127 = 2 then ((s.p.link e).acked s.p.now ((bits sd 126 117 + 1023) % 1024)).replay
      else (s.p.link e).replay)

/-- A frame has entered the elastic FIFO, and pause is sent from 24 frames on until there are 16 or fewer (R248). -/
def FifoTaken (e : LinkEnd) (s t : State) : Prop :=
  1 ≤ (t.p.link e).fifo ∧ (t.p.link e).fifo ≤ (s.p.link e).fifo + 1 ∧
    (24 ≤ (t.p.link e).fifo → (t.p.link e).pausing = true) ∧ ((t.p.link e).fifo ≤ 16 → (t.p.link e).pausing = false) ∧
    (16 < (t.p.link e).fifo → (t.p.link e).fifo < 24 → (t.p.link e).pausing = (s.p.link e).pausing)

/-- The end a frame is for: with sub = 1, that of sub-link k xor 1 (R261). -/
def frameEnd (e : LinkEnd) (sd : BitVec 168) : LinkEnd := if bit sd 106 then linkTwin e else e

/-- R243 to R249. -/
def Obligations.LinkFrames : Prop :=
  ∀ (e : LinkEnd) (d : BitVec 512) (sd : BitVec 168) (tt : BitVec 32) (s : State),
    (1 ≤ s.p.linkState e → s.p.linkState e ≤ 9 →
      (frameOk d sd = false → ∀ c ∈ [Instr.dataFrame e d sd, .idleFrame e d sd, .ctrlFrame e d sd tt],
        ∃ t, exec c s = .next t ∧ (t.p.link e).discard = true ∧ (t.p.link e).nakDue = true ∧
          Counts (linkCtr e 0x80) 1 s t ∧ Only (May.linkEnd e) s t) ∧
      (frameOk d sd = true →
        (bits sd 105 104 = 1 → s.p.linkServes (frameEnd e sd) = true → (s.p.link e).fifo < 64 →
          (s.p.link (frameEnd e sd)).expect = bits sd 116 107 →
          ∃ t f, exec (.dataFrame e d sd) s = .next t ∧ FifoTaken e s t ∧ FieldsTaken (frameEnd e sd) sd s t ∧
            (t.p.link (frameEnd e sd)).expect = (bits sd 116 107 + 1) % 1024 ∧
            (t.p.link (frameEnd e sd)).discard = false ∧
            (f = if s.p.nget (frameEnd e sd) R.linkSts_feat % 2 = 1 then (frameFlit d sd).1
              else { (frameFlit d sd).1 with words := (frameFlit d sd).1.words.map (fun w => ssc76Enc (ssc76Data w)) }) ∧
            (bit sd 99 = false → t.p.flights = s.p.flights) ∧
            (∀ fs, ((s.p.link (frameEnd e sd)).assemble f (bits sd 98 96)).2 = some fs →
              t.p.flights = s.p.flights ++
                [⟨s.p.nextFlight, fs, linkRouter (frameEnd e sd), linkInput (frameEnd e sd), .transit, s.p.now, 0, 0⟩]) ∧
            Only { links := fun n => n = linkKey e ∨ n = linkKey (frameEnd e sd)
                   ctrs := fun a => a = linkCtr (frameEnd e sd) 0x88, flights := True, free := True } s t) ∧
        (bits sd 105 104 = 0 → s.p.linkServes (frameEnd e sd) = true → (s.p.link e).fifo < 64 →
          ∃ t, exec (.idleFrame e d sd) s = .next t ∧ FifoTaken e s t ∧
            FieldsTaken (frameEnd e sd) sd s t ∧ (t.p.link (frameEnd e sd)).expect = (s.p.link (frameEnd e sd)).expect ∧
            Only { links := fun n => n = linkKey e ∨ n = linkKey (frameEnd e sd)
                   ctrs := fun a => a = linkCtr (frameEnd e sd) 0x88, free := True } s t) ∧
        (bits sd 105 104 = 2 → s.p.linkServes (frameEnd e sd) = false →
          (msgByte d 0 = 1 → exec (.ctrlFrame e d sd tt) s = exec (.cap (frameEnd e sd) d) s) ∧
          (msgByte d 0 = 2 → exec (.ctrlFrame e d sd tt) s = exec (.capAck (frameEnd e sd) d) s) ∧
          (msgByte d 0 = 3 → exec (.ctrlFrame e d sd tt) s = exec (.phase (frameEnd e sd) (d.extractLsb' 8 8)) s) ∧
          (msgByte d 0 = 4 → exec (.ctrlFrame e d sd tt) s = exec (.eq (frameEnd e sd) d) s) ∧
          (msgByte d 0 = 5 → exec (.ctrlFrame e d sd tt) s = exec (.ping (frameEnd e sd) d tt) s) ∧
          (msgByte d 0 = 6 → exec (.ctrlFrame e d sd tt) s = exec (.pong (frameEnd e sd) d tt) s) ∧
          (msgByte d 0 = 9 → exec (.ctrlFrame e d sd tt) s = exec (.down (frameEnd e sd) (d.extractLsb' 8 8)) s) ∧
          (msgByte d 0 = 10 → exec (.ctrlFrame e d sd tt) s = exec (.spare (frameEnd e sd) d) s) ∧
          (msgByte d 0 = 0 ∨ 10 < msgByte d 0 → exec (.ctrlFrame e d sd tt) s = .next s)))) ∧
    (∀ seq : BitVec 10, s.p.linkServes e = true → ∃ t, exec (.nak e seq) s = .next t ∧
      (t.p.link e).replay = ((s.p.link e).acked s.p.now ((seq.toNat + 1023) % 1024)).replay ∧
      (∀ again, again = ((s.p.link e).acked s.p.now ((seq.toNat + 1023) % 1024)).again seq.toNat → again ≠ [] →
        (t.p.link e).nakAt = some seq.toNat ∧ Counts (linkCtr e 0x88) again.length s t) ∧
      Only { links := fun n => n = linkKey e, ctrs := fun a => a = linkCtr e 0x88 } s t) ∧
    (s.p.linkServes e = true → (s.p.link e).replay ≠ [] → (s.p.link e).ackAt + 2 ≤ s.p.now →
      ∃ t, exec (.replayTimeout e) s = .next t ∧ (t.p.link e).replay = (s.p.link e).replay ∧
        (t.p.link e).ackAt = s.p.now ∧ Counts (linkCtr e 0x88) (s.p.link e).replay.length s t ∧
        Only { links := fun n => n = linkKey e, ctrs := fun a => a = linkCtr e 0x88 } s t)

/-- R251 and R259 to R263. -/
def Obligations.LinkRetraining : Prop :=
  ∀ (e : LinkEnd) (s : State),
    (∀ m at_, (s.p.link e).msg = some (m, at_) → at_ + 1 ≤ s.p.now → ∃ t, exec (.linkMessageRepeat e) s = .next t ∧
      t.p.link e = { s.p.link e with out := (s.p.link e).out ++ [m], msg := some (m, s.p.now) } ∧
      Only { links := fun n => n = linkKey e } s t) ∧
    (∀ m : BitVec 6, s.p.linkState e = 8 →
      (m.toNat < bits (s.p.marginTh e) 5 0 → (s.p.link e).low = false → ∃ t, exec (.marginLow e m) s = .next t ∧
        t.p.nget e R.linkSts_margin = m.toNat ∧ t.p.nget e R.linkSts_margin_low = 1 ∧ (t.p.link e).low = true ∧
        Counts (linkCtr e 0x98) 1 s t ∧ Only (May.linkEnd e) s t) ∧
      (bits (s.p.marginTh e) 5 0 + 2 ≤ m.toNat → ∃ t, exec (.marginLow e m) s = .next t ∧
        t.p.nget e R.linkSts_margin = m.toNat ∧ t.p.link e = { s.p.link e with low := false } ∧
        Only { regs := fun a => a = linkBase e + R.linkSts, links := fun n => n = linkKey e } s t)) ∧
    (∀ (tl : Fin 144) (j : Fin 32) (v : BitVec 32), e = .tile tl j →
      (v.getLsbD 0 = false → ∃ t, exec (.linkCtlRetrain e v) s = .next t ∧ t.p.nget e R.linkCtl_auto = bits v 1 1 ∧
        Only { regs := fun a => a = linkBase e + R.linkCtl } s t) ∧
      (v.getLsbD 0 = true → s.p.linkState e = 8 → (s.p.link e).retrain = 0 → ∃ t, exec (.linkCtlRetrain e v) s = .next t ∧
        t.p.nget e R.linkCtl_auto = bits v 1 1 ∧
        t.p.link e = { s.p.link e with
          retrain := 1, out := (s.p.link e).out ++ [linkMsg [7]], msg := some (linkMsg [7], s.p.now) } ∧
        Only { regs := fun a => a = linkBase e + R.linkCtl, links := fun n => n = linkKey e } s t) ∧
      (∀ f, v.getLsbD 0 = true → s.p.linkState e = 10 → linkPartner e = some f → s.p.linkRuns e = true →
        s.p.linkRuns f = true → ∃ t, exec (.linkCtlRetrain e v) s = .next t ∧ t.p.linkState e = 1 ∧
          Only { regs := linkRegs e, links := fun n => n = linkKey e } s t)) ∧
    (s.p.linkState e = 8 →
      (s.p.linkState (linkTwin e) = 8 → (∀ f ∈ linkSiblings e, s.p.linkState f ≠ 9) →
        ((s.p.link e).retrain = 1 → partnerIdent e ≤ linkIdent e) →
        ∃ t, exec (.retrainReq e) s = .next t ∧ t.p.linkState e = 9 ∧ (t.p.link e).retrain = 2 ∧
          (t.p.link e).out = (s.p.link e).out ++ [linkMsg [8, 0]] ∧ t.p.nget e R.linkDelay_valid = 0 ∧
          Only { regs := linkRegs e, links := fun n => n = linkKey e } s t) ∧
      (s.p.linkState (linkTwin e) ≠ 8 ∨ (∃ f ∈ linkSiblings e, s.p.linkState f = 9) ∨
          ((s.p.link e).retrain = 1 ∧ linkIdent e < partnerIdent e) →
        ∃ t, exec (.retrainReq e) s = .next t ∧
          t.p.link e = { s.p.link e with out := (s.p.link e).out ++ [linkMsg [8, 1]] } ∧
          Only { links := fun n => n = linkKey e } s t)) ∧
    (s.p.linkState e = 8 → (s.p.link e).retrain = 1 →
      (∃ t, exec (.retrainAck e true) s = .next t ∧ t.p.nget e R.linkSts_retrain_rej = 1 ∧
        t.p.link e = { s.p.link e with retrain := 0, msg := none } ∧
        Only { regs := fun a => a = linkBase e + R.linkSts, links := fun n => n = linkKey e } s t) ∧
      (∃ t, exec (.retrainAck e false) s = .next t ∧ t.p.linkState e = 9 ∧ t.p.nget e R.linkDelay_valid = 0 ∧
        (t.p.link e).retrain = 2 ∧ (t.p.link e).msg = none ∧
        Only { regs := linkRegs e, links := fun n => n = linkKey e } s t)) ∧
    (∀ (bad : List (Fin 170)) (pass : Bool), s.p.linkState e = 9 →
      (∀ m, pass = true → addSpares (s.p.link e).rxMap ((bad.map (·.val)).eraseDups.filter
          (fun q => (s.p.link e).rxMap.all (fun r => r.1 != q))) = some m →
        ∃ t, exec (.retrainDone e bad pass) s = .next t ∧ t.p.linkState e = 8 ∧ (t.p.link e).rxMap = m ∧
          (t.p.link e).retrain = 0 ∧ (t.p.link e).replay = (s.p.link e).replay ∧
          Only { regs := linkRegs e, links := fun n => n = linkKey e } s t) ∧
      (pass = false → ∃ t, exec (.retrainDone e bad pass) s = .next t ∧ WentDown e 8 s t))

/-- What the clocks and voltages of a tile's regions reach: their registers, the rails, and the CLOCK_SET that a transition completes. -/
def May.clocks (t : Nat) : May :=
  { regs := fun a => (∃ r, r < 4 ∧ regionB t r ≤ a ∧ a < regionB t r + 0x20) ∨ hostRegs a
    regions := fun n => n / 4 = t, tiles := fun n => n = t, host := True }

/-- R270, R271, R273, R274 and R276. -/
def Obligations.RegionFrequency : Prop :=
  ∀ (x : Rid) (s : State),
    (∀ slack : Fin 33, s.p.rget x.t x.r R.regionState_state = 0 → s.p.rget x.t x.r R.dcoSts_wake = 0 →
      ∃ t, exec (.adaptWindow x slack) s = .next t ∧
        (slack.val < 2 → t.p.rget x.t x.r R.dcoSts_adapt = max 32 (s.p.rget x.t x.r R.dcoSts_adapt - 1)) ∧
        (2 ≤ slack.val → slack.val < 4 ∨ (s.p.region x.t x.r).calm < 99 →
          t.p.rget x.t x.r R.dcoSts_adapt = s.p.rget x.t x.r R.dcoSts_adapt) ∧
        (4 ≤ slack.val → 99 ≤ (s.p.region x.t x.r).calm → (t.p.region x.t x.r).calm = 0 ∧
          t.p.rget x.t x.r R.dcoSts_adapt = (if s.p.rget x.t x.r R.dcoSts_adapt < s.p.rget x.t x.r R.dcoCtl_target then
            s.p.rget x.t x.r R.dcoSts_adapt + 1 else s.p.rget x.t x.r R.dcoSts_adapt)) ∧
        t.p.region x.t x.r = { s.p.region x.t x.r with calm := (t.p.region x.t x.r).calm } ∧
        Only { regs := fun a => a = regionB x.t x.r + R.dcoSts, regions := fun n => n = x.key } s t) ∧
    (s.p.dcoOn x.t x.r = true →
      (∀ n : BitVec 32, n ≠ 0 → ∃ t, exec (.droopTrip x n) s = .next t ∧
        (t.p.region x.t x.r).droop = min 8 ((s.p.region x.t x.r).droop + n.toNat) ∧
        t.p.rget x.t x.r R.dcoSts_stretch = max (t.p.region x.t x.r).droop (s.p.rget x.t x.r R.regionPwr_forced) ∧
        Counts (regionB x.t x.r + 0x108) n.toNat s t ∧
        (s.p.rget x.t x.r R.dcoSts_stretch = 0 → Counts (regionB x.t x.r + 0x100) 1 s t) ∧
        Only { regs := fun a => a = regionB x.t x.r + R.dcoSts, regions := fun n => n = x.key
               ctrs := fun a => a = regionB x.t x.r + 0x100 ∨ a = regionB x.t x.r + 0x108 } s t) ∧
      (∀ n : BitVec 32, (s.p.region x.t x.r).droop ≤ 8 → ∃ t, exec (.droopClear x n) s = .next t ∧
        (t.p.region x.t x.r).droop = (s.p.region x.t x.r).droop - n.toNat / 4 ∧
        t.p.rget x.t x.r R.dcoSts_stretch = max (t.p.region x.t x.r).droop (s.p.rget x.t x.r R.regionPwr_forced) ∧
        (s.p.rget x.t x.r R.regionPwr_forced = 0 →
          Counts (regionB x.t x.r + 0x108) (min n.toNat (4 * (s.p.region x.t x.r).droop)) s t) ∧
        Only { regs := fun a => a = regionB x.t x.r + R.dcoSts, regions := fun n => n = x.key
               ctrs := fun a => a = regionB x.t x.r + 0x108 } s t) ∧
      (s.p.rget x.t x.r R.dcoSts_wake = 0 → (∀ m, (s.p.region x.t x.r).vf = some m → m.step ≠ 4) →
        ∃ t, exec (.glideEnd x) s = .next t ∧ t.p.rget x.t x.r R.dcoSts_fc = s.p.fcCode x.t x.r ∧
          t.p.rget x.t x.r R.dcoSts_locked = 1 ∧ Only { regs := fun a => a = regionB x.t x.r + R.dcoSts } s t)) ∧
    (∀ m, (s.p.region x.t x.r).vf = some m → m.step = 3 → CmdsInRange s → ∃ t, exec (.dcoLock x) s = .next t ∧
      t.p.rget x.t x.r R.dcoSts_wake = 0 ∧ t.p.rget x.t x.r R.dcoSts_fc = 64 ∧
      t.p.rget x.t x.r R.dcoSts_adapt = t.p.rget x.t x.r R.dcoCtl_target ∧ Only (May.clocks x.t) s t)

/-- R282 to R285. -/
def Obligations.PanelTimeTree : Prop :=
  ∀ (s : State),
    (∀ c, s.p.ptc s.p.keeperNode = some c → ∃ t, exec .timeTick s = .next t ∧
      t.p.keep = { s.p.keep with timeSeq := (s.p.keep.timeSeq + 1) % 65536 } ∧
      (∀ k, s.p.timeSub s.p.keeperNode 0 = some k → ∃ flags, t.p.msgs = s.p.msgs ++
        [⟨0x20, s.p.keeperNode, dieTile (s.p.keeperNode - 144),
          [0, flags, (s.p.rd (s.p.ptcRateAt s.p.keeperNode)).toNat, (s.p.keep.timeSeq + 1) % 65536, k]⟩]) ∧
      Only { keep := True, msgs := True } s t) ∧
    (∀ (n : Node) (ttx trx : BitVec 68) (m : Msg), s.p.msgs.find? (fun m => m.kind == 0x20 && m.dst == nodeNum n) = some m →
      (s.p.timeOk (nodeNum n) m = false → ∃ t, exec (.time n ttx trx) s = .next t ∧ t.p.msgs = s.p.msgs.erase m ∧
        Only { msgs := True } s t) ∧
      (∀ c e, s.p.timeOk (nodeNum n) m = true → s.p.ptc (nodeNum n) = some c → nodeNum n ≠ s.p.keeperNode →
        e = timeOffset ttx trx (s.p.nget (timeEnd (nodeNum n)
          (if nodeNum n < 144 then s.p.tget (nodeNum n) R.timeTree_parent else 0) (m.at 4)) R.linkDelay_delay) →
        ∃ t, exec (.time n ttx trx) s = .next t ∧
          (s.p.ptcBit (nodeNum n) 31 = true → e.natAbs ≤ 1024 →
            t.p.ptc (nodeNum n) = some { c with slew := e, last := s.p.now }) ∧
          (s.p.ptcBit (nodeNum n) 31 = false ∨ 1024 < e.natAbs →
            t.p.ptc (nodeNum n) = some { c.step e with last := s.p.now } ∧
            (s.p.ptcBit (nodeNum n) 29 = false → t.p.ptcBit (nodeNum n) 31 = true)) ∧
          bits (t.p.rd (s.p.ptcStsAt (nodeNum n))) 23 16 = min 255 (m.at 0 + 1) ∧
          t.p.ptcBit (nodeNum n) 30 = false ∧ t.p.rd (s.p.ptcRateAt (nodeNum n)) = w32 (m.at 2) ∧
          Only { regs := fun a => a = s.p.ptcStsAt (nodeNum n) ∨ a = s.p.ptcRateAt (nodeNum n) ∨
                   a = tileB (nodeNum n) + R.timeTree
                 ctrs := fun a => a = tileB (nodeNum n) + 0x820, ptcs := fun k => k = nodeNum n, msgs := True } s t)) ∧
    (∀ (n : Node) c, s.p.ptc (nodeNum n) = some c → nodeNum n ≠ s.p.keeperNode → c.last + 3000 ≤ s.p.now →
      ∃ t, exec (.timeHoldover n) s = .next t ∧ t.p.ptcBit (nodeNum n) 30 = true ∧
        Only { regs := fun a => a = s.p.ptcStsAt (nodeNum n) } s t) ∧
    (∀ c, s.p.ptc s.p.keeperNode = some c → ∃ t, exec .timeTreeReform s = .next t ∧
      (∀ n : Fin 144, (s.p.tile n).rails = true → t.p.tget n R.timeTree_parent =
        ((s.p.timeTree.find? (fun e => e.1 == n.val)).map (·.2)).getD 7) ∧
      Only { regs := fun a => ∃ n : Fin 144, (s.p.tile n).rails = true ∧ a = tileB n + R.timeTree } s t)

/-- R269 and R280. -/
def clockNodes : Prop :=
  ∀ (s : State),
    (∀ n : Fin 144, (s.p.tile n).rails = true → (s.p.tile n).pll = false → ∃ t, exec (.pllLock (.tile n)) s = .next t ∧
      t.p.tile n = { s.p.tile n with pll := true } ∧ (t.p.ptc n).isSome = true ∧
      (∀ c, s.p.ptc n = some c → t.p.ptc n = some c) ∧
      Only { tiles := fun k => k = n, ptcs := fun k => k = n, regs := fun a => a = tileB n + R.tileSts } s t) ∧
    (∀ d : Fin 22, (s.p.die d).rails = true → (s.p.die d).pll = false → ∃ t, exec (.pllLock (.die d)) s = .next t ∧
      t.p.die d = { s.p.die d with pll := true } ∧
      Only { dies := fun k => k = d, ptcs := fun k => k = 144 + d } s t) ∧
    (∀ n : Node, s.p.nodePll (nodeNum n) = true →
      (∃ t, exec (.refLost n) s = .next t ∧ t.p.ptcBit (nodeNum n) 29 = true ∧ t.p.ptcBit (nodeNum n) 31 = false ∧
        Only { regs := fun a => a = s.p.ptcStsAt (nodeNum n) } s t) ∧
      (∃ t, exec (.refReturn n) s = .next t ∧ t.p.ptcBit (nodeNum n) 29 = false ∧
        t.p.ptcBit (nodeNum n) 31 = s.p.ptcBit (nodeNum n) 31 ∧
        Only { regs := fun a => a = s.p.ptcStsAt (nodeNum n) } s t))

/-- R288. -/
def ppsDiscipline : Prop :=
  ∀ (s : State),
    (∀ (frac : Fin 1000) c, s.p.ptc s.p.keeperNode = some c → ∃ t, exec (.ppsEdge frac) s = .next t ∧
      (t.p.rd (keeperB + R.ptcPpsCap)).toNat + 2 ^ 32 * (t.p.rd (keeperB + R.ptcPpsCap + 4)).toNat = (c.ns + frac.val) % 2 ^ 64 ∧
      t.p.ptcBit s.p.keeperNode 28 = false ∧ t.p.keep = { s.p.keep with ppsAt := s.p.now } ∧
      (s.p.timeSrc ≠ 2 → t.p.ptc s.p.keeperNode = some c) ∧
      (∀ e : Int, s.p.timeSrc = 2 →
        e = (if 500000000 < (c.ns + frac.val) % 2 ^ 64 % 1000000000 then
          ((c.ns + frac.val) % 2 ^ 64 % 1000000000 : Nat) - 1000000000 else ((c.ns + frac.val) % 2 ^ 64 % 1000000000 : Nat)) →
        (1000000 < e.natAbs → t.p.ptc s.p.keeperNode = some (c.step (-16 * e))) ∧
        (e.natAbs ≤ 1000000 → t.p.ptc s.p.keeperNode = some c ∧
          (t.p.rd (keeperB + R.kPtcRate)).toInt.natAbs ≤ 200000)) ∧
      Only { regs := fun a => a = keeperB + R.ptcPpsCap ∨ a = keeperB + R.ptcPpsCap + 4 ∨ a = s.p.ptcStsAt s.p.keeperNode ∨
               a = keeperB + R.kPtcRate
             ctrs := fun a => a = keeperB + 0x810, ptcs := fun k => k = s.p.keeperNode, keep := True, free := True } s t) ∧
    (s.p.keep.ring = true → s.p.keep.ppsAt + 3000000 ≤ s.p.now → ∃ t, exec .ppsLost s = .next t ∧
      t.p.ptcBit s.p.keeperNode 28 = true ∧ Only { regs := fun a => a = s.p.ptcStsAt s.p.keeperNode } s t)

/-- PLL_LOCK, REF_LOST, REF_RETURN, PPS_EDGE and PPS_LOST. -/
def Obligations.ClocksAndPps : Prop := clockNodes ∧ ppsDiscipline

/-- How a feed's state follows a sample (R294, Table 11.1). -/
def FeedMoves (s : State) (old : Nat) (fine : Option Nat) (mv : Int) (next : Nat) : Prop :=
  (s.p.keep.sampled = false ∨ old ≠ 3 → next = feedClass mv) ∧
    (s.p.keep.sampled = true → old = 3 → (∀ t0, fine = some t0 → s.p.now < t0 + 100000) → next = 3) ∧
    (∀ t0, s.p.keep.sampled = true → old = 3 → fine = some t0 → t0 + 100000 ≤ s.p.now → feedClass mv ≤ 1 → next = feedClass mv)

/-- The panel is OFF: nothing is held but the fuses and what is the host's (R296, R368). -/
def PanelOff (s t : State) : Prop :=
  (∀ a, t.p.rd a = regReset a) ∧ (∀ a, t.p.ctr a = Ctr.zero) ∧ (∀ y, t.p.core y = Core.zero ∧ t.p.chan y = Chan.zero) ∧
    (∀ n, t.p.tile n = TileSt.zero) ∧ t.p.keep = KeepSt.zero ∧ t.p.flights = [] ∧ t.p.msgs = [] ∧ t.p.host.cmds = [] ∧
    t.p.host.mem = s.p.host.mem ∧ t.p.now = s.p.now ∧ t.fuses = s.fuses ∧ t.pending = s.pending

/-- A tile's rails are gone, with all that its die and stack held; other tiles' cores and channels are as they were. -/
def TileDead (n : Fin 144) (s t : State) : Prop :=
  (t.p.tile n).rails = false ∧ (∀ y : Cid, y.t = n → t.p.core y = Core.zero ∧ t.p.chan y = Chan.zero) ∧
    (∀ y : Cid, y.t ≠ n → t.p.core y = s.p.core y ∧ t.p.chan y = s.p.chan y) ∧ t.fuses = s.fuses ∧
    (CmdsInRange s → t.p.tget n R.tileMemb_expelled = 1)

/-- R294 to R297, R300, R333 and R514. -/
def Obligations.FeedsAndConverters : Prop :=
  ∀ (s : State),
    (∀ (va vb : BitVec 32) (ia ib : BitVec 16),
      (va.toInt < -60000 ∨ 80000 < va.toInt ∨ vb.toInt < -60000 ∨ 80000 < vb.toInt →
        exec (.feedSample va vb ia ib) s = .fault .beyondAbsoluteMax) ∧
      (-60000 ≤ va.toInt → va.toInt ≤ 80000 → -60000 ≤ vb.toInt → vb.toInt ≤ 80000 → s.p.keep.ring = true →
        ∃ t, exec (.feedSample va vb ia ib) s = .next t ∧
          t.p.kget R.feedSts_va = feedShow va.toInt ∧ t.p.kget R.feedSts_vb = feedShow vb.toInt ∧
          FeedMoves s (s.p.kget R.feedSts_sa) s.p.keep.fineA va.toInt (t.p.kget R.feedSts_sa) ∧
          FeedMoves s (s.p.kget R.feedSts_sb) s.p.keep.fineB vb.toInt (t.p.kget R.feedSts_sb) ∧
          t.p.rd (keeperB + R.feedCur) = ia ++ ib ∧
          (s.p.keep.sampled = true → s.p.kget R.feedSts_sa ≠ 3 → t.p.kget R.feedSts_sa = 3 →
            t.p.kget R.feedSts_lost_a = 1 ∧ (t.p.sticky 144).testBit 15 = true) ∧
          (s.p.keep.sampled = true → s.p.kget R.feedSts_sb ≠ 3 → t.p.kget R.feedSts_sb = 3 →
            t.p.kget R.feedSts_lost_b = 1 ∧ (t.p.sticky 144).testBit 15 = true) ∧
          (t.p.keep.dark = true ↔ t.p.kget R.feedSts_sa = 3 ∧ t.p.kget R.feedSts_sb = 3) ∧
          (s.p.keep.dark = false → t.p.keep.dark = true →
            ∀ n, n < 144 → (s.p.tile n).rails = true → (t.p.tile n).kcap = 32) ∧
          Only { May.panelEvent with
            regs := fun a => May.panelEvent.regs a ∨ ∃ n r, n < 144 ∧ r < 4 ∧ a = regionB n r + R.dcoSts
            tiles := fun n => n < 144 } s t)) ∧
    (s.p.keep.dark = true → ∃ t, exec .powerCollapse s = .next t ∧ PanelOff s t) ∧
    (∀ seg : Fin 17, s.p.keep.ring = true →
      (seg.val < 16 → sget (fun _ => 0) s.p.keep.ibc seg.val < 2 → ∃ t, exec (.ibcFailure seg) s = .next t ∧
        sget (fun _ => 0) t.p.keep.ibc seg.val = sget (fun _ => 0) s.p.keep.ibc seg.val + 1 ∧
        (t.p.rd (keeperB + R.ubSts)).getLsbD (16 + seg.val) = true ∧ Counts (keeperB + 0x800) 1 s t ∧
        (t.p.sticky 144).testBit 15 = true ∧ Only May.panelEvent s t) ∧
      (seg.val < 16 → sget (fun _ => 0) s.p.keep.ibc seg.val = 2 → ∃ t, exec (.ibcFailure seg) s = .next t ∧
        (∀ n ∈ standTiles seg.val, (t.p.tile n).rails = false) ∧ t.fuses = s.fuses) ∧
      (seg.val = 16 → sget (fun _ => 0) s.p.keep.ibc 16 < 2 → ∃ t, exec (.ibcFailure seg) s = .next t ∧
        t.p.kget R.ubSts_ring = sget (fun _ => 0) s.p.keep.ibc 16 + 1 ∧ Only May.panelEvent s t) ∧
      (seg.val = 16 → sget (fun _ => 0) s.p.keep.ibc 16 = 2 →
        ∃ t, exec (.ibcFailure seg) s = .next t ∧ PanelOff s t)) ∧
    (∀ n : Fin 144,
      ((s.p.tile n).rails = true ∨ s.p.keep.queue.head? = some n.val → ∃ t, exec (.polFault n) s = .next t ∧
        TileDead n s t ∧ (CmdsInRange s → t.p.kget R.ubSts_pol = 1 ∧ t.p.kget R.ubSts_pol_tile = n.val)) ∧
      (∀ r : Fin 4, (s.p.tile n).rails = true → ∃ t, exec (.analogTrip ⟨n, r⟩) s = .next t ∧ TileDead n s t))

/-- R302 to R305 and R307. -/
def Obligations.CellsAndVoltage : Prop :=
  ∀ (x : Rid) (s : State),
    ((s.p.tile x.t).vcoreOn = true → s.p.rget x.t x.r R.regionPwr_cells < 64 →
      (s.p.rget x.t x.r R.regionPwr_cells ≠ 16 → ∃ t, exec (.regCellFail x) s = .next t ∧
        t.p.rget x.t x.r R.regionPwr_cells = s.p.rget x.t x.r R.regionPwr_cells + 1 ∧
        Counts (regionB x.t x.r + 0x110) 1 s t ∧ (t.p.sticky x.t).testBit 14 = true ∧ Only (May.event x.t) s t) ∧
      (s.p.rget x.t x.r R.regionPwr_cells = 16 → s.p.rget x.t x.r R.regionState_state ≠ 3 → CmdsInRange s →
        ∃ t, exec (.regCellFail x) s = .next t ∧ (t.p.region x.t x.r).commit = some 3 ∧
          (∀ c : Fin 64, regionOf c = x.r → t.p.fenced ⟨x.t, c⟩ = true) ∧ t.fuses = s.fuses)) ∧
    (∀ m, (s.p.region x.t x.r).vf = some m → m.step ≤ 2 → CmdsInRange s →
      ∃ t, exec (.vfStep x) s = .next t ∧ Only (May.clocks x.t) s t ∧
        ((s.p.region x.t x.r).vr < s.p.needV x.t x.r m.code →
          t.p.rget x.t x.r R.dcoCtl_target = s.p.rget x.t x.r R.dcoCtl_target ∧
          ((s.p.tile x.t).vsram < vsramFor (s.p.topV x.t x.r (s.p.needV x.t x.r m.code)) →
            (t.p.tile x.t).vsram = vsramFor (s.p.topV x.t x.r (s.p.needV x.t x.r m.code)) ∧
            (t.p.tile x.t).vcore = (s.p.tile x.t).vcore ∧ (t.p.region x.t x.r).vr = (s.p.region x.t x.r).vr) ∧
          (vsramFor (s.p.topV x.t x.r (s.p.needV x.t x.r m.code)) ≤ (s.p.tile x.t).vsram →
            (s.p.tile x.t).vcore < s.p.needV x.t x.r m.code + 20 →
            (t.p.tile x.t).vcore = vcoreFor (s.p.topV x.t x.r (s.p.needV x.t x.r m.code)) ∧
            (t.p.region x.t x.r).vr = (s.p.region x.t x.r).vr) ∧
          (vsramFor (s.p.topV x.t x.r (s.p.needV x.t x.r m.code)) ≤ (s.p.tile x.t).vsram →
            s.p.needV x.t x.r m.code + 20 ≤ (s.p.tile x.t).vcore →
            (t.p.region x.t x.r).vr = s.p.needV x.t x.r m.code)) ∧
        (s.p.needV x.t x.r m.code ≤ (s.p.region x.t x.r).vr → m.code < 256 →
          t.p.rget x.t x.r R.dcoCtl_target = m.code)) ∧
    (∀ v : BitVec 32, CmdsInRange s →
      (v.getLsbD 31 = true →
        bits v 9 0 < s.p.vf x.t (if s.p.rget x.t x.r R.dcoSts_wake = 1 then 68 else s.p.rget x.t x.r R.dcoCtl_target) ∨
          bits v 9 0 < 550 ∨ 880 < bits v 9 0 →
        ∃ t, exec (.vcoreSetWrite x v) s = .next t ∧ t.p.rget x.t x.r R.vcoreSet_rej = 1 ∧
          t.p.rget x.t x.r R.vcoreSet_pin = s.p.rget x.t x.r R.vcoreSet_pin ∧
          t.p.rget x.t x.r R.vcoreSet_mv = s.p.rget x.t x.r R.vcoreSet_mv ∧
          Only { regs := fun a => a = regionB x.t x.r + R.vcoreSet } s t) ∧
      (v.getLsbD 31 = true →
        s.p.vf x.t (if s.p.rget x.t x.r R.dcoSts_wake = 1 then 68 else s.p.rget x.t x.r R.dcoCtl_target) ≤ bits v 9 0 →
        550 ≤ bits v 9 0 → bits v 9 0 ≤ 880 →
        ∃ t, exec (.vcoreSetWrite x v) s = .next t ∧ t.p.rget x.t x.r R.vcoreSet_pin = 1 ∧
          t.p.rget x.t x.r R.vcoreSet_mv = bits v 9 0 ∧ Only (May.clocks x.t) s t) ∧
      (v.getLsbD 31 = false → ∃ t, exec (.vcoreSetWrite x v) s = .next t ∧ t.p.rget x.t x.r R.vcoreSet_pin = 0 ∧
        Only (May.clocks x.t) s t))

/-- What the closing of header switches of a tile's regions reaches. -/
def May.headers (t : Nat) : May :=
  { regs := fun a => ∃ r, r < 4 ∧ regionB t r ≤ a ∧ a < regionB t r + 0x20, tiles := fun n => n = t
    regions := fun n => n / 4 = t, ctrs := fun a => a = tileB t + 0x810 ∨ a = tileB t + 0x818 }

/-- The neighbours of a region that are in their peak windows at two estimates (R309). -/
def peaks (s : State) (x : Rid) (a b : BitVec 8) : List Nat :=
  (((neighbours x.r).zip [a.toNat, b.toNat]).filter (fun n => s.p.inPeak x.t n.1 n.2)).map (·.1)

/-- R308 to R311. -/
def Obligations.HeaderSwitches : Prop :=
  ∀ (s : State),
    (∀ (x : Rid) (a b : BitVec 8) (u : PowerUp), (s.p.region x.t x.r).up = some u → s.p.powering x.t x.r = true →
      (u.forced = true ∨ peaks s x a b = [] → ∃ t, exec (.headerStage x a b) s = .next t ∧
        t.p.rget x.t x.r R.regionPwr_stage = s.p.rget x.t x.r R.regionPwr_stage + 1 ∧
        t.p.rget x.t x.r R.regionPwr_held = 0 ∧
        (s.p.rget x.t x.r R.regionPwr_stage = 7 →
          t.p.rget x.t x.r R.dcoSts_wake = 1 ∧ t.p.rget x.t x.r R.dcoSts_fc = 64) ∧
        Only (May.headers x.t) s t) ∧
      (u.forced = false → peaks s x a b ≠ [] → u.holds < 200 → ∃ t, exec (.headerStage x a b) s = .next t ∧
        t.p.rget x.t x.r R.regionPwr_held = 1 ∧ t.p.rget x.t x.r R.regionPwr_stage = s.p.rget x.t x.r R.regionPwr_stage ∧
        t.p.region x.t x.r = { s.p.region x.t x.r with up := some { u with holds := u.holds + 1 } } ∧
        Counts (tileB x.t + 0x810) 1 s t ∧ Only (May.headers x.t) s t) ∧
      (u.forced = false → 200 ≤ u.holds → ∃ t, exec (.admitForce x a b) s = .next t ∧
        (t.p.region x.t x.r).up = some { u with forced := true } ∧
        (∀ n ∈ peaks s x a b, t.p.rget x.t n R.regionPwr_forced = 1) ∧
        t.p.rget x.t x.r R.regionPwr_stage = s.p.rget x.t x.r R.regionPwr_stage + 1 ∧ Only (May.headers x.t) s t)) ∧
    (∀ n : Fin 144, (∀ (r : Fin 4) u, (s.p.region n r).up = some u → u.forced = true → 8 ≤ s.p.rget n r R.regionPwr_stage) →
      ∃ t, exec (.forcedStretchEnd n) s = .next t ∧
        (∀ r : Fin 4, t.p.rget n r R.regionPwr_forced = 0 ∧
          ((s.p.region n r).droop ≤ 8 → t.p.rget n r R.dcoSts_stretch = (s.p.region n r).droop)) ∧
        Only { regs := fun a => ∃ r, r < 4 ∧ (a = regionB n r + R.regionPwr ∨ a = regionB n r + R.dcoSts) } s t) ∧
    (∀ n : Fin 144, s.p.keep.queue.head? = some n.val → (s.p.tile n).rails = true → (s.p.tile n).vcoreOn = false →
      (s.p.tilePeak n ≠ [] → s.p.keep.holds < 200 → ∃ t, exec (.tileAdmit n) s = .next t ∧
        t.p.keep = { s.p.keep with holds := s.p.keep.holds + 1 } ∧ Counts (keeperB + 0x808) 1 s t ∧
        Only { ctrs := fun a => a = keeperB + 0x808, keep := True } s t) ∧
      (s.p.tilePeak n = [] ∨ 200 ≤ s.p.keep.holds → ∃ t, exec (.tileAdmit n) s = .next t ∧
        (t.p.tile n).vcoreOn = true ∧ (∀ y, t.p.core y = s.p.core y) ∧ (∀ k, k ≠ n.val → t.p.tile k = s.p.tile k) ∧
        (CmdsInRange s → s.p.tilePeak n ≠ [] → ∀ k ∈ s.p.tileNear n, ∀ r : Fin 4, s.p.rget k r R.regionState_state = 0 →
          t.p.rget k r R.regionPwr_forced = 1) ∧ t.fuses = s.fuses)) ∧
    (∀ (n : Fin 144) (w : Swap) (h : Nat), s.p.keep.queue.head? ≠ some n.val → s.p.swapOf n = some w → w.waited = some h →
      (s.p.tilePeak n ≠ [] → h < 200 → ∃ t, exec (.tileAdmit n) s = .next t ∧
        t.p.swapOf n = some { w with waited := some (h + 1) } ∧ Counts (keeperB + 0x808) 1 s t ∧
        Only { ctrs := fun a => a = keeperB + 0x808, keep := True } s t) ∧
      (s.p.tilePeak n = [] ∨ 200 ≤ h → ∃ t, exec (.tileAdmit n) s = .next t ∧
        t.p.swapOf n = some { w with waited := none } ∧
        (∀ r : Fin 4, 2 ≤ s.p.rget n r R.regionState_state → (t.p.region n r).up.isSome = true) ∧
        (s.p.tilePeak n ≠ [] → ∀ k ∈ s.p.tileNear n, ∀ r : Fin 4, s.p.rget k r R.regionState_state = 0 →
          t.p.rget k r R.regionPwr_forced = 1) ∧
        Only { regs := fun a => ∃ k, (k = n.val ∨ k ∈ s.p.tileNear n) ∧ atTile k a, regions := fun k => k / 4 = n
               tiles := fun k => k = n, keep := True } s t))

/-- What the regions of a tile reach when they change state: the tile, the channels' refresh, the answers its cores awaited, and the commands
that complete. -/
def May.states (t : Nat) : May :=
  { regs := fun a => atTile t a ∨ hostRegs a, cores := fun y => y.t.val = t, chans := fun y => y.t.val = t, tiles := fun n => n = t
    regions := fun n => n / 4 = t, ctrs := atTile t, awaits := True, keep := True, host := True }

/-- R314, R319 to R323 and R325. -/
def Obligations.EntryHandshake : Prop :=
  ∀ (s : State), CmdsInRange s →
    (∀ (x : Cid) (unit : Fin 8) (h : Hs) (a : HsAnswer), (s.p.region x.t (regionOf x.c)).hs = some h →
      h.answers.find? (fun a => a.core == x.c.val && a.unit == unit.val && a.asked && !a.accepted) = some a →
      (s.p.hsAnswer x unit h.target (a.again != 0) = .accept → ∃ t, exec (.prepareAnswer x unit) s = .next t ∧
        t.p.region x.t (regionOf x.c) = { s.p.region x.t (regionOf x.c) with
          hs := some { h with answers := h.answers.map (fun c => if c = a then { a with accepted := true, asked := false } else c) } } ∧
        Only { regions := fun n => n = x.rid } s t) ∧
      (∀ n, s.p.hsAnswer x unit h.target (a.again != 0) = .delay n → ∃ t, exec (.prepareAnswer x unit) s = .next t ∧
        t.p.region x.t (regionOf x.c) = { s.p.region x.t (regionOf x.c) with
          hs := some { h with answers := h.answers.map (fun c => if c = a then { a with asked := false, again := s.p.now + n } else c) } } ∧
        Only { regions := fun n => n = x.rid } s t) ∧
      (∀ why, s.p.hsAnswer x unit h.target (a.again != 0) = .refuse why → ∃ t, exec (.prepareAnswer x unit) s = .next t ∧
        (t.p.region x.t (regionOf x.c)).hs = none ∧ t.p.rget x.t (regionOf x.c) R.regionState_hs = 0 ∧
        t.p.rget x.t (regionOf x.c) R.regionState_state = s.p.rget x.t (regionOf x.c) R.regionState_state ∧
        Counts (regionB x.t (regionOf x.c) + refuseCtr unit) 1 s t ∧
        t.p.rd (tileB x.t + R.refuseLog) = w32 (unit.val * 2 ^ 28 + regionOf x.c * 2 ^ 26 + x.c.val * 2 ^ 20 + h.target * 2 ^ 18 + why * 2 ^ 8) ∧
        Only { May.states x.t with cores := fun _ => False, chans := fun _ => False, awaits := False, keep := False } s t)) ∧
    (∀ (x : Cid) (unit : Fin 8) (h : Hs), (s.p.region x.t (regionOf x.c)).hs = some h → ∃ t, exec (.prepareRetry x unit) s = .next t ∧
      t.p.region x.t (regionOf x.c) = { s.p.region x.t (regionOf x.c) with hs := some { h with answers := h.answers.map (fun a =>
        if a.core = x.c.val ∧ a.unit = unit.val ∧ a.accepted = false ∧ a.asked = false ∧ a.again ≤ s.p.now then { a with asked := true } else a) } } ∧
      Only { regions := fun n => n = x.rid } s t) ∧
    (∀ (x : Rid) (h : Hs), (s.p.region x.t x.r).hs = some h →
      ((∀ a ∈ h.answers, a.accepted = true) → ∃ t, exec (.entryCommit x) s = .next t ∧ (t.p.region x.t x.r).hs = none ∧
        t.p.rget x.t x.r R.regionState_hs = 0 ∧
        (h.target = 1 → t.p.rget x.t x.r R.regionState_state = 1 ∧ (t.p.region x.t x.r).commit = (s.p.region x.t x.r).commit) ∧
        (h.target ≠ 1 → t.p.rget x.t x.r R.regionState_state = s.p.rget x.t x.r R.regionState_state ∧
          (t.p.region x.t x.r).commit = some h.target) ∧
        Only { regs := fun a => a = regionB x.t x.r + R.regionState ∨ hostRegs a, regions := fun n => n = x.key, host := True } s t) ∧
      (∀ a late, h.answers.filter (fun a => !a.accepted) = a :: late →
        h.start + bits (s.p.rd (tileB x.t + R.pwrHsLimit)) 15 0 ≤ s.p.now → ∃ t, exec (.handshakeTimeout x) s = .next t ∧
        (t.p.region x.t x.r).hs = none ∧ t.p.rget x.t x.r R.regionState_hs = 0 ∧
        t.p.rget x.t x.r R.regionState_state = s.p.rget x.t x.r R.regionState_state ∧
        t.p.rd (tileB x.t + R.refuseLog) = w32 (2 ^ 31 + a.unit * 2 ^ 28 + x.r.val * 2 ^ 26 + a.core * 2 ^ 20 + h.target * 2 ^ 18) ∧
        (late = [] → Counts (regionB x.t x.r + refuseCtr a.unit) 1 s t) ∧
        Only { May.states x.t with cores := fun _ => False, chans := fun _ => False, awaits := False, keep := False } s t)) ∧
    (∀ x : Rid,
      ((s.p.region x.t x.r).commit = some 2 → ∃ t, exec (.regionSwitchOff x) s = .next t ∧
        t.p.rget x.t x.r R.regionState_state = 2 ∧ (t.p.region x.t x.r).commit = none ∧ (t.p.region x.t x.r).vr = 0 ∧
        (∀ c : Fin 64, regionOf c = x.r →
          t.p.core ⟨x.t, c⟩ = (s.p.core ⟨x.t, c⟩).napped (s.p.crd ⟨x.t, c⟩ R.coreRetain)) ∧
        (∀ c : Fin 64, regionOf c ≠ x.r → t.p.core ⟨x.t, c⟩ = s.p.core ⟨x.t, c⟩) ∧ Only (May.states x.t) s t) ∧
      ((s.p.region x.t x.r).commit = some 3 → ∃ t, exec (.regionSwitchOff x) s = .next t ∧
        t.p.rget x.t x.r R.regionState_state = 3 ∧ (t.p.region x.t x.r).commit = none ∧ (t.p.region x.t x.r).vr = 0 ∧
        (∀ c : Fin 64, regionOf c = x.r → t.p.core ⟨x.t, c⟩ = Core.zero ∧ t.p.crd ⟨x.t, c⟩ R.coreRetain = 0) ∧
        t.p.rget x.t x.r R.vcoreSet_pin = 0 ∧
        (∀ c : Fin 64, regionOf c ≠ x.r → t.p.core ⟨x.t, c⟩ = s.p.core ⟨x.t, c⟩) ∧ Only (May.states x.t) s t))

/-- R314, R326 and R372. -/
def Obligations.RegionWake : Prop :=
  ∀ (x : Rid) (s : State),
    (s.p.rget x.t x.r R.regionState_state = 1 → s.p.rget x.t x.r R.regionState_wop = 1 →
      (∃ f ∈ s.p.flights, f.stage = .dest ∧ f.loc / 64 = x.t ∧ regionOf (f.loc % 64) = x.r ∧ (Ep.of f.hdr.dst).unit ≤ 5) →
      (s.p.region x.t x.r).hs = none → (s.p.region x.t x.r).commit = none →
      ∃ t, exec (.wakeOnPacket x) s = .next t ∧ t.p.rget x.t x.r R.regionState_state = 0 ∧
        Only { regs := fun a => a = regionB x.t x.r + R.regionState } s t) ∧
    (∀ u, (s.p.region x.t x.r).up = some u → s.p.rget x.t x.r R.regionPwr_stage = 8 →
      2 ≤ s.p.rget x.t x.r R.regionState_state → s.p.swapOf x.t = none → CmdsInRange s →
      ∃ t, exec (.regionWakeDone x) s = .next t ∧ t.p.rget x.t x.r R.regionState_state = 0 ∧
        t.p.rget x.t x.r R.regionState_hgate = 0 ∧ (t.p.region x.t x.r).up = none ∧ (t.p.region x.t x.r).cmds = [] ∧
        ((s.p.region x.t x.r).resetOwed = true → ∀ c : Fin 64, regionOf c = x.r → s.p.bad.contains (coreKey x.t c) = false →
          (t.p.core ⟨x.t, c⟩).resetting = true) ∧
        ((s.p.region x.t x.r).resetOwed = false → s.p.rget x.t x.r R.regionState_state = 2 → ∀ c : Fin 64, regionOf c = x.r →
          s.p.cget ⟨x.t, c⟩ R.wakePc_en = 1 → s.p.fenced ⟨x.t, c⟩ = false →
          t.p.seqState ⟨x.t, c⟩ = 1 ∧ t.p.pc ⟨x.t, c⟩ = s.p.cget ⟨x.t, c⟩ R.wakePc_vec) ∧
        (∀ c : Fin 64, regionOf c ≠ x.r → t.p.core ⟨x.t, c⟩ = s.p.core ⟨x.t, c⟩) ∧
        Only { May.states x.t with regs := fun a => atTile x.t a ∨ hostRegs a } s t)

/-- The compute-die readings of a sample. -/
def readings (die : List (BitVec 16)) : List Q := tab 24 (fun i => degC (die.getD i 0))

/-- R186 to R188, R327, R330 to R332 and R336. -/
def Obligations.WardenSample : Prop :=
  ∀ (n : Fin 144) (die dram : List (BitVec 16)) (pw : List (BitVec 32)) (draw : BitVec 32) (s : State),
    (s.p.tile n).rails = true → (s.p.tile n).pll = true → die.length = 24 → dram.length = 4 →
    ((∀ v ∈ die, v.toInt < 105 * 16) → ∃ t, exec (.wardenSample n die dram pw draw) s = .next t ∧
      ((∃ v, (v ∈ die ∨ v ∈ dram) ∧ 85 * 16 ≤ v.toInt) → t.p.tget n R.dramTherm_dbl = 1) ∧
      ((∀ v, v ∈ die ∨ v ∈ dram → v.toInt < 82 * 16) → t.p.tget n R.dramTherm_dbl = 0) ∧
      ((∃ v ∈ dram, 95 * 16 ≤ v.toInt) → t.p.tget n R.dramTherm_trip = 1 ∧ t.p.tget n R.dramTherm_cap = 3 ∧
        (t.p.tile n).tripHeld = true) ∧
      ((∀ v, v ∈ die ∨ v ∈ dram → v.toInt < 90 * 16) → t.p.tget n R.dramTherm_trip = s.p.tget n R.dramTherm_trip ∧
        t.p.tget n R.dramTherm_cap = s.p.tget n R.dramTherm_cap - 1 ∧ (t.p.tile n).tripHeld = false) ∧
      (∀ r : Fin 4,
        t.p.rget n r R.regionState_hgate = s.p.rget n r R.regionState_hgate ∧
        t.p.rget n r R.thermSts_tmax = wholeC (Q.maxOf (((readings die).drop (6 * r)).take 6)) ∧
        (t.p.rget n r R.thermSts_pred_hi = 1 → 32 ≤ t.p.rget n r R.thermSts_cap ∧
          t.p.rget n r R.thermSts_cap ≤ max 32 (s.p.rget n r R.thermSts_cap - 1)) ∧
        (t.p.rget n r R.thermSts_pred_hi = 0 → s.p.rget n r R.thermSts_cap ≤ 140 →
          s.p.rget n r R.thermSts_cap ≤ t.p.rget n r R.thermSts_cap ∧ t.p.rget n r R.thermSts_cap ≤ 140)) ∧
      (t.p.tile n).draws = (draw.toNat :: (s.p.tile n).draws).take 10 ∧
      Only { regs := fun a => atTile n a ∨ a = keeperB + R.alertSts, ctrs := atTile n, cores := fun y => y.t = n
             chans := fun y => y.t = n, tiles := fun k => k = n, regions := fun k => k / 4 = n, colls := fun k => k = n
             healths := fun k => k = n, msgs := True, awaits := True, keep := True } s t) ∧
    (∀ (r : Fin 4) (i : Fin 6), 105 * 16 ≤ (die.getD (6 * r + i) 0).toInt → s.p.rget n r R.regionState_state ≠ 3 →
      s.p.rget n r R.regionState_hgate = 0 → CmdsInRange s → ∃ t, exec (.wardenSample n die dram pw draw) s = .next t ∧
        t.p.rget n r R.regionState_hgate = 1 ∧ (∀ c : Fin 64, regionOf c = r → t.p.fenced ⟨n, c⟩ = true) ∧ t.fuses = s.fuses)

/-- R334 to R337. -/
def reportsAndBudgets : Prop :=
  ∀ (s : State),
    (∀ n : Fin 144,
      ((s.p.tile n).pll = true → ∃ t demand, exec (.reportTick n) s = .next t ∧
        t.p.msgs = s.p.msgs ++ [⟨0x31, n, s.p.keeperNode, [b2n (!s.p.tileActive n), s.p.tget n R.budgetSts_used, demand,
          (List.range 4).foldl (fun m r => max m (s.p.rget n r R.thermSts_tmax)) 0,
          (List.range 4).foldl (fun m r => max m (s.p.rget n r R.thermSts_tpred)) 0, ((s.p.tile n).seq + 1) % 65536]⟩] ∧
        t.p.tile n = { s.p.tile n with seq := ((s.p.tile n).seq + 1) % 65536 } ∧
        Only { tiles := fun k => k = n, msgs := True, free := True } s t) ∧
      (∀ m, s.p.findMsg 0x31 n s.p.keeperNode = some m → ∃ t, exec (.report n) s = .next t ∧ t.p.msgs = s.p.msgs.erase m ∧
        sget (fun _ => none) t.p.keep.reports n = some ⟨s.p.now, m.at 0, m.at 1, m.at 2⟩ ∧
        (∀ k, k ≠ n.val → sget (fun _ => none) t.p.keep.reports k = sget (fun _ => none) s.p.keep.reports k) ∧
        t.p.keep = { s.p.keep with reports := t.p.keep.reports } ∧ Only { keep := True, msgs := True } s t) ∧
      (∀ m, s.p.findMsg 0x30 s.p.keeperNode n = some m → (∀ w ∈ (s.p.tile n).wins, w.1 < 256) → ∃ t, exec (.budget n) s = .next t ∧ t.p.msgs = s.p.msgs.erase m ∧
        t.p.tget n R.budgetSts_budget = m.at 0 % 4096 ∧ t.p.tget n R.budgetSts_stale = 0 ∧ (t.p.tile n).kcap = m.at 1 ∧
        (t.p.tile n).tc = m.at 2 ∧ (t.p.tile n).lastBudget = s.p.now ∧
        (m.at 4 < 65536 → t.p.tget n R.tileMemb_epoch = m.at 4) ∧
        Only { regs := atTile n, tiles := fun k => k = n, msgs := True } s t) ∧
      ((s.p.tile n).pll = true → (s.p.tile n).lastBudget + 5000 ≤ s.p.now → ∃ t, exec (.budgetStale n) s = .next t ∧
        t.p.tget n R.budgetSts_stale = 1 ∧ Only { regs := fun a => a = tileB n + R.budgetSts } s t)) ∧
    (s.p.keeperState s.p.activeK = 2 → ∃ t, ∃ f : Nat → Nat × Nat, exec .budgetTick s = .next t ∧
      t.p.msgs = s.p.msgs ++ ((List.range 144).filter (fun n => (s.p.tile n).rails)).map (fun n =>
        ⟨0x30, s.p.keeperNode, n, [(f n).1, if s.p.keep.dark then 32 else s.p.keep.kcap, (f n).2,
          (s.p.keep.budgetSeq + 1) % 65536, s.p.epoch]⟩) ∧
      (∀ n b, s.p.budgets.find? (fun e => e.1 == n) = some b → (f n).1 = b.2) ∧
      t.p.rd (keeperB + R.panelBudgetEff) = w32 s.p.effBudget ∧
      t.p.keep = { s.p.keep with budgetSeq := (s.p.keep.budgetSeq + 1) % 65536 } ∧
      Only { regs := fun a => a = keeperB + R.panelBudgetEff ∨ a = keeperB + R.coolSts, keep := True, msgs := True, free := True } s t)

/-- R339 to R342. -/
def coolingWatch : Prop :=
  ∀ (s : State),
    (∀ (ack : Bool) (tin tout flow : BitVec 16) (st : BitVec 8), s.p.keep.ring = true →
      (ack = true → st.getLsbD 0 = true → -2560 ≤ tin.toInt → tin.toInt ≤ 15360 → -2560 ≤ tout.toInt → tout.toInt ≤ 15360 →
        flow.toNat ≤ 12800 → ∃ t, exec (.trayRead ack tin tout flow st) s = .next t ∧
          t.p.keep.tray = (⟨s.p.now, tin.toInt, tout.toInt, flow.toNat, s.p.inputPower⟩ :: s.p.keep.tray).take 100 ∧
          t.p.keep.fails = 0 ∧ t.p.kget R.coolSts_valid = 1 ∧ Only { May.panelEvent with free := True } s t) ∧
      (ack = false ∨ st.getLsbD 0 = false ∨ tin.toInt < -2560 ∨ 15360 < tin.toInt ∨ tout.toInt < -2560 ∨ 15360 < tout.toInt ∨
          12800 < flow.toNat → ∃ t, exec (.trayRead ack tin tout flow st) s = .next t ∧ t.p.keep.tray = s.p.keep.tray ∧
          t.p.keep.fails = s.p.keep.fails + 1 ∧ t.p.kget R.coolSts_valid = 0 ∧ Only May.panelEvent s t)) ∧
    (∃ t, exec .throttleTick s = .next t ∧
      (s.p.throttleBad = true → t.p.keep.lowered = min 8 (s.p.keep.lowered + 1) ∧ t.p.keep.throttled = some s.p.now) ∧
      (s.p.throttleBad = false → (∀ at_, s.p.keep.throttled = some at_ → at_ + 10000000 ≤ s.p.now) →
        t.p.keep.lowered = s.p.keep.lowered - 1) ∧
      (∀ at_, s.p.throttleBad = false → s.p.keep.throttled = some at_ → s.p.now < at_ + 10000000 →
        t.p.keep.lowered = s.p.keep.lowered) ∧
      t.p.rd (keeperB + R.panelBudgetEff) = w32 (s.p.kget R.panelBudget_panel * (10 - t.p.keep.lowered) / 10) ∧
      Only { regs := fun a => a = keeperB + R.panelBudgetEff ∨ a = keeperB + R.coolSts, keep := True } s t)

/-- REPORT_TICK, REPORT, BUDGET_TICK, BUDGET, BUDGET_STALE, TRAY_READ and THROTTLE_TICK. -/
def Obligations.BudgetsAndCooling : Prop := reportsAndBudgets ∧ coolingWatch

/-- STANDBY has been left (R318, R364). -/
def StandbyLeft (s t : State) : Prop :=
  t.p.rd (keeperB + R.panelState) = 1 ∧ t.p.gget R.bootSts_done = s.p.gget R.bootSts_done % 2 ∧
    t.p.gget R.tallySts_applied = 0 ∧ (∀ d, d < 22 → (t.p.die d).rails = true) ∧
    Only { regs := fun a => a = keeperB + R.panelState ∨ a = globB + R.bootSts ∨ a = globB + R.tallySts
           dies := fun d => d < 22, keep := True, host := True } s t

/-- R317, R318, R344, R345, R347 and R364. -/
def Obligations.BringupBegins : Prop :=
  ∀ (s : State),
    (∀ (sel : Bool) at_, s.p.keep.ring = false → s.p.keep.goodA = some at_ ∨ s.p.keep.goodB = some at_ → at_ + 10000 ≤ s.p.now →
      ∃ t, exec (.bringupStart sel) s = .next t ∧ t.p.keep.ring = true ∧ (∀ d, d < 22 → (t.p.die d).rails = true) ∧
        t.p.gget R.keeperSts_active = b2n sel ∧ t.p.gget R.keeperSts_strap = b2n sel ∧ t.p.rd (keeperB + R.panelState) = 1 ∧
        Only { regs := fun a => a = globB + R.keeperSts ∨ a = keeperB + R.panelState, dies := fun d => d < 22, keep := True } s t) ∧
    (∀ n : Fin 4, s.p.keep.ring = true →
      (s.p.standby = false ∨ n ≠ 0 → (s.p.die (16 + n)).rails = true → ∃ t, exec (.perstRelease n) s = .next t ∧
        (∀ k, t.p.portUp k = if k = n.val then true else s.p.portUp k) ∧ Only { host := True } s t) ∧
      (s.p.standby = true → n = 0 → ∃ t, exec (.perstRelease n) s = .next t ∧ StandbyLeft s t ∧ t.p.portUp 0 = true)) ∧
    (∀ v : BitVec 32, s.p.standby = true → v.getLsbD 0 = true → ∃ t, exec (.bmcWake v) s = .next t ∧ StandbyLeft s t ∧
      t.p.host = s.p.host)

/-- A go write of a step reaches a keeper that takes it, and the step is legal (R347 to R349). -/
def BootGo (s : State) (step ksel : Nat) : Prop :=
  s.p.keep.ring = true ∧ s.p.standby = false ∧ s.p.gget R.bootSts_busy = 0 ∧ s.p.bootLegal step ksel = true

/-- The registers of BOOT_CTL and BOOT_STS. -/
def bootRegs (a : Nat) : Prop := a = globB + R.bootCtl ∨ a = globB + R.bootSts

/-- The fuses are as they were, but for accepted security versions that may have risen (R472). -/
def OnlySvn (f g : Fuses) : Prop :=
  g = { f with svnA := g.svnA, svnB := g.svnB } ∧ f.svnA ≤ g.svnA ∧ f.svnB ≤ g.svnB

/-- R281, R348 to R350, R353, R358 to R361 and R472. -/
def Obligations.BootStepsRun : Prop :=
  ∀ (s : State),
    (∀ (ksel : BitVec 2) (err : Bool) main, ksel.toNat < 2 → BootGo s 1 ksel.toNat → s.p.bootAddr % 4096 = 0 →
      main = (if ksel = 0 then s.p.activeK else 1 - s.p.activeK) →
      ∃ t b, exec (.keeper ksel err) s = .next t ∧ t.p.gget R.bootSts_step = 1 ∧ t.p.gget R.bootSts_busy = 1 ∧
        t.p.keep.boot = some b ∧ b.cmd = none ∧
        (s.p.bootLen < 65536 ∨ 16 * 2 ^ 20 < s.p.bootLen → b.st = 4 ∧ t.fuses = s.fuses) ∧
        (65536 ≤ s.p.bootLen → s.p.bootLen ≤ 16 * 2 ^ 20 →
          (∀ k ∈ s.p.bootKeepers ksel.toNat, t.p.keeperState k = 1) ∧ (err = true → b.st = 13 ∧ t.fuses = s.fuses) ∧
          (err = false → b.st =
            (if (verifyImage s.fuses main 1 (s.p.hostRd 0 s.p.bootAddr s.p.bootLen)).isSome = true then 0 else 11))) ∧
        OnlySvn s.fuses t.fuses ∧ t.pending = s.pending ∧
        s.p.Only { regs := fun a => bootRegs a ∨ a = globB + R.keeperSts, keep := True } t.p) ∧
    (BootGo s 2 0 → ∃ t, exec .tally s = .next t ∧ t.p.gget R.bootSts_busy = 1 ∧ t.p.gget R.bootSts_step = 2 ∧
      t.p.keep.boot = some ⟨0, 0, 0, none⟩ ∧
      (∀ (n : Fin 144) w, w < 620 → t.p.recWord n w = (s.fuses.word s.p.activeK n w).getD 0) ∧
      (∀ n : Fin 144, t.p.tget n R.tileSts_reserve = b2n (isCentre n) ∧
        (s.fuses.recInvalid s.p.activeK n = true → t.p.tget n R.tileSts_unusable = 1) ∧
        t.p.tget n R.tileSts_ncore = 64 - ((List.range 64).filter (fun c => bit (t.p.badMap n) c)).length ∧
        (∀ c : Fin 64, bit (t.p.badMap n) c = true → t.p.fenced ⟨n, c⟩ = true ∧ t.p.bad.contains (coreKey n c) = true)) ∧
      Only { regs := fun a => bootRegs a ∨ a = globB + R.tallySts ∨
               ∃ n, n < 144 ∧ (a = tileB n + R.tileSts ∨ a = tileB n + R.fenceMap ∨ a = tileB n + R.fenceMap + 4)
             bad := True, keep := True } s t) ∧
    (BootGo s 3 0 → ∃ t, exec .power s = .next t ∧ t.p.gget R.bootSts_busy = 1 ∧ t.p.gget R.bootSts_step = 3 ∧
      t.p.keep = { s.p.keep with
        queue := ((List.range 16).filter s.p.segmentUp).flatMap standTiles, holds := 0, boot := some ⟨0, 0, 0, none⟩ } ∧
      Only { regs := bootRegs, keep := True } s t) ∧
    (∀ err : Bool, BootGo s 4 0 → (s.p.bootLen ≠ 0 → s.p.bootAddr % 4096 = 0) → ∃ t b, exec (.routes err) s = .next t ∧
      t.p.gget R.bootSts_busy = 1 ∧ t.p.gget R.bootSts_step = 4 ∧ t.p.keep.boot = some b ∧
      (err = true → s.p.bootLen ≠ 0 → b = ⟨13, 1, 0, none⟩ ∧ t.p.routers = s.p.routers) ∧
      (err = false ∨ s.p.bootLen = 0 →
        (s.p.trained = false → b = ⟨0, 0, 0, none⟩ ∧ t.p.routers = s.p.routers) ∧
        (s.p.trained = true → s.p.bootLen = 0 → b = ⟨0, 1, 0, none⟩) ∧
        (s.p.trained = true → s.p.bootLen ≠ 0 → s.p.bootLen ≤ 128 * 2 ^ 20 →
          b.st = (routeCheck false s.p.bootLen (s.p.hostRd 0 s.p.bootAddr s.p.bootLen)).1 ∧ b.a = 1 ∧
          (b.st ≠ 0 → t.p.routers = s.p.routers))) ∧
      (∀ y, t.p.core y = s.p.core y ∧ t.p.chan y = s.p.chan y) ∧ t.fuses = s.fuses ∧ t.p.flights = s.p.flights) ∧
    (BootGo s 5 0 → ∃ t, exec .ptcStart s = .next t ∧ t.p.gget R.bootSts_busy = 1 ∧ t.p.gget R.bootSts_step = 5 ∧
      t.p.ptc s.p.keeperNode = some ⟨s.p.keep.ptcInit.getD 0 % 2 ^ 64 * Sys2Proof.Machine.ptcNs, 0, s.p.now⟩ ∧
      (s.p.ptcBit s.p.keeperNode 29 = false → t.p.ptcBit s.p.keeperNode 31 = true) ∧ t.p.keep.boot = some ⟨0, 0, 0, none⟩ ∧
      Only { regs := fun a => bootRegs a ∨ a = s.p.ptcStsAt s.p.keeperNode ∨ ∃ n, n < 144 ∧ a = tileB n + R.timeTree
             ptcs := fun k => k = s.p.keeperNode, keep := True, msgs := True } s t) ∧
    (∀ err : Bool, BootGo s 6 0 → s.p.bootAddr % 4096 = 0 → ∃ t b, exec (.image err) s = .next t ∧
      t.p.gget R.bootSts_busy = 1 ∧ t.p.gget R.bootSts_step = 6 ∧ t.p.keep.boot = some b ∧
      (2 * 2 ^ 20 + 65536 < s.p.bootLen → b = ⟨4, 1, 0, none⟩ ∧ t.p.chans = s.p.chans) ∧
      (s.p.bootLen ≤ 2 * 2 ^ 20 + 65536 → err = true → b = ⟨13, 1, 0, none⟩ ∧ t.p.chans = s.p.chans) ∧
      (s.p.bootLen ≤ 2 * 2 ^ 20 + 65536 → err = false →
        verifyImage s.fuses s.p.activeK 2 (s.p.hostRd 0 s.p.bootAddr (min s.p.bootLen 16544)) = none →
        b = ⟨11, 1, 0, none⟩ ∧ t.p.chans = s.p.chans) ∧
      (∀ v, s.p.bootLen ≤ 2 * 2 ^ 20 + 65536 → err = false →
        verifyImage s.fuses s.p.activeK 2 (s.p.hostRd 0 s.p.bootAddr (min s.p.bootLen 16544)) = some v →
        b.st = 11 ∨ (b.st = 0 ∧ t.p.meas 3 = v.1 ∧ (b.a = 1 → t.p.keep.img.isSome = true))) ∧ t.fuses = s.fuses)

/-- R317, R358, R361, R362 and R405. -/
def Obligations.TilesStart : Prop :=
  ∀ (s : State),
    (∀ n : Fin 144, s.p.keep.queue.head? = some n.val → (s.p.tile n).rails = false → s.p.segmentUp (standOf n) = true →
      ∃ t, exec (.tileRailsUp n) s = .next t ∧ (t.p.tile n).rails = true ∧ (t.p.tile n).vsram = 700 ∧
        t.p.tget n R.tileMemb_epoch = s.p.epoch ∧
        (∀ i, i < 8 → t.p.rd (tileB n + R.vfPoint + 4 * i) = w32 (s.p.recWord n (2 + i)).toNat &&& 0x03FF00FF) ∧
        t.p.keep = { s.p.keep with reports := sset (fun _ => none) s.p.keep.reports n (some ⟨s.p.now, 2, 0, 0⟩) } ∧
        Only { regs := atTile n, tiles := fun k => k = n, chans := fun y => y.t = n, keep := True
               links := fun k => ∃ j, j < 32 ∧ k = 32 * n.val + j } s t) ∧
    (∀ x : Cid, x.c.val ∈ (s.p.tile x.t).imgWait → NoBlockReset s x.t → ∃ t, exec (.imageCheck x) s = .next t ∧
      (t.p.tile x.t).imgWait = (s.p.tile x.t).imgWait.filter (· != x.c.val) ∧
      (∀ len sha, s.p.regionState x ≤ 1 → s.p.keep.img = some (len, sha) →
        (s.p.chanReads x imgBase (ceilDiv (max len 32768) 64)).2.1 = false →
        sha256 (((s.p.chanReads x imgBase (ceilDiv (max len 32768) 64)).1.flatMap (fun w => toBytes 8 w.toNat)).take len) = sha →
        (t.p.core x).seq.prog = ((s.p.core x).seq.setBundles 0
          (imgBundles ((s.p.chanReads x imgBase (ceilDiv (max len 32768) 64)).1.take 4096))).prog) ∧
      (∀ len sha, s.p.regionState x ≤ 1 → s.p.keep.img = some (len, sha) →
        (s.p.chanReads x imgBase (ceilDiv (max len 32768) 64)).2.1 = true → (t.p.core x).seq.prog = []) ∧
      (∀ y : Cid, y.t ≠ x.t → (t.p.core y).spad = (s.p.core y).spad ∧ t.p.chan y = s.p.chan y) ∧ t.fuses = s.fuses) ∧
    (∀ n : Fin 144, s.p.tget n R.tileSts_ready = 0 →
      ((if (s.p.tile n).pll = true then s.p.showLinks n else s.p).tget n R.tileSts_links_done) = 1 →
      ((∀ r : Fin 4, s.p.rget n r R.regionState_state = 3) → (s.p.tile n).routed = true) →
      ((∃ r : Fin 4, s.p.rget n r R.regionState_state ≠ 3) → s.p.tget n R.tileSts_img_done = 1) →
      (∀ c : Fin 64, (s.p.core ⟨n, c⟩).resetting = false) → (s.p.serving n = true → 60 ≤ (s.p.liveCores n).length) →
      ∃ t, exec (.tileReady n) s = .next t ∧ t.p.tget n R.tileSts_ready = 1 ∧
        (t.p.rd (globB + R.readyMap + 4 * (n.val / 32))).getLsbD (n.val % 32) = true ∧
        (s.p.tget n R.tileSts_unusable = 0 → s.p.tget n R.tileSts_reserve = 0 → s.p.keep.served = false →
          t.p.keep.served = true ∧ (s.p.rd (keeperB + R.panelState) = 1 → t.p.rd (keeperB + R.panelState) = 0)) ∧
        Only { regs := fun a => a = tileB n + R.tileSts ∨ a = globB + R.readyMap + 4 * (n.val / 32) ∨ a = keeperB + R.panelState
               keep := True } s t)

/-- What a boot step waits for has ended (R349). -/
def BootReady (s : State) (step : Nat) (b : Boot) : Prop :=
  match step with
  | 1 => b.a = 4 ∨ ∀ k, k < 2 → s.p.keeperState k = 1 → (s.p.trust k).devid = true
  | 3 => s.p.keep.queue = []
  | 4 => b.a = 1
  | 6 => b.st ≠ 0 ∨ (b.a ≠ 0 ∧ ∀ n, n < 144 → (s.p.tile n).imgWait = [])
  | _ => True

/-- R349, R350, R353 and R359 to R361. -/
def bootStepEnds : Prop :=
  ∀ (s : State) (b : Boot) (step : Nat), s.p.keep.boot = some b → s.p.gget R.bootSts_step = step → 1 ≤ step → step ≤ 6 →
    b.st < 256 → BootReady s step b → CmdsInRange s →
    ∃ t, exec .bootStepDone s = .next t ∧ t.p.keep.boot = none ∧ t.p.gget R.bootSts_busy = 0 ∧
      t.p.gget R.bootSts_status = b.st ∧ (b.st = 0 → t.p.bootDone step = true) ∧
      (b.st ≠ 0 → t.p.bootDone step = s.p.bootDone step) ∧ (step = 2 → t.p.gget R.tallySts_applied = 1) ∧
      (step = 1 → b.a ≠ 4 → t.p.keeperState 0 = b.a % 4 ∧ t.p.keeperState 1 = b.b % 4) ∧
      Only { regs := fun a => a = globB + R.bootSts ∨ a = globB + R.keeperSts ∨ a = globB + R.tallySts ∨ hostRegs a
             keep := True, host := True } s t

/-- The fuse word of a slot of tile n in keeper k. -/
def slotAt (k n slot : Nat) : Nat := 89280 * k + 620 * n + 40 + slot

/-- R357. -/
def fieldRecords : Prop :=
  ∀ (s : State),
    (s.p.keep.ring = true → s.p.standby = false → s.p.gget R.tallySts_rec_busy = 0 →
      (∀ (v : BitVec 32) rec_, v.getLsbD 31 = true → v.getLsbD 10 = false → bits v 7 0 < 144 →
        rec_ = (s.p.rd (globB + R.tallyRec)).toNat + 2 ^ 32 * (s.p.rd (globB + R.tallyRec + 4)).toNat →
        (rec_ / 2 ^ 60 = 0 ∨ (6 ≤ rec_ / 2 ^ 60 ∧ rec_ / 2 ^ 60 < 15) → ∃ t, exec (.tallyRecCtl v) s = .next t ∧
          t.fuses = s.fuses ∧ t.p.gget R.tallySts_rec_err = 1 ∧ t.p.keep = s.p.keep) ∧
        (∀ slot, rec_ / 2 ^ 60 ≠ 0 → rec_ / 2 ^ 60 < 6 ∨ rec_ / 2 ^ 60 = 15 →
          (List.range 4).find? (fun j => match s.fuses.copy s.p.activeK (bits v 7 0) (40 + j) with
            | some w => bits w 63 60 == 0 | none => false) = some slot →
          ∃ t, exec (.tallyRecCtl v) s = .next t ∧
            (∀ a, sget (fun _ => (0 : BitVec 76)) t.fuses.tally a =
              if a ∈ s.p.burners.map (fun k => slotAt k (bits v 7 0) slot) then ssc76Enc (w64 rec_)
              else sget (fun _ => (0 : BitVec 76)) s.fuses.tally a) ∧
            t.fuses = { s.fuses with tally := t.fuses.tally } ∧ t.p.gget R.tallySts_rec_busy = 1 ∧
            t.p.keep = { s.p.keep with burn := some (bits v 7 0, slot) } ∧
            s.p.Only { regs := fun a => a = globB + R.tallyRecCtl ∨ a = globB + R.tallySts, keep := True } t.p) ∧
        (rec_ / 2 ^ 60 ≠ 0 → rec_ / 2 ^ 60 < 6 ∨ rec_ / 2 ^ 60 = 15 →
          (List.range 4).find? (fun j => match s.fuses.copy s.p.activeK (bits v 7 0) (40 + j) with
            | some w => bits w 63 60 == 0 | none => false) = none →
          ∃ t, exec (.tallyRecCtl v) s = .next t ∧ t.fuses = s.fuses ∧ t.p.gget R.tallySts_rec_full = 1 ∧ t.p.keep = s.p.keep)) ∧
      (∀ (slot : BitVec 2) (tile : BitVec 8), tile.toNat < 144 → ∃ t, exec (.tallyVoid slot tile) s = .next t ∧
        (∀ k ∈ s.p.burners, sget (fun _ => (0 : BitVec 76)) t.fuses.tally (slotAt k tile.toNat slot.toNat) =
          ssc76Enc ((s.fuses.copy k tile.toNat (40 + slot.toNat)).getD 0 ||| w64 (15 * 2 ^ 60))) ∧
        (∀ a, (∀ k ∈ s.p.burners, a ≠ slotAt k tile.toNat slot.toNat) →
          sget (fun _ => (0 : BitVec 76)) t.fuses.tally a = sget (fun _ => (0 : BitVec 76)) s.fuses.tally a) ∧
        t.p.gget R.tallySts_rec_busy = 1 ∧ t.p.keep.burn = some (tile.toNat, slot.toNat) ∧
        s.p.Only { regs := fun a => a = globB + R.tallyRecCtl ∨ a = globB + R.tallySts, keep := True } t.p)) ∧
    (∀ (n slot : Nat) (ok : Bool), s.p.keep.burn = some (n, slot) → ∃ t, exec (.tallyRecordDone ok) s = .next t ∧
      t.p.gget R.tallySts_rec_busy = 0 ∧ t.p.keep = { s.p.keep with burn := none } ∧ (ok = true → t.fuses = s.fuses) ∧
      (ok = false → t.p.gget R.tallySts_rec_err = 1 ∧ ∀ a, (∀ k ∈ s.p.burners, a ≠ slotAt k n slot) →
        sget (fun _ => (0 : BitVec 76)) t.fuses.tally a = sget (fun _ => (0 : BitVec 76)) s.fuses.tally a) ∧
      s.p.Only { regs := fun a => a = globB + R.tallySts, keep := True, free := True } t.p)

/-- BOOT_STEP_DONE, TALLY_REC_CTL, TALLY_VOID and TALLY_RECORD_DONE. -/
def Obligations.BootEndsAndFieldRecords : Prop := bootStepEnds ∧ fieldRecords

/-- R368, R369, R484 and R513. -/
def Obligations.WholeResets : Prop :=
  ∀ (s : State),
    (∀ pin : Bool, pin = true ∨ s.p.prst = true → ∃ t, exec (.panelReset pin) s = .next t ∧ t.fuses = s.fuses ∧
      t.pending = s.pending ∧ (∀ a, t.p.rd a = regReset a ∧ t.p.ctr a = Ctr.zero) ∧
      (∀ y, t.p.core y = Core.zero ∧ t.p.chan y = Chan.zero) ∧
      (∀ n, t.p.tile n = TileSt.zero ∧ t.p.router n = Router.zero ∧ t.p.die n = DieSt.zero ∧ t.p.ptc n = none) ∧
      t.p.keep = KeepSt.zero ∧ t.p.host.cmds = [] ∧ (∀ n, t.p.portUp n = false) ∧ t.p.flights = [] ∧ t.p.prst = false ∧
      t.p.host.mem = s.p.host.mem ∧ t.p.now = s.p.now) ∧
    (s.p.prst = false → exec (.panelReset false) s = .next s) ∧
    (∀ n : Fin 4, ∃ t, exec (.hostPortReset n) s = .next t ∧
      (∀ a, hostB n ≤ a → a < hostB n + 0x10000 → t.p.rd a = regReset a ∧ t.p.ctr a = Ctr.zero) ∧
      (∀ k, t.p.portUp k = if k = n.val then false else s.p.portUp k) ∧ (t.p.die (16 + n)).apers = [] ∧
      (∀ q, q < 64 → t.p.sqTail n q = 0 ∧ t.p.cqHead n q = 0 ∧ t.p.cqPhase n q = true) ∧
      (∀ c ∈ t.p.host.cmds, c.port = n.val → c.mute = true) ∧
      t.p.host.cmds.map (·.key) = s.p.host.cmds.map (·.key) ∧ t.p.host.mem = s.p.host.mem ∧
      (∀ k q, k ≠ n.val → q < 64 → t.p.sqTail k q = s.p.sqTail k q ∧ t.p.cqHead k q = s.p.cqHead k q) ∧
      Only { regs := fun a => hostB n ≤ a ∧ a < hostB n + 0x10000, ctrs := fun a => hostB n ≤ a ∧ a < hostB n + 0x10000
             dies := fun d => d = 16 + n.val, latches := True, host := True, keep := True } s t) ∧
    (∀ n : Fin 4, ∃ t, exec (.refclkLost n) s = .next t ∧ (∀ k, t.p.portUp k = if k = n.val then false else s.p.portUp k) ∧
      t.p.host = { s.p.host with up := t.p.host.up } ∧ Only { host := True } s t)

/-- R370, R372, R374, R376 to R378, R380 and R398. -/
def Obligations.ComputeAndRouterResets : Prop :=
  ∀ (x : Cid) (s : State),
    ((s.p.tile x.t).rails = true → s.p.regionState x ≤ 1 → (s.p.core x).resetting = false → s.p.bad.contains x.key = false →
      ∃ t, exec (.computeReset x) s = .next t ∧ (t.p.core x).resetting = true ∧ (t.p.core x).spad = Core.zero.spad ∧
        (t.p.core x).grid = Core.zero.grid ∧ (t.p.core x).seq.prog = [] ∧ (t.p.core x).seq.tokens = [] ∧ t.p.seqState x = 0 ∧
        t.p.crd x R.srSeed = w32 (1 + s.p.unitAddr x 0) ∧
        (∀ a, isComputeReg x a = true → a ≠ coreB x.t x.c + R.srSeed → t.p.rd a = regReset a) ∧
        (∀ a, isComputeReg x a = false → a ≠ coreB x.t x.c + R.selftestRes → t.p.rd a = s.p.rd a) ∧
        (s.p.cget x R.selftestRes_run = 1 → t.p.cget x R.selftestRes_result = 3) ∧
        (t.p.chan x).q0 = [] ∧ (t.p.chan x).q1 = (s.p.chan x).q1 ∧ (t.p.chan x).cells = (s.p.chan x).cells ∧
        Only { regs := atCore x, cores := fun y => y = x, chans := fun y => y = x, awaits := True } s t) ∧
    ((s.p.tile x.t).rails = true → s.p.regionState x = 3 → exec (.computeReset x) s = .next s) ∧
    ((s.p.core x).resetting = true → s.p.keep.replay = none → CmdsInRange s → ∃ t, exec (.computeResetDone x) s = .next t ∧
      (t.p.core x).resetting = false ∧ (s.p.keep.img = none → (t.p.core x).seq = (s.p.core x).seq ∧ t.p.chans = s.p.chans) ∧
      Only { May.event x.t with
        regs := fun a => (May.event x.t).regs a ∨ hostRegs a, free := True, host := True } s t) ∧
    (∀ d, s.p.keep.drains = [d] → s.p.drained d = true → CmdsInRange s → (∀ k ∈ d.1, k ≤ 9216) → ∃ t,
      exec .legacyDrainEnd s = .next t ∧ t.p.keep.drains = [] ∧
      (∀ k ∈ d.1, k ≠ legacyPanel → t.p.router k = { Router.zero with resetting := true }) ∧
      (∀ y : Cid, y.key ∈ d.1 → s.p.regionState y ≤ 1 → s.p.bad.contains y.key = false → (t.p.core y).resetting = true) ∧
      (d.1.contains legacyPanel = true → t.p.bootDone 4 = false ∧ t.p.bootDone 6 = false) ∧
      (∀ y, (t.p.chan y).cells = (s.p.chan y).cells ∧ t.p.fenced y = s.p.fenced y) ∧
      (∀ n, (t.p.tile n).rails = (s.p.tile n).rails) ∧
      Only { regs := fun a => (∃ n, n < 144 ∧ atTile n a) ∨ hostRegs a ∨ a = globB + R.bootSts ∨
               (globB + R.readyMap ≤ a ∧ a < globB + R.readyMap + 20)
             cores := fun y => y.key ∈ d.1, chans := fun y => y.key ∈ d.1, routers := fun n => n ∈ d.1
             tiles := fun _ => d.1.contains legacyPanel = true, links := fun _ => True, flights := True, awaits := True, keep := True
             host := True } s t) ∧
    ((s.p.router (rtrCore x.t x.c)).resetting = true → CmdsInRange s → ∃ t, exec (.routerResetDone x) s = .next t ∧
      t.p.router (rtrCore x.t x.c) = { s.p.router (rtrCore x.t x.c) with resetting := false } ∧
      (∀ q c, q < 4 → edgeLink x.c q = none → coreAcross x.c q = some c →
        t.p.portState (rtrCore x.t c) (oppPort q) =
          if s.p.portState (rtrCore x.t c) (oppPort q) = 1 then 2 else s.p.portState (rtrCore x.t c) (oppPort q)) ∧
      Only { regs := fun a => hostRegs a ∨ ∃ q c, q < 4 ∧ coreAcross x.c q = some c ∧ a = coreB x.t c + R.rtrPort
             routers := fun n => n = rtrCore x.t x.c, host := True } s t) ∧
    (∀ mask : BitVec 10, s.p.cget x R.selftestRes_run = 1 → (s.p.core x).resetting = false → s.p.bad.contains x.key = false →
      CmdsInRange s → ∃ t, exec (.selftestDone x mask) s = .next t ∧ t.p.cget x R.selftestRes_run = 0 ∧
        t.p.cget x R.selftestRes_mask = mask.toNat ∧ t.p.cget x R.selftestRes_result = (if mask = 0 then 1 else 2) ∧
        (t.p.core x).resetting = true ∧ t.p.seqState x = 0 ∧
        Only { regs := fun a => atCore x a ∨ hostRegs a, cores := fun y => y = x, chans := fun y => y = x, awaits := True
               host := True } s t)

/-- R384, R385, R388 to R390 and R392. -/
def Obligations.FaultCollection : Prop :=
  ∀ (s : State),
    (∀ (n : Fin 144) m old, s.p.findMsg 0x40 n s.p.keeperNode = some m → old = sget (fun _ => none) s.p.keep.notes n →
      ((∃ b, old = some b ∧ 32768 ≤ (m.at 4 + 65536 - b.getD 4 0) % 65536) → ∃ t, exec (.faultNote n) s = .next t ∧
        t.p.msgs = s.p.msgs.erase m ∧ Only { msgs := True } s t) ∧
      ((∀ b, old = some b → (m.at 4 + 65536 - b.getD 4 0) % 65536 < 32768) → ∃ t, exec (.faultNote n) s = .next t ∧
        t.p.msgs = s.p.msgs.erase m ∧ sget (fun _ => none) t.p.keep.notes n = some m.body ∧
        (t.p.rd (keeperB + R.faultMap + 4 * (n.val / 32))).getLsbD (n.val % 32) = decide (m.at 1 ≠ 0) ∧
        (t.p.prst = true ↔ s.p.prst = true ∨ ∃ src, src < 25 ∧ (m.at 3).testBit src = true ∧
          (((old.getD []).getD 3 0).testBit src = false ∨ (m.at 5).testBit src = true)) ∧
        t.p.keep = { s.p.keep with notes := t.p.keep.notes } ∧
        Only { regs := fun a => a = keeperB + R.faultMap + 4 * (n.val / 32) ∨ hostRegs a, ctrs := hostRegs, keep := True, host := True
               msgs := True, prst := True } s t)) ∧
    (∀ n : Fin 144, (s.p.coll n).act ≠ 0 → ∃ t, exec (.faultNoteTick n) s = .next t ∧
      t.p.msgs = s.p.msgs ++ [⟨0x40, n, s.p.keeperNode, [s.p.sticky n, (s.p.coll n).act, s.p.pinVec n, (s.p.coll n).prst,
        ((s.p.coll n).seq + 1) % 65536, (s.p.coll n).renew]⟩] ∧
      t.p.coll n = { s.p.coll n with seq := ((s.p.coll n).seq + 1) % 65536, renew := 0 } ∧
      Only { msgs := True, colls := fun k => k = n } s t) ∧
    (∀ n : Fin 144, (s.p.coll n).act = 0 → exec (.faultNoteTick n) s = .next s) ∧
    (∀ (n : Fin 145) (v ev : BitVec 25) (c : Fin 64), ∃ t, exec (.fcStickyWrite n v ev c) s = .next t ∧
      (∀ i, i < 25 → (t.p.sticky n).testBit i =
        ((s.p.sticky n).testBit i && !v.getLsbD i || v.getLsbD i && ev.getLsbD i)) ∧
      (∀ i, i < 25 → (t.p.coll n).act.testBit i =
        if v.getLsbD i && ev.getLsbD i then decide (s.p.reaction n i ≠ 0)
        else if v.getLsbD i && (s.p.sticky n).testBit i then false else (s.p.coll n).act.testBit i) ∧
      (v &&& ev = 0 → Only { regs := fun a => a = stickyAddr n, colls := fun k => k = n, msgs := True } s t) ∧
      (n.val < 144 → Only (May.event n) s t) ∧ (n.val = 144 → Only May.panelEvent s t))

/-- The reserve of tile n's stand can take its place (R411, R417). -/
def CanSwap (s : State) (n : Nat) : Prop :=
  let r := standCentre (standOf n)
  s.p.tget r R.tileSts_reserve = 1 ∧ s.p.tget r R.tileSts_unusable = 0 ∧ s.p.tget r R.tileMemb_in_service = 0 ∧
    s.p.tget r R.tileMemb_expelled = 0 ∧ s.p.segmentUp (standOf n) = true ∧ (s.p.tile r).rails = true ∧ r ≠ n ∧
    s.p.swapOf r = none ∧ s.p.keep.img.isSome = true

/-- What an expulsion reaches. -/
def May.expel (n : Nat) : May :=
  { regs := fun a => (∃ k, k < 144 ∧ atTile k a) ∨ hostRegs a ∨ (keeperB ≤ a ∧ a < keeperB + 0x10000)
    ctrs := fun a => atTile n a ∨ hostRegs a ∨ (keeperB ≤ a ∧ a < keeperB + 0x10000)
    cores := fun y => y.t.val = n, chans := fun y => y.t.val = n, tiles := fun k => k = n ∨ k = standCentre (standOf n)
    regions := fun k => k / 4 = n ∨ k / 4 = standCentre (standOf n), awaits := True, msgs := True, keep := True, host := True }

/-- Tile n has been expelled (R411). -/
def Expelled (n : Nat) (s t : State) : Prop :=
  t.p.tget n R.tileMemb_expelled = 1 ∧ (∀ c, c < 64 → t.p.fenced (cid n c) = true) ∧ t.p.tget n R.health_cand = 0 ∧
    (∀ r, r < 4 → (s.p.rget n r R.regionState_state = 3 ∧ (s.p.region n r).up = none) ∨
      ((t.p.region n r).commit = some 3 ∧ (t.p.region n r).hs = none ∧ (t.p.region n r).up = none)) ∧
    t.p.keep.expels = s.p.keep.expels ++ [(s.p.now, standOf n)] ∧ ⟨[n], [], false, 0, 0, []⟩ ∈ t.p.keep.changes ∧
    (CanSwap s n → t.p.keep.swaps = s.p.keep.swaps ++ [⟨standCentre (standOf n), n, none, false, s.p.swapAdmit (standCentre (standOf n))⟩]) ∧
    (¬ CanSwap s n → t.p.keep.swaps = s.p.keep.swaps) ∧ Only (May.expel n) s t

/-- The membership changes once node n's acknowledgement is recorded (R405). -/
def heard (s : State) (n : Node) (m : Msg) : List Change :=
  s.p.keep.changes.map (fun c => if c.made = true ∧ c.epoch = m.at 0 then { c with waits := c.waits.filter (· ≠ nodeNum n) } else c)

/-- R404, R405, R407, R413 and R462. -/
def Obligations.Membership : Prop :=
  ∀ (s : State), CmdsInRange s →
    (∀ c, s.p.keep.changes.find? (fun c => !c.made) = some c → (∀ l, s.p.keep.lastInc = some l → l + 100 ≤ s.p.now) →
      ∃ t, exec .epochIncrement s = .next t ∧ t.p.rd (keeperB + R.epoch) = w32 ((s.p.epoch + 1) % 65536) ∧
        t.p.msgs = s.p.msgs ++ s.p.epochNodes.map (fun n => ⟨0x50, s.p.keeperNode, n, [(s.p.epoch + 1) % 65536]⟩) ∧
        t.p.keep.lastInc = some s.p.now ∧
        (s.p.epochNodes ≠ [] →
          { c with made := true, epoch := (s.p.epoch + 1) % 65536, sent := s.p.now, waits := s.p.epochNodes } ∈ t.p.keep.changes) ∧
        Only { regs := fun a => a = keeperB + R.epoch ∨ hostRegs a, msgs := True, keep := True, host := True } s t) ∧
    ((s.p.keep.changes.all (·.made) = true ∨ ∃ l, s.p.keep.lastInc = some l ∧ s.p.now < l + 100) →
      exec .epochIncrement s = .next s) ∧
    (∀ (n : Fin 144) m, s.p.msgs.find? (fun m => m.kind == 0x50 && m.dst == n.val) = some m → m.at 0 < 65536 →
      swf (fun _ => none) (s.p.tile n).wins = true → (∀ w ∈ (s.p.tile n).wins, w.1 < 256) →
      ∃ t, exec (.epoch (.tile n)) s = .next t ∧ t.p.tget n R.tileMemb_epoch = m.at 0 ∧
        t.p.msgs = s.p.msgs.erase m ++ [⟨0x51, n, s.p.keeperNode, [m.at 0]⟩] ∧
        (∀ i v, s.p.win n i = some v → t.p.win n i =
          if v.perm.testBit 3 = false ∧ 1 ≤ (m.at 0 + 65536 - v.expiry) % 65536 ∧ (m.at 0 + 65536 - v.expiry) % 65536 ≤ 32767
          then none else some v) ∧
        (∀ i, s.p.win n i = none → t.p.win n i = none) ∧
        Only { regs := fun a => a = tileB n + R.tileMemb ∨ (tileB n + R.winMap ≤ a ∧ a < tileB n + R.winMap + 32)
               tiles := fun k => k = n, msgs := True } s t) ∧
    (∀ (d : Fin 22) m, s.p.msgs.find? (fun m => m.kind == 0x50 && m.dst == 144 + d.val) = some m →
      ∃ t, exec (.epoch (.die d)) s = .next t ∧ t.p.die d = { s.p.die d with epoch := m.at 0 } ∧
        t.p.msgs = s.p.msgs.erase m ++ [⟨0x51, 144 + d, s.p.keeperNode, [m.at 0]⟩] ∧
        Only { dies := fun k => k = d, msgs := True } s t) ∧
    (∀ (n : Node) m, s.p.findMsg 0x51 (nodeNum n) s.p.keeperNode = some m → ∃ t, exec (.epochAck n) s = .next t ∧
      t.p.msgs = s.p.msgs.erase m ∧
      t.p.keep = { s.p.keep with changes := (heard s n m).filter (fun c => !(c.made && c.waits.isEmpty)) } ∧
      (∀ c ∈ s.p.keep.changes, c.made = true → c.epoch = m.at 0 → (∀ k ∈ c.waits, k = nodeNum n) →
        ∀ k ∈ c.cmds, ∀ d, s.p.cmd k = some d → d.waits = [partEpoch] → t.p.cmd k = none) ∧
      Only { regs := hostRegs, msgs := True, keep := True, host := True } s t) ∧
    (∀ n : Fin 144, s.p.tget n R.tileMemb_lost = 0 → s.p.tget n R.tileMemb_expelled = 0 →
      ((∃ c ∈ s.p.keep.changes, c.made = true ∧ n.val ∈ c.waits ∧ c.sent + 50000 ≤ s.p.now) →
        ∃ t, exec (.epochAckTimeout n) s = .next t ∧ t.p.tget n R.tileMemb_lost = 1 ∧ Expelled n s t ∧
          ∀ c ∈ t.p.keep.changes, n.val ∉ c.waits) ∧
      (∀ r, sget (fun _ => none) s.p.keep.reports n = some r → (s.p.tile n).rails = true → r.at_ + 20000 ≤ s.p.now →
        ∃ t, exec (.heartbeatLost n) s = .next t ∧ t.p.tget n R.tileMemb_lost = 1 ∧ Expelled n s t))

/-- A tile's standing agrees with its score (R410). -/
def Standing (n : Fin 144) (t : State) : Prop :=
  (t.p.tget n R.health_score < 700 → t.p.tget n R.health_suspect = 1) ∧
    (750 ≤ t.p.tget n R.health_score → t.p.tget n R.health_suspect = 0) ∧
    (t.p.tget n R.health_score < 400 → t.p.tget n R.tileMemb_expelled = 0 → t.p.tget n R.health_cand = 1) ∧
    (450 ≤ t.p.tget n R.health_score → t.p.tget n R.health_cand = 0)

/-- What a change of a tile's score reaches. -/
def May.score (n : Fin 144) : May :=
  { regs := fun a => a = tileB n + R.health ∨ a = tileB n + R.checkCtl, cores := fun y => y.t = n
    healths := fun k => k = n, msgs := True }

/-- R409 to R412. -/
def Obligations.HealthAndGovernor : Prop :=
  ∀ (s : State),
    (∀ n : Fin 144,
      (∀ b, b = ([0, 2, 8].filter (fun i => decide (1000 ≤ sget (fun _ => 0) (s.p.health n).busy i))).length →
        ∃ t, exec (.busySecond n) s = .next t ∧ t.p.tget n R.health_score = s.p.tget n R.health_score - b ∧
          (t.p.health n).busy = [] ∧ (b ≠ 0 → Standing n t ∧ (t.p.health n).since = s.p.now) ∧
          (b = 0 → Only { healths := fun k => k = n } s t) ∧ Only (May.score n) s t) ∧
      ((s.p.tile n).rails = true → (s.p.health n).since + 60000000 ≤ s.p.now → s.p.tget n R.health_score < 1000 →
        ∃ t, exec (.healthRise n) s = .next t ∧ t.p.tget n R.health_score = s.p.tget n R.health_score + 1 ∧
          (t.p.health n).since = s.p.now ∧ Standing n t ∧ Only (May.score n) s t) ∧
      (∀ m, s.p.findMsg 0x52 n s.p.keeperNode = some m →
        (m.at 1 ≠ 2 → m.at 1 ≠ 3 → ∃ t, exec (.health n) s = .next t ∧ t.p.msgs = s.p.msgs.erase m ∧
          Only { regs := hostRegs, ctrs := hostRegs, msgs := True, host := True } s t) ∧
        (m.at 1 = 3 → ∃ t, exec (.health n) s = .next t ∧ t.p.msgs = s.p.msgs.erase m ∧
          (t.p.rd (keeperB + R.candMap + 4 * (n.val / 32))).getLsbD (n.val % 32) = false ∧
          t.p.keep = { s.p.keep with held := s.p.keep.held.filter (· ≠ n.val) } ∧
          Only { regs := fun a => a = keeperB + R.candMap + 4 * (n.val / 32) ∨ hostRegs a, ctrs := hostRegs, msgs := True
                 keep := True, host := True } s t) ∧
        (m.at 1 = 2 → s.p.govHolds n = true → ∃ t, exec (.health n) s = .next t ∧ t.p.msgs = s.p.msgs.erase m ∧
          (t.p.rd (keeperB + R.candMap + 4 * (n.val / 32))).getLsbD (n.val % 32) = true ∧ Counts (keeperB + 0x830) 1 s t ∧
          t.p.kget R.govSts_held = 1 ∧ t.p.keep = { s.p.keep with held := s.p.keep.held.filter (· ≠ n.val) ++ [n.val] } ∧
          Only { regs := fun a => a = keeperB + R.candMap + 4 * (n.val / 32) ∨ a = keeperB + R.govSts ∨ hostRegs a
                 ctrs := fun a => a = keeperB + 0x830 ∨ hostRegs a, msgs := True, keep := True, host := True } s t) ∧
        (m.at 1 = 2 → s.p.govHolds n = false → s.p.tget n R.tileMemb_expelled = 0 → CmdsInRange s →
          ∃ t, exec (.health n) s = .next t ∧
            (t.p.rd (keeperB + R.candMap + 4 * (n.val / 32))).getLsbD (n.val % 32) = true ∧ Expelled n s t)) ∧
      (s.p.tget n R.health_cand = 1 → s.p.tget n R.tileMemb_expelled = 0 → s.p.govHolds n = false → CmdsInRange s →
        ∃ t, exec (.expulsion n) s = .next t ∧ Expelled n s t) ∧
      (s.p.govHolds n = true → exec (.expulsion n) s = .next s)) ∧
    ((∀ n ∈ s.p.keep.held, s.p.govHolds n = true) → ∃ t, exec .governorTick s = .next t ∧
      Only { regs := fun a => a = keeperB + R.govSts } s t) ∧
    ((∃ n ∈ s.p.keep.held, s.p.govHolds n = false) → (∀ n ∈ s.p.keep.held, n < 144 ∧ s.p.tget n R.tileMemb_expelled = 0) →
      CmdsInRange s → ∃ t n, exec .governorTick s = .next t ∧ n ∈ s.p.keep.held ∧ s.p.govHolds n = false ∧
        (∀ k ∈ s.p.keep.held, s.p.govHolds k = false → s.p.tget n R.health_score ≤ s.p.tget k R.health_score) ∧
        n ∉ t.p.keep.held ∧ Expelled n s t)

/-- R391, R419 and R420. -/
def Obligations.StandbyKeeper : Prop :=
  ∀ (s : State),
    (s.p.keeperState (1 - s.p.activeK) = 3 → ∃ t, exec .mirror s = .next t ∧
      t.p.keep = { s.p.keep with mirror := some s.p.mirrorNow, beatMesh := s.p.now } ∧ Only { keep := True } s t) ∧
    (∃ t, exec .skidHeartbeat s = .next t ∧ t.p.keep = { s.p.keep with beatSkid := s.p.now } ∧ Only { keep := True } s t) ∧
    (∀ relayed : Bool, s.p.now ≤ s.p.keep.beatMesh + 10000 ∨ s.p.now ≤ s.p.keep.beatSkid + 10000 →
      exec (.keeperTakeover relayed) s = .next s) ∧
    (∀ relayed : Bool, s.p.keeperState (1 - s.p.activeK) = 3 → s.p.keep.beatMesh + 10000 < s.p.now →
      s.p.keep.beatSkid + 10000 < s.p.now → CmdsInRange s →
      (∀ m, s.p.keep.mirror = some m → ∀ e ∈ m.regs, (keepCtr e.1 && mirrored e.1) = true) →
      ∃ t, exec (.keeperTakeover relayed) s = .next t ∧ t.p.activeK = 1 - s.p.activeK ∧ t.p.keeperState (1 - s.p.activeK) = 2 ∧
        t.p.keeperState s.p.activeK = 0 ∧ t.p.host.cmds = [] ∧ (t.p.rd (keeperB + R.alertSts)).getLsbD 2 = true ∧
        (t.p.sticky 144).testBit 24 = true ∧ t.p.keep.incomplete = true ∧
        ((∃ l, s.p.keep.lastInc = some l ∧ s.p.now < l + 100) → t.p.keep.changes.head? = some ⟨[], [], false, 0, 0, []⟩) ∧
        ((∀ l, s.p.keep.lastInc = some l → l + 100 ≤ s.p.now) → t.p.keep.lastInc = some s.p.now ∧
          (s.p.keep.mirror = none → t.p.epoch = (s.p.epoch + 1) % 65536) ∧
          (∀ m v, s.p.keep.mirror = some m → m.regs.filter (fun e => e.1 == keeperB + R.epoch) = [(keeperB + R.epoch, v)] →
            t.p.epoch = (bits v 15 0 + 1) % 65536)) ∧
        (∀ m a v, s.p.keep.mirror = some m → m.regs.filter (fun e => e.1 == a) = [(a, v)] → a ≠ stickyAddr 144 → a ≠ keeperB + R.epoch →
          t.p.rd a = v) ∧
        (relayed = true → Only { May.panelEvent with
          regs := fun a => May.panelEvent.regs a ∨ a = globB + R.keeperSts, msgs := True } s t) ∧
        (relayed = false → ∀ k, k < 8 →
          10 ≤ t.p.linkState (mkTileEnd (if s.p.activeK = 0 then tileAt 0 6 else tileAt 11 6)
            ((if s.p.activeK = 0 then 24 else 8) + k))))

/-- The row of an opcode (Table 17.10), for a command that a PCIe error may meet. -/
def opCommand (id : CmdId) (err : Bool) : Nat → Option Instr
  | 0x01 => some (.panelQuery id) | 0x02 => some (.healthRead id) | 0x10 => some (.tileEnable id) | 0x11 => some (.tileFence id)
  | 0x12 => some (.tileReadmit id) | 0x13 => some (.coreFence id) | 0x14 => some (.coreReadmit id) | 0x18 => some (.swapReserve id)
  | 0x20 => some (.imageLoad id err) | 0x21 => some (.programLoad id err) | 0x22 => some (.programLaunch id)
  | 0x23 => some (.stepBarrier id) | 0x24 => some (.stepReplay id) | 0x30 => some (.windowOpen id) | 0x31 => some (.windowClose id)
  | 0x32 => some (.dmaCopy id) | 0x40 => some (.powerState id) | 0x41 => some (.clockSet id) | 0x42 => some (.thermalPolicy id)
  | 0x43 => some (.budgetSet id) | 0x50 => some (.resetScope id) | 0x51 => some (.routerReset id)
  | 0x58 => some (.routeTableLoad id err) | 0x60 => some (.checkPolicy id) | 0x61 => some (.selftest id) | 0x70 => some (.faultRead id)
  | 0x71 => some (.faultClear id) | 0x72 => some (.reactionSet id) | 0x80 => some (.timeSync id) | 0x90 => some (.fabricDiscover id)
  | 0x91 => some (.fabricRouteLoad id err) | 0xA0 => some (.attest id) | 0xA1 => some (.measureRead id err) | _ => none

/-- The target fields that an opcode reads and the parameter bytes that it names (R433, Table 17.10); none for a level or a scope that
is not listed. -/
def opForm (c : Cmd) : Nat → Option (Reads × List Nat)
  | 0x01 => some ({}, []) | 0x02 => some ({ t := true }, []) | 0x10 => some ({ t := true }, []) | 0x11 => some ({ t := true }, [])
  | 0x12 => some ({ t := true }, []) | 0x13 => some ({ t := true, c := true }, []) | 0x14 => some ({ t := true, c := true }, [])
  | 0x18 => some ({}, [0, 1]) | 0x20 => some ({}, span 0 13) | 0x21 => some ({ t := true }, span 0 14 ++ span 16 8)
  | 0x22 => some ({ t := true }, [0, 1] ++ span 4 12) | 0x23 => some ({}, span 0 4) | 0x24 => some ({}, span 0 4)
  | 0x30 => some ({ t := true }, [0, 1] ++ span 4 26) | 0x31 => some ({ t := true }, [0]) | 0x32 => some ({}, span 0 29)
  | 0x40 => if c.p 0 = 0 then some ({ t := true, r := true }, [0, 1]) else if c.p 0 = 1 then some ({ t := true }, [0, 1])
    else if c.p 0 = 2 then some ({}, [0, 1]) else none
  | 0x41 => some ({ t := true }, [0, 1]) | 0x42 => some ({ t := true }, span 0 5) | 0x43 => some ({}, span 0 4)
  | 0x50 => (scopeReads (c.p 0)).map (fun r => (r, [0])) | 0x51 => some ({ t := true, c := true }, [0]) | 0x58 => some ({}, span 0 12)
  | 0x60 => some ({ t := true }, [0]) | 0x61 => some ({ t := true }, span 0 8) | 0x70 => some ({ t := true }, [])
  | 0x71 => some ({ t := true }, span 0 4) | 0x72 => some ({ t := true }, span 0 5) | 0x80 => some ({}, [0, 1, 2] ++ span 8 8)
  | 0x90 => some ({}, span 0 9 ++ [10, 11]) | 0x91 => some ({}, span 0 12) | 0xA0 => some ({}, span 0 12 ++ span 16 32)
  | 0xA1 => some ({}, 0 :: span 8 8) | _ => none

/-- The descriptor is as R10, R432 and R433 want it for its opcode. -/
def Formed (c : Cmd) (op : Nat) : Prop := ∃ f, opForm c op = some f ∧ c.soiled f.1 f.2 = false

/-- Ranger takes up a command of an opcode, well formed and in conflict with no other (R436 to R438). -/
def Taken (s : State) (op : Nat) (id : CmdId) (c : Cmd) : Prop :=
  s.p.begin op id = some c ∧ Formed c op ∧ s.p.tileBusy c = false ∧ CmdsInRange s ∧ ListsInRange s ∧ c.st = 0 ∧ c.res = [] ∧ c.waits = []

/-- The commands in flight with c started. -/
def startedCmds (s : State) (c : Cmd) : List Cmd := s.p.host.cmds.map (fun d => if d.key = c.key then { c with started := true } else d)

/-- The command completes with a status and a result, and nothing but its completion and what m names changes. -/
def Completes (m : May) (c : Cmd) (st : Nat) (res : List Byte) (s t : State) : Prop :=
  t.pending = s.pending ∧ t.fuses = s.fuses ∧ ∃ q : Panel, s.p.Only { m with host := True } q ∧
    q.host = { s.p.host with cmds := startedCmds s c } ∧ t.p = q.cmdEnd c.key st res

/-- The command has started and waits for parts of its work. -/
def Waiting (c : Cmd) (parts : List Nat) (t : State) : Prop :=
  t.p.cmd c.key = some { c with started := true, waits := parts }

/-- What a command that completes writes (R430, R434). -/
def Posted (c : Cmd) (st : Nat) (res : List Byte) (s t : State) : Prop :=
  let n := c.port
  let q := s.p.qget n c.sq R.sqCfg_cq
  let tail := s.p.qget n q R.qSts_cq_tail
  let next := (tail + 1) % s.p.cqN n q
  t.p.hostRd n (s.p.cqBase n q + 32 * tail) 32 =
    toBytes 2 c.tag ++ toBytes 1 st ++ toBytes 1 (b2n (s.p.cqPhase n q)) ++ toBytes 2 c.opcode ++ toBytes 1 c.sq ++ [0] ++
      toBytes 2 (s.p.qget n c.sq R.qSts_sq_head) ++ toBytes 2 s.p.epoch ++ [0, 0, 0, 0] ++ (res ++ toBytes 16 0).take 16 ∧
    (∀ k, k < hostKey n (s.p.cqBase n q + 32 * tail) ∨ hostKey n (s.p.cqBase n q + 32 * tail) + 32 ≤ k →
      sget hostReset t.p.host.mem k = sget hostReset s.p.host.mem k) ∧
    t.p.qget n q R.qSts_cq_tail = next ∧ t.p.cqPhase n q = (if next = 0 then !s.p.cqPhase n q else s.p.cqPhase n q) ∧
    t.p.host.cmds = s.p.host.cmds.filter (fun d => d.key ≠ c.key) ∧
    (s.p.qget n q R.cqCfg_ien = 1 → bit (s.p.rd (hostB n + 0x8000 + 16 * s.p.qget n q R.cqCfg_vec + 12)) 0 = false →
      t.p.host.msix = s.p.host.msix ++ [(n, s.p.qget n q R.cqCfg_vec)]) ∧
    Only { regs := hostRegs, host := True } s t

/-- R10, R430, R432 to R434 and R437. -/
def rangerForms : Prop :=
  ∀ (s : State) (op : Nat) (id : CmdId) (err : Bool),
    (∀ i, opCommand id err op = some i → s.p.begin op id = none → exec i s = .next s) ∧
    (∀ i c, opCommand id err op = some i → s.p.begin op id = some c → ¬ Formed c op →
      exec i s = .next { s with p := s.p.cmdEnd c.key stBadParam [] }) ∧
    (∀ c, Taken s 0x01 id c → c.mute = false →
      s.p.cqBase c.port (s.p.qget c.port c.sq R.sqCfg_cq) + 131072 ≤ 2 ^ 64 → ∃ t, exec (.panelQuery id) s = .next t ∧
        Posted c 0 (toBytes 2 s.p.panelId ++ toBytes 1 (bits (s.p.rd (keeperB + R.panelState)) 1 0) ++ toBytes 1 s.p.activeK ++
          toBytes 1 ((List.range 144).filter (fun n => s.p.tget n R.tileSts_ready = 1)).length ++ [0] ++
          toBytes 2 ((List.range 9216).filter (fun k => !s.p.fenced (cidOf k))).length ++
          toBytes 4 (s.p.rd (globB + R.bootSts)).toNat ++ toBytes 2 s.p.host.cmds.length) s t)

/-- A tile, every tile or the panel, as FAULT_CLEAR and REACTION_SET name their collectors. -/
def namesColls (c : Cmd) : Prop := c.tile < 144 ∨ c.tile = 0xFE ∨ c.tile = 0xFF

/-- R329, R335, R387, R392, R394, R442, R473 and R474. -/
def immediateCommands : Prop :=
  ∀ (s : State) (id : CmdId) (c : Cmd),
    (Taken s 0x02 id c → c.tile < 144 → ∃ t, exec (.healthRead id) s = .next t ∧
      Completes {} c 0 (toBytes 2 (s.p.tget c.tile R.health_score) ++
        toBytes 1 (s.p.tget c.tile R.health_suspect + 2 * s.p.tget c.tile R.health_cand + 4 * s.p.tget c.tile R.tileMemb_expelled +
          8 * s.p.tget c.tile R.tileMemb_in_service + 16 * s.p.tget c.tile R.tileMemb_lost) ++
        toBytes 1 (s.p.tget c.tile R.tileMemb_peer) ++ toBytes 4 (s.p.rd (tileB c.tile + R.fenceMap)).toNat ++
        toBytes 4 (s.p.rd (tileB c.tile + R.fenceMap + 4)).toNat ++ toBytes 2 (s.p.tget c.tile R.tileMemb_epoch)) s t) ∧
    (∀ n acts, Taken s 0x70 id c → c.tile < 144 ∧ n = c.tile ∨ c.tile = 0xFE ∧ n = 144 →
      (∀ i, (acts : Nat).testBit i = (decide (i < 25) && (s.p.sticky n).testBit i && decide (s.p.reaction n i ≠ 0))) →
      ∃ t, exec (.faultRead id) s = .next t ∧
        Completes {} c 0 (toBytes 4 (s.p.sticky n) ++ toBytes 4 acts ++ toBytes 4 (s.p.pinVec n)) s t) ∧
    (Taken s 0x71 id c → namesColls c → c.pn 0 4 < 2 ^ 25 → ∃ t, exec (.faultClear id) s = .next t ∧
      (∀ n ∈ collsOf c, ∀ i, i < 25 → (t.p.sticky n).testBit i = ((s.p.sticky n).testBit i && !(c.pn 0 4).testBit i)) ∧
      Completes { regs := fun a => ∃ n ∈ collsOf c, a = stickyAddr n, colls := fun n => n ∈ collsOf c, msgs := True } c 0 [] s t) ∧
    (Taken s 0x72 id c → namesColls c → c.pn 0 4 < 2 ^ 25 → c.p 4 ≤ 5 → ∃ t, exec (.reactionSet id) s = .next t ∧
      (∀ n ∈ collsOf c, n = 144 ∨ (s.p.tile n).rails = true → ∀ i, i < 25 →
        t.p.reaction n i = if (c.pn 0 4).testBit i then c.p 4 else s.p.reaction n i) ∧
      t.p.meas 7 = sha256 (s.p.meas 7 ++ toBytes 64 c.desc.toNat) ∧
      Completes { regs := fun a => ∃ n ∈ collsOf c, reactAddr n ≤ a ∧ a < reactAddr n + 16, colls := fun n => n ∈ collsOf c
                  msgs := True, keep := True } c 0 [] s t) ∧
    (Taken s 0x60 id c → c.tile < 144 ∧ s.p.gone c.tile = false ∨ c.tile = 0xFF → c.p 0 < 4 → ∃ t, exec (.checkPolicy id) s = .next t ∧
      (∀ n ∈ s.p.named c, t.p.tget n R.checkCtl_policy = c.p 0 ∧
        t.p.tget n R.checkCtl_eff = if s.p.tget n R.checkCtl_suspect = 1 then 3 else c.p 0) ∧
      t.p.meas 7 = sha256 (s.p.meas 7 ++ toBytes 64 c.desc.toNat) ∧
      Completes { regs := fun a => ∃ n ∈ s.p.named c, a = tileB n + R.checkCtl, cores := fun y => y.t.val ∈ s.p.named c
                  keep := True } c 0 [] s t) ∧
    (Taken s 0x43 id c → 10000 ≤ c.pn 0 2 → c.pn 0 2 ≤ 41676 → 60 ≤ c.pn 2 2 → c.pn 2 2 ≤ 310 →
      ∃ t, exec (.budgetSet id) s = .next t ∧ t.p.kget R.panelBudget_panel = c.pn 0 2 ∧ t.p.kget R.panelBudget_tile_max = c.pn 2 2 ∧
        t.p.rd (keeperB + R.panelBudgetEff) = w32 (c.pn 0 2 * (10 - s.p.keep.lowered) / 10) ∧
        Completes { regs := fun a => a = keeperB + R.panelBudget ∨ a = keeperB + R.panelBudgetEff ∨ a = keeperB + R.coolSts } c 0 [] s t) ∧
    (Taken s 0x42 id c → c.tile < 144 ∧ s.p.gone c.tile = false ∨ c.tile = 0xFF → c.pn 0 4 &&& 0x7000FF00 = 0 → c.p 4 ≤ 1 →
      ∃ t, exec (.thermalPolicy id) s = .next t ∧
        (∀ n ∈ s.p.named c, t.p.tget n R.thermCtl_hold = max 60 (min 100 (c.pn 0 1)) ∧
          (∀ i : Nat, 8 ≤ i → i < 32 → (t.p.rd (tileB n + R.thermCtl)).getLsbD i = (c.pn 0 4).testBit i) ∧
          (c.p 4 = 0 → t.p.tile n = s.p.tile n) ∧
          t.p.tile n = { s.p.tile n with coef := (t.p.tile n).coef }) ∧
        Completes { regs := fun a => ∃ n ∈ s.p.named c, a = tileB n + R.thermCtl, tiles := fun n => n ∈ s.p.named c } c 0 [] s t) ∧
    (∀ err : Bool, Taken s 0xA1 id c → c.p 0 ≤ 7 → s.p.bootDone 1 = true → ∃ t, exec (.measureRead id err) s = .next t ∧
      (err = true → Completes {} c stHwFault [] s t) ∧
      (err = false → t.pending = s.pending ∧ t.fuses = s.fuses ∧ ∃ q : Panel, s.p.Only { host := True } q ∧
        q.host.cmds = startedCmds s c ∧ t.p = q.cmdEnd c.key 0 [] ∧
        (c.pn 8 8 + (s.p.meas (c.p 0)).length ≤ 2 ^ 64 →
          q.hostRd c.port (c.pn 8 8) (s.p.meas (c.p 0)).length = s.p.meas (c.p 0))))

/-- R10, R430, R432 to R434, R437 and R442. -/
def Obligations.RangerFormsAndQueries : Prop := rangerForms ∧ immediateCommands

/-- A recovery command may act: its epoch is the panel's, and no change of its tiles settles (R406). -/
def Current (s : State) (c : Cmd) (tiles : List Nat) : Prop := c.epoch = s.p.epoch ∧ s.p.settling tiles = false

/-- A membership change that a command waits for has been asked (R404). -/
def Changed (n : Nat) (c : Cmd) (t : State) : Prop :=
  ⟨[n], [c.key], false, 0, 0, []⟩ ∈ t.p.keep.changes ∧ Waiting c [partEpoch] t

/-- R401, R402, R404, R406, R417 and R442. -/
def Obligations.TileAndFenceCommands : Prop :=
  ∀ (s : State) (id : CmdId) (c : Cmd),
    (Taken s 0x10 id c → c.tile < 144 → s.p.gone c.tile = false → s.p.serving c.tile = true →
      (∀ r, r < 4 → s.p.tooHot c.tile r = false) → ∃ t, exec (.tileEnable id) s = .next t ∧
        (∀ r, r < 4 → 2 ≤ s.p.rget c.tile r R.regionState_state → (t.p.region c.tile r).up.isSome = true ∧
          (t.p.region c.tile r).cmds = (s.p.region c.tile r).cmds ++ [c.key]) ∧
        (∀ r, r < 4 → s.p.rget c.tile r R.regionState_state < 2 → t.p.region c.tile r = s.p.region c.tile r) ∧
        ((∀ r, r < 4 → s.p.rget c.tile r R.regionState_state < 2) → Completes {} c 0 [] s t) ∧
        (∀ rs, rs = (List.range 4).filter (fun r => decide (2 ≤ s.p.rget c.tile r R.regionState_state)) → rs ≠ [] →
          Waiting c (rs.map (partRegion c.tile)) t ∧
          Only { regs := fun a => ∃ r, r < 4 ∧ a = regionB c.tile r + R.regionState, regions := fun k => k / 4 = c.tile
                 tiles := fun k => k = c.tile, host := True } s t)) ∧
    (Taken s 0x11 id c → c.tile < 144 →
      ((∀ k, k < 64 → s.p.fenced (cid c.tile k) = true) → ∃ t, exec (.tileFence id) s = .next t ∧ Completes {} c 0 [] s t) ∧
      ((∃ k, k < 64 ∧ s.p.fenced (cid c.tile k) = false) →
        (c.epoch ≠ s.p.epoch → ∃ t, exec (.tileFence id) s = .next t ∧ Completes {} c stEpochStale [] s t) ∧
        (Current s c [c.tile] → s.p.gone c.tile = false → ∃ t, exec (.tileFence id) s = .next t ∧
          (∀ k, k < 64 → t.p.fenced (cid c.tile k) = true) ∧ Changed c.tile c t ∧ Only (May.expel c.tile) s t))) ∧
    (Taken s 0x12 id c → c.tile < 144 → (∃ k, k < 64 ∧ s.p.readmittable (cid c.tile k) = true) → Current s c [c.tile] →
      ∃ t, exec (.tileReadmit id) s = .next t ∧ t.p.tget c.tile R.tileMemb_expelled = 0 ∧ t.p.tget c.tile R.tileMemb_lost = 0 ∧
        t.p.tget c.tile R.health_score = 800 ∧ t.p.tget c.tile R.health_suspect = 0 ∧ t.p.tget c.tile R.health_cand = 0 ∧
        (∀ k, k < 64 → t.p.fenced (cid c.tile k) = (s.p.fenced (cid c.tile k) && !s.p.readmittable (cid c.tile k))) ∧
        Changed c.tile c t ∧
        Only { regs := atTile c.tile, cores := fun y => y.t.val = c.tile, msgs := True, keep := True, host := True } s t) ∧
    (∀ x : Cid, Taken s 0x13 id c → c.tile = x.t → c.core = x.c →
      (s.p.fenced x = true → ∃ t, exec (.coreFence id) s = .next t ∧ Completes {} c 0 [] s t) ∧
      (s.p.fenced x = false → Current s c [x.t] → s.p.gone x.t = false → s.p.usable x = true →
        ∃ t, exec (.coreFence id) s = .next t ∧ t.p.fenced x = true ∧ Changed x.t c t ∧
          (s.p.serving x.t = false ∨ 60 < (s.p.liveCores x.t).length → ∀ y, y ≠ x → t.p.core y = s.p.core y ∧ t.p.fenced y = s.p.fenced y) ∧
          Only (May.expel x.t) s t)) ∧
    (∀ x : Cid, Taken s 0x14 id c → c.tile = x.t → c.core = x.c →
      (s.p.fenced x = false → ∃ t, exec (.coreReadmit id) s = .next t ∧ Completes {} c 0 [] s t) ∧
      (s.p.readmittable x = true → Current s c [x.t] → s.p.gone x.t = false → ∃ t, exec (.coreReadmit id) s = .next t ∧
        t.p.fenced x = false ∧ Changed x.t c t ∧
        Only { regs := fun a => a = tileB x.t + R.fenceMap + 4 * (x.c.val / 32), keep := True, host := True } s t)) ∧
    (∀ r n, Taken s 0x18 id c → r = c.p 0 → n = c.p 1 → r < 144 → n < 144 → r ≠ n → standCentre (standOf n) = r →
      s.p.tget r R.tileMemb_in_service = 0 → Current s c [r, n] → s.p.swapConflict r n = false →
      (s.p.segmentUp (standOf n) = true → ∃ t, exec (.swapReserve id) s = .next t ∧
        t.p.keep.swaps = s.p.keep.swaps ++ [⟨r, n, some c.key, false, s.p.swapAdmit r⟩] ∧
        (s.p.tilePeak r = [] → ∀ k, k < 4 → (t.p.region r k).up.isSome = true) ∧
        (s.p.tilePeak r ≠ [] → ∀ k, t.p.region r k = s.p.region r k) ∧
        Waiting c [partEpoch] t ∧
        Only { regs := atTile r, regions := fun k => k / 4 = r, tiles := fun k => k = r, keep := True, host := True } s t) ∧
      (s.p.segmentUp (standOf n) = false → ∃ t, exec (.swapReserve id) s = .next t ∧ Completes {} c stHwFault [] s t))

/-- R87, R361, R414, R415, R442 and R473. -/
def Obligations.ProgramCommands : Prop :=
  ∀ (s : State) (id : CmdId) (c : Cmd),
    (∀ err : Bool, Taken s 0x20 id c → c.pn 0 8 % 4096 = 0 → c.p 12 ≤ 1 → s.p.loadBusy = false →
      (c.p 12 = 0 → c.pn 8 4 ≤ 2 * 2 ^ 20 + 65536 → s.p.bootDone 4 = true → s.p.anyRuns = false →
        ∃ t b, exec (.imageLoad id err) s = .next t ∧ t.p.keep.boot = some b ∧ b.cmd = some c.key ∧ t.p.gget R.bootSts_busy = 1 ∧
          t.p.gget R.bootSts_step = 6 ∧ Waiting c [partBoot] t ∧ t.fuses = s.fuses ∧
          (err = true → b.st = stHwFault ∧ t.p.chans = s.p.chans) ∧
          (err = false → verifyImage s.fuses s.p.activeK 2 (s.p.hostRd c.port (c.pn 0 8) (min (c.pn 8 4) 16544)) = none →
            b.st = stAuthFail ∧ t.p.chans = s.p.chans)) ∧
      (c.p 12 = 1 → 65536 ≤ c.pn 8 4 → c.pn 8 4 ≤ 16 * 2 ^ 20 → s.p.bootDone 1 = true →
        ∃ t b, exec (.imageLoad id err) s = .next t ∧ t.p.keep.boot = some b ∧ b.cmd = some c.key ∧ t.p.gget R.bootSts_busy = 1 ∧
          t.p.gget R.bootSts_step = 1 ∧ Waiting c [partBoot] t ∧ OnlySvn s.fuses t.fuses ∧ t.pending = s.pending ∧
          (err = true → b.st = stHwFault ∧ t.fuses = s.fuses) ∧
          s.p.Only { regs := fun a => a = globB + R.bootSts ∨ a = globB + R.keeperSts, keep := True, host := True } t.p)) ∧
    (∀ err : Bool, Taken s 0x21 id c → (progChecks c s.p).find? (·.1) = none → ∃ t, exec (.programLoad id err) s = .next t ∧
      (err = true → Completes {} c stHwFault [] s t) ∧
      (∀ named live, err = false → named = maskCores (s.p.namedServing c) (c.pn 16 8) →
        live = named.filter (fun x => s.p.usable x && !s.p.fenced x) →
        (∀ x ∈ live, (t.p.core x).seq = (s.p.core x).seq.setBundles (c.pn 12 2) (bundlesOf (s.p.hostRd c.port (c.pn 0 8) (c.pn 8 4)))) ∧
        t.p.meas 6 = sha256 (s.p.meas 6 ++ (toBytes 1 c.tile ++ toBytes 2 (c.pn 12 2) ++ toBytes 8 (c.pn 16 8) ++
          sha256 (s.p.hostRd c.port (c.pn 0 8) (c.pn 8 4)))) ∧
        Completes { cores := fun x => x ∈ live, keep := True } c 0 (toBytes 2 live.length ++ toBytes 2 (named.length - live.length)) s t)) ∧
    (∀ live, Taken s 0x22 id c → live = s.p.launchable c → c.tile < 144 ∧ s.p.gone c.tile = false ∨ c.tile = 0xFF → c.pn 0 2 < 2048 →
      s.p.rd (keeperB + R.panelState) = 0 →
      (∀ x ∈ live, s.p.regionState x = 0 ∧ s.p.running x = false ∧ s.p.startBusy x = false) →
      ∃ t, exec (.programLaunch id) s = .next t ∧
        (∀ x ∈ live, t.p.seqState x = 1 ∧ t.p.pc x = c.pn 0 2 ∧ (t.p.core x).seq.sreg 1 = w32 (c.pn 4 4)) ∧
        t.p.keep = { s.p.keep with launch := live.map (·.key), launchPc := c.pn 0 2 } ∧
        Completes { regs := fun a => ∃ x ∈ live, seqRegs x a, cores := fun x => x ∈ live, keep := True } c 0
          (toBytes 2 live.length) s t) ∧
    (Taken s 0x23 id c → s.p.keep.launch ≠ [] →
      (s.p.allHalted = false → ∃ t, exec (.stepBarrier id) s = .next t ∧ Waiting c [partStep] t ∧ Only { host := True } s t) ∧
      (s.p.allHalted = true → (∀ d ∈ s.p.host.cmds, d.key ≠ c.key → d.waits.contains partStep = false) →
        ∃ t q, exec (.stepBarrier id) s = .next t ∧ t.p = Panel.cmdEnd q c.key 0 (toBytes 4 (w32 (c.pn 0 4)).toNat) ∧
          q.rd (keeperB + R.stepSts) = w32 (c.pn 0 4) ∧
          s.p.Only { regs := fun a => a = keeperB + R.stepSts ∨ ∃ n, n < 144 ∧ atTile n a, host := True } q ∧
          t.fuses = s.fuses ∧ t.pending = s.pending)) ∧
    (Taken s 0x24 id c → w32 (c.pn 0 4) = s.p.rd (keeperB + R.stepSts) + 1 →
      Current s c ((s.p.launchSet.map (·.t.val)).eraseDups) →
      (∀ x ∈ s.p.launchSet, s.p.heldRegion x = false ∧ s.p.regionState x ≤ 1 ∧ s.p.bad.contains x.key = false) → s.p.launchSet ≠ [] →
      ∃ t parts, exec (.stepReplay id) s = .next t ∧ t.p.keep = { s.p.keep with replay := some (c.pn 0 4) } ∧
        (∀ x ∈ s.p.launchSet, (t.p.core x).resetting = true ∧ partReset x.t x.c ∈ parts) ∧ Waiting c parts t ∧
        Only { regs := fun a => ∃ x ∈ s.p.launchSet, atCore x a, cores := fun x => x ∈ s.p.launchSet
               chans := fun x => x ∈ s.p.launchSet, awaits := True, keep := True, host := True } s t)

/-- R108, R306, R307, R314 to R319, R442, R459 and R462. -/
def Obligations.WindowCopyPowerCommands : Prop :=
  ∀ (s : State) (id : CmdId) (c : Cmd),
    (Taken s 0x30 id c → c.tile < 144 → s.p.winBad c = false → s.p.gone c.tile = false →
      s.p.win c.tile (c.p 0) = none ∨ s.p.win c.tile (c.p 0) = some (winOf c) → ∃ t, exec (.windowOpen id) s = .next t ∧
        (∀ i, t.p.win c.tile i = if i = c.p 0 then some (winOf c) else s.p.win c.tile i) ∧
        (t.p.rd (tileB c.tile + R.winMap + 4 * (c.p 0 / 32))).getLsbD (c.p 0 % 32) = true ∧
        Completes { regs := fun a => a = tileB c.tile + R.winMap + 4 * (c.p 0 / 32), tiles := fun k => k = c.tile } c 0 [] s t) ∧
    (Taken s 0x31 id c → c.tile < 144 → s.p.gone c.tile = false →
      (s.p.win c.tile (c.p 0) = none → ∃ t, exec (.windowClose id) s = .next t ∧ Completes {} c 0 [] s t) ∧
      (s.p.win c.tile (c.p 0) ≠ none → (∀ d ∈ s.p.host.cmds, d.key ≠ c.key → d.waits.contains partWin = false) →
        ∃ t, exec (.windowClose id) s = .next t ∧ t.p.win c.tile (c.p 0) = none ∧
          (t.p.rd (tileB c.tile + R.winMap + 4 * (c.p 0 / 32))).getLsbD (c.p 0 % 32) = false ∧
          (s.p.winBusy c.tile (c.p 0) = true → Waiting c [partWin] t) ∧ (s.p.winBusy c.tile (c.p 0) = false → t.p.cmd c.key = none) ∧
          Only { regs := fun a => a = tileB c.tile + R.winMap + 4 * (c.p 0 / 32) ∨ hostRegs a, tiles := fun k => k = c.tile
                 host := True } s t)) ∧
    (∀ tag h, Taken s 0x32 id c → (copyChecks c s.p).find? (·.1) = none → isHostMem (c.pn 16 4) = true → c.pn 24 4 ≤ 4096 →
      (s.p.die (16 + c.port)).jobs = [] → (s.p.die (16 + c.port)).apers = [] → s.p.dieTag (16 + c.port) = some tag →
      h = { Header.blank with cls := (if c.p 28 = 1 then clsBulk else clsStream), kind := kWrite, length := c.pn 24 4 / 64
                              dst := c.pn 20 4, src := s.p.dieDma (16 + c.port), xfer := tag, offset := c.pn 8 8 } →
      s.p.check3 (rtrDie (16 + c.port)) h = true → ∃ t f, exec (.dmaCopy id) s = .next t ∧ Waiting c [partCopy] t ∧
        t.p.flights = s.p.flights ++ [f] ∧ f.loc = rtrDie (16 + c.port) ∧
        f.flits = mkFlits { h with epoch := s.p.epochAt (rtrDie (16 + c.port)) % 256, hops := 0, det := 0, fan := false }
          (codeBytes (s.p.hostRd c.port (c.pn 0 8) (c.pn 24 4))) ∧
        Only { dies := fun d => d = 16 + c.port, flights := True, awaits := True, host := True } s t) ∧
    (Taken s 0x40 id c → (powerChecks c s.p).find? (·.1) = none →
      (∀ st, c.p 0 = 0 → st = s.p.rget c.tile c.region R.regionState_state → ∃ t, exec (.powerState id) s = .next t ∧
        (st = c.p 1 → Completes {} c 0 (toBytes 1 (c.p 1)) s t) ∧
        (c.p 1 = 0 → 2 ≤ st → (t.p.region c.tile c.region).up.isSome = true ∧ Waiting c [partRegion c.tile c.region] t) ∧
        (c.p 1 = 0 → st = 1 → t.p.rget c.tile c.region R.regionState_state = 0 ∧ t.p.cmd c.key = none) ∧
        (st ≠ c.p 1 → c.p 1 ≠ 0 → st ≠ 2 → (∃ h, (t.p.region c.tile c.region).hs = some h ∧ h.target = c.p 1 ∧ h.start = s.p.now) ∧
          t.p.rget c.tile c.region R.regionState_hs = 1 ∧ Waiting c [partRegion c.tile c.region] t) ∧
        Only { May.states c.tile with keep := True } s t) ∧
      (c.p 0 = 1 → ∃ t, exec (.powerState id) s = .next t ∧
        (c.p 1 = 3 → (t.p.tile c.tile).rails = false) ∧
        (c.p 1 = 0 → (s.p.tile c.tile).rails = true → Completes {} c 0 [0] s t) ∧
        (c.p 1 = 0 → (s.p.tile c.tile).rails = false → s.p.segmentUp (standOf c.tile) = true →
          t.p.keep = { s.p.keep with queue := s.p.keep.queue ++ [c.tile] } ∧ Waiting c [partTile c.tile] t ∧
          Only { keep := True, host := True } s t) ∧ t.fuses = s.fuses) ∧
      (c.p 0 = 2 → c.p 1 ≤ 1 → s.p.rd (keeperB + R.panelState) ≠ w32 (c.p 1) → ∃ t, exec (.powerState id) s = .next t ∧
        t.p.rd (keeperB + R.panelState) = w32 (c.p 1) ∧ t.p.keep = { s.p.keep with served := true } ∧
        Completes { regs := fun a => a = keeperB + R.panelState, keep := True } c 0 (toBytes 1 (c.p 1)) s t) ∧
      (c.p 0 = 2 → c.p 1 = 2 → s.p.rd (keeperB + R.panelState) = 1 → ∃ t, exec (.powerState id) s = .next t ∧
        t.p.rd (keeperB + R.panelState) = 2 ∧ (∀ n, n < 144 → (t.p.tile n).rails = false) ∧
        (∀ d, d < 20 → t.p.die d = DieSt.zero) ∧ (∀ n, t.p.portUp n = false ∨ 4 ≤ n) ∧ t.fuses = s.fuses)) ∧
    (Taken s 0x41 id c → c.tile < 144 → s.p.gone c.tile = false → c.p 0 < 16 → 32 ≤ c.p 1 → c.p 1 ≤ 132 →
      c.p 1 ≤ bits (s.p.rd (tileB c.tile + R.vfPoint + 28)) 7 0 → ∃ t, exec (.clockSet id) s = .next t ∧
      (∀ r, r < 4 → (c.p 0).testBit r = true → s.p.pinLow c.tile r (c.p 1) = false →
        (s.p.dcoOn c.tile r = false → t.p.rget c.tile r R.dcoCtl_target = c.p 1 ∧ t.p.rget c.tile r R.dcoCtl_pend = 1)) ∧
      (∀ r, r < 4 → (c.p 0).testBit r = false ∨ s.p.pinLow c.tile r (c.p 1) = true →
        t.p.rget c.tile r R.dcoCtl_target = s.p.rget c.tile r R.dcoCtl_target ∧ (t.p.region c.tile r).vf = (s.p.region c.tile r).vf) ∧
      Only (May.clocks c.tile) s t)

/-- R281, R287, R289, R370, R372, R375 to R377, R396, R442, R443, R452, R456, R473 and R475. -/
def Obligations.ResetRouteFabricCommands : Prop :=
  ∀ (s : State) (id : CmdId) (c : Cmd),
    (Taken s 0x50 id c → (scopeChecks c s.p).find? (·.1) = none →
      (c.p 0 ≤ 3 → (∃ x ∈ s.p.scopeCores c, s.p.regionState x ≤ 1 ∧ s.p.bad.contains x.key = false) →
        (∀ x ∈ s.p.scopeCores c, (s.p.region x.t (regionOf x.c)).up = none) →
        ∃ t parts, exec (.resetScope id) s = .next t ∧ Waiting c parts t ∧
          (∀ x ∈ s.p.scopeCores c, s.p.regionState x ≤ 1 → s.p.bad.contains x.key = false →
            (t.p.core x).resetting = true ∧ partReset x.t x.c ∈ parts) ∧
          (∀ x, x ∉ s.p.scopeCores c → t.p.core x = s.p.core x) ∧ (∀ x, (t.p.chan x).cells = (s.p.chan x).cells) ∧
          t.fuses = s.fuses ∧ t.p.routers = s.p.routers ∧ (∀ n, (t.p.tile n).rails = (s.p.tile n).rails)) ∧
      (8 ≤ c.p 0 → ∃ t, exec (.resetScope id) s = .next t ∧
        t.p.keep = { s.p.keep with drains := s.p.keep.drains ++
          [((s.p.scopeCores c).map (·.key) ++ (if c.p 0 = 0xB then [legacyPanel] else []), s.p.now, [c.key])] } ∧
        Waiting c (partDrain :: (s.p.scopeCores c).map (fun x => partRouter (rtrCore x.t x.c))) t ∧
        Only { keep := True, host := True } s t)) ∧
    (∀ x : Cid, Taken s 0x51 id c → c.tile = x.t → c.core = x.c → c.p 0 ≤ 1 → s.p.gone x.t = false →
      (c.p 0 = 0 → s.p.routerFree x = false → ∃ t, exec (.routerReset id) s = .next t ∧ Completes {} c stConflict [] s t) ∧
      (c.p 0 = 1 ∨ s.p.routerFree x = true → s.p.inReset x = false → ∃ t, exec (.routerReset id) s = .next t ∧
        t.p.router (rtrCore x.t x.c) = { Router.zero with resetting := true } ∧ Waiting c [partRouter (rtrCore x.t x.c)] t ∧
        (s.p.regionState x ≤ 1 → s.p.bad.contains x.key = false → (t.p.core x).resetting = true) ∧
        (t.p.chan x).cells = (s.p.chan x).cells ∧
        Only { regs := fun a => atTile x.t a ∨ hostRegs a, cores := fun y => y = x, chans := fun y => y = x
               routers := fun n => n = rtrCore x.t x.c, links := fun n => n / 32 = x.t, flights := True, awaits := True
               host := True } s t)) ∧
    (∀ err : Bool,
      (Taken s 0x58 id c → (routeChecks false err 2 c s.p).find? (·.1) = none → ∃ t, exec (.routeTableLoad id err) s = .next t ∧
        (err = true → Completes {} c stHwFault [] s t) ∧
        (err = false → t.p.meas 5 = sha256 (s.p.meas 5 ++ sha256 (s.p.hostRd c.port (c.pn 0 8) (c.pn 8 4))) ∧
          (∀ r ∈ (routeCheck false (c.pn 8 4) (s.p.hostRd c.port (c.pn 0 8) (c.pn 8 4))).2,
            (∀ es n e, r.tiles = some es → es[n]? = some e → n < 144 → t.p.tileEntry (rtrCore r.t r.c) n = e) ∧
            (∀ es k e, r.cores = some es → es[k]? = some e → k < 64 → t.p.coreEntry (rtrCore r.t r.c) k = e) ∧
            (∀ q, q < 4 → t.p.portState (rtrCore r.t r.c) q ≠ 2)) ∧
          Completes { regs := fun a => ∃ x : Cid, a = coreB x.t x.c + R.rtrPort, routers := fun n => n < 9216
                      links := fun _ => True, keep := True } c 0 [] s t)) ∧
      (Taken s 0x91 id c → (routeChecks true err 4 c s.p).find? (·.1) = none → ∃ t, exec (.fabricRouteLoad id err) s = .next t ∧
        (err = true → Completes {} c stHwFault [] s t) ∧
        (err = false → (∀ q, q < 64 → t.p.ykState q = if s.p.ykState q = 6 then 3 else s.p.ykState q) ∧ t.p.cmd c.key = none ∧
          (∀ r ∈ (routeCheck true (c.pn 8 4) (s.p.hostRd c.port (c.pn 0 8) (c.pn 8 4))).2, (s.p.tile r.t).rails = true →
            ∀ es i e, r.remote = some es → es[i]? = some e → i < 4096 → t.p.remoteEntry (rtrCore r.t r.c) i = e) ∧
          (∀ y, t.p.core y = s.p.core y ∧ t.p.chan y = s.p.chan y) ∧ t.fuses = s.fuses))) ∧
    (Taken s 0x61 id c → c.tile < 144 → s.p.gone c.tile = false → s.p.testTargets c ≠ [] →
      (∀ x ∈ s.p.testTargets c, s.p.regionState x = 0 ∧ s.p.running x = false ∧ s.p.startBusy x = false ∧ s.p.testing x = false) →
      ∃ t, exec (.selftest id) s = .next t ∧ Waiting c ((s.p.testTargets c).map (fun x => partTest x.t x.c)) t ∧
        (∀ x ∈ s.p.testTargets c, t.p.cget x R.selftestRes_run = 1) ∧
        (∀ k : Fin 64, (c.pn 0 8).testBit k = true → s.p.usable (cid c.tile k) = false →
          t.p.cget (cid c.tile k) R.selftestRes_result = 0) ∧
        Only { regs := fun a => ∃ k, k < 64 ∧ a = coreB c.tile k + R.selftestRes, host := True } s t) ∧
    (Taken s 0x80 id c → c.p 0 ≤ 1 → c.p 1 ≤ 3 → c.p 2 ≤ 63 → s.p.bootDone 1 = true → ∃ t, exec (.timeSync id) s = .next t ∧
      t.p.timeSrc = (if c.p 1 = 3 ∧ s.p.dieTime (c.p 2 / 4) = false then 0 else c.p 1) ∧ t.p.kget R.ptcCtl_yport = c.p 2 ∧
      (t.p.timeSrc ≤ 1 → t.p.rd (keeperB + R.kPtcRate) = 0) ∧
      (c.p 0 = 1 → s.p.ptc s.p.keeperNode = none → t.p.keep.ptcInit = some (c.pn 8 8)) ∧
      (∀ m, c.p 0 = 1 → s.p.ptc s.p.keeperNode = some m → t.p.ptc s.p.keeperNode =
        some { m with val := c.pn 8 8 % 2 ^ 64 * Sys2Proof.Machine.ptcNs, slew := 0 }) ∧
      Completes { regs := fun a => a = keeperB + R.ptcCtl ∨ a = keeperB + R.kPtcRate ∨ a = s.p.ptcStsAt s.p.keeperNode
                  ctrs := fun a => a = keeperB + 0x810, ptcs := fun n => n = s.p.keeperNode, keep := True } c 0
        (toBytes 1 t.p.timeSrc) s t) ∧
    (Taken s 0x90 id c → c.p 8 ≤ 1 → c.pn 10 2 < 4096 → s.p.bootDone 4 = true → s.p.loadBusy = false →
      s.p.keep.fab.disc = none → ∃ t, exec (.fabricDiscover id) s = .next t ∧
        t.p.kget R.ykFabSts_auto = (if c.p 8 = 0 then 1 else 0) ∧
        (∀ q, q < 64 → (c.pn 0 8).testBit q = false → t.p.ykState q = 0) ∧
        (∀ q, q < 64 → (c.pn 0 8).testBit q = true → s.p.ykState q = 0 ∨ s.p.ykState q = 5 → t.p.ykState q = 1) ∧
        (c.p 8 = 1 → t.p.panelId = c.pn 10 2 ∧ t.p.kget R.ykFabSts_held = 1) ∧
        (∀ q, q < 64 → (c.pn 0 8).testBit q = true → s.p.ykState q < 3 ∨ s.p.ykState q = 5 → Waiting c [partFabric] t) ∧
        (∀ y, t.p.core y = s.p.core y ∧ t.p.chan y = s.p.chan y) ∧ t.fuses = s.fuses) ∧
    (Taken s 0xA0 id c → 16624 + (s.p.aliasCertNow s.fuses).length ≤ c.pn 8 4 → s.p.bootDone 1 = true → s.p.canSign = true →
      ∃ t r total, exec (.attest id) s = .next t ∧ total = 16624 + (s.p.aliasCertNow s.fuses).length ∧
        t.p.keep = { s.p.keep with signs := s.p.keep.signs ++ [r] } ∧ r.cmd = some c.key ∧ r.port = c.port ∧ r.host = c.pn 0 8 ∧
        r.msg = s.p.reportHead s.fuses (toBytes 32 (c.pn 16 32)) total ∧
        t.p.cmd c.key = some { c with started := true, waits := [partSign], res := toBytes 4 total } ∧
        Only { keep := True, host := True } s t)

/-- Nothing of the panel but the host's side and the queues' registers changes. -/
def QueueFrame (s t : State) : Prop := Only { regs := hostRegs, host := True } s t

/-- R425, R426, R428, R429, R431, R435 and R439. -/
def Obligations.QueuesAndApertures : Prop :=
  ∀ (s : State) (n : Fin 4) (q : Fin 64), s.p.portUp n = true →
    (∀ (cq : Fin 64) (size : BitVec 12),
      (s.p.qget n q R.sqCfg_en = 0 → s.p.sqBase n q % 4096 = 0 → s.p.qget n cq R.cqCfg_en = 1 →
        ∃ t, exec (.sqEnable n q cq size) s = .next t ∧ t.p.qget n q R.sqCfg_en = 1 ∧ t.p.qget n q R.sqCfg_cq = cq.val ∧
          t.p.qget n q R.sqCfg_size = size.toNat ∧ t.p.qget n q R.qSts_sq_head = 0 ∧ t.p.sqTail n q = 0 ∧ QueueFrame s t) ∧
      (s.p.qget n q R.sqCfg_en = 0 → s.p.sqBase n q % 4096 ≠ 0 ∨ s.p.qget n cq R.cqCfg_en = 0 →
        ∃ t, exec (.sqEnable n q cq size) s = .next t ∧ t.p.qget n q R.sqCfg_en = 0 ∧ t.p.qget n q R.qSts_cfg_err = 1 ∧
          t.p.host = s.p.host ∧ QueueFrame s t) ∧
      (s.p.qget n q R.sqCfg_en = 1 → s.p.qget n q R.sqCfg_size = size.toNat → ∃ t, exec (.sqDisable n q cq size) s = .next t ∧
        t.p.qget n q R.sqCfg_en = 0 ∧ t.p.host = s.p.host ∧ QueueFrame s t) ∧
      (s.p.qget n q R.sqCfg_en = 1 → s.p.qget n q R.sqCfg_size ≠ size.toNat → ∃ t, exec (.sqDisable n q cq size) s = .next t ∧
        t.p.qget n q R.sqCfg_en = 1 ∧ t.p.qget n q R.qSts_cfg_err = 1 ∧ t.p.host = s.p.host ∧ QueueFrame s t)) ∧
    (∀ (ien : Bool) (vec : BitVec 11) (size : BitVec 12),
      (s.p.qget n q R.cqCfg_en = 0 → s.p.cqBase n q % 4096 = 0 → ∃ t, exec (.cqEnable n q ien vec size) s = .next t ∧
        t.p.qget n q R.cqCfg_en = 1 ∧ t.p.qget n q R.cqCfg_ien = b2n ien ∧ t.p.qget n q R.cqCfg_vec = vec.toNat ∧
        t.p.qget n q R.qSts_cq_tail = 0 ∧ t.p.cqHead n q = 0 ∧ t.p.cqPhase n q = true ∧ QueueFrame s t) ∧
      (s.p.qget n q R.cqCfg_en = 0 → s.p.cqBase n q % 4096 ≠ 0 → ∃ t, exec (.cqEnable n q ien vec size) s = .next t ∧
        t.p.qget n q R.cqCfg_en = 0 ∧ t.p.qget n q R.qSts_cfg_err = 1 ∧ t.p.host = s.p.host ∧ QueueFrame s t) ∧
      (s.p.qget n q R.cqCfg_en = 1 → s.p.qget n q R.cqCfg_size = size.toNat →
        ((∀ k, k < 64 → s.p.qget n k R.sqCfg_en = 0 ∨ s.p.qget n k R.sqCfg_cq ≠ q.val) →
          ∃ t, exec (.cqDisable n q ien vec size) s = .next t ∧ t.p.qget n q R.cqCfg_en = 0 ∧ t.p.host = s.p.host ∧ QueueFrame s t) ∧
        ((∃ k, k < 64 ∧ s.p.qget n k R.sqCfg_en = 1 ∧ s.p.qget n k R.sqCfg_cq = q.val) →
          ∃ t, exec (.cqDisable n q ien vec size) s = .next t ∧ t.p.qget n q R.cqCfg_en = 1 ∧ t.p.qget n q R.qSts_cfg_err = 1 ∧
            t.p.host = s.p.host ∧ QueueFrame s t))) ∧
    (∀ v : BitVec 32,
      (s.p.qget n q R.sqCfg_en = 1 → v.toNat < s.p.sqN n q → ∃ t, exec (.sqTailDoorbell n q v) s = .next t ∧
        t.p.sqTail n q = v.toNat ∧ (∀ k, k < 64 → k ≠ q.val → t.p.sqTail n k = s.p.sqTail n k) ∧ Only { host := True } s t) ∧
      (s.p.qget n q R.sqCfg_en = 0 ∨ s.p.sqN n q ≤ v.toNat → ∃ t, exec (.sqTailDoorbell n q v) s = .next t ∧
        t.p.qget n q R.qSts_db_err = 1 ∧ t.p.host = s.p.host ∧ QueueFrame s t) ∧
      (s.p.qget n q R.cqCfg_en = 1 → v.toNat < s.p.cqN n q → ∃ t, exec (.cqHeadDoorbell n q v) s = .next t ∧
        t.p.cqHead n q = v.toNat ∧ (∀ k, k < 64 → k ≠ q.val → t.p.cqHead n k = s.p.cqHead n k) ∧ Only { host := True } s t) ∧
      (s.p.qget n q R.cqCfg_en = 0 ∨ s.p.cqN n q ≤ v.toNat → ∃ t, exec (.cqHeadDoorbell n q v) s = .next t ∧
        t.p.qget n q R.qSts_db_err = 1 ∧ t.p.host = s.p.host ∧ QueueFrame s t)) ∧
    (∀ d : BitVec 512, s.p.host.arb.pick 256 s.p.ready = some (64 * n.val + q.val) → s.p.host.cmds.length < 4096 →
      d = BitVec.ofNat 512 (ofBytes (s.p.hostRd n (s.p.sqBase n q + 64 * s.p.qget n q R.qSts_sq_head) 64)) →
      (∃ t, exec (.commandFetch true) s = .next t ∧ t.p.qget n q R.sqCfg_en = 0 ∧ t.p.qget n q R.qSts_err = 1 ∧
        t.p.host.cmds = s.p.host.cmds ∧ QueueFrame s t) ∧
      (∃ t, exec (.commandFetch false) s = .next t ∧ QueueFrame s t ∧
        t.p.qget n q R.qSts_sq_head = (s.p.qget n q R.qSts_sq_head + 1) % s.p.sqN n q ∧
        (opcodes.contains (bits d 15 0) = true → s.p.cmd (n.val, bits d 31 16) = none →
          t.p.host.cmds = s.p.host.cmds ++ [⟨n, q, bits d 31 16, d, s.p.now, false, [], 0, [], false⟩]) ∧
        (opcodes.contains (bits d 15 0) = false ∨ (s.p.cmd (n.val, bits d 31 16)).isSome = true → t.p.host.cmds = s.p.host.cmds))) ∧
    (∀ (tag : BitVec 16) (c : Cmd), s.p.cmd (n.val, tag.toNat) = some c → CmdsInRange s →
      (s.p.now < c.taken + 1000 * c.tmo → exec (.commandTimeout ⟨n, tag⟩) s = .next s) ∧
      (c.taken + 1000 * c.tmo ≤ s.p.now → c.started = false →
        exec (.commandTimeout ⟨n, tag⟩) s = .next { s with p := s.p.cmdEnd c.key stTimeout [] }) ∧
      (c.taken + 1000 * c.tmo ≤ s.p.now → ∃ t, exec (.commandTimeout ⟨n, tag⟩) s = .next t ∧ t.p.cmd c.key = none ∧ t.fuses = s.fuses)) ∧
    (∀ (i : Fin 64) (off : BitVec 30) (m : BitVec 32) (ep : Nat), m = s.p.aperMap n i → ep = bits m 28 0 →
      (∀ data : List (BitVec 8), data ≠ [] →
        (off.toNat % 64 ≠ 0 ∨ data.length % 64 ≠ 0 ∨ m.getLsbD 31 = false ∨ m.getLsbD 30 = false ∨ aperSize ep ≤ off.toNat →
          ∃ t, exec (.apertureWrite n i off data) s = .next t ∧ Counts (hostB n + 0xA00) 1 s t ∧
            Only { ctrs := fun a => a = hostB n + 0xA00 } s t) ∧
        (off.toNat % 64 = 0 → data.length % 64 = 0 → m.getLsbD 31 = true → m.getLsbD 30 = true → off.toNat < aperSize ep →
          ∃ t, exec (.apertureWrite n i off data) s = .next t ∧
            t.p = (s.p.updDie (16 + n) (fun d => { d with
              apers := d.apers ++ [⟨ep, off.toNat, data.length, some data, false, [], [], false⟩] })).diePump (16 + n))) ∧
      (∀ len : Fin 4097, len ≠ 0 →
        (m.getLsbD 31 = false ∨ aperSize ep ≤ off.toNat → ∃ t, exec (.apertureRead n i off len) s = .next t ∧
          t.p.host = { s.p.host with out := s.p.host.out ++ [(n.val, List.replicate len 255)] } ∧ Counts (hostB n + 0xA00) 1 s t ∧
          Only { ctrs := fun a => a = hostB n + 0xA00, host := True } s t) ∧
        (m.getLsbD 31 = true → off.toNat < aperSize ep → ∃ t, exec (.apertureRead n i off len) s = .next t ∧
          t.p = (s.p.updDie (16 + n) (fun d => { d with
            apers := d.apers ++ [⟨ep, off.toNat, len, none, false, [], [], false⟩] })).diePump (16 + n))))

/-- What a change of a Yelkor port reaches: the panel collector, the ports, the trunks, and, where the panel's id changes, the windows of
its tiles. -/
def May.fabric : May :=
  { May.panelEvent with
    regs := fun a => May.panelEvent.regs a ∨ ∃ n, n < 144 ∧ tileB n + R.winMap ≤ a ∧ a < tileB n + R.winMap + 32
    tiles := fun n => n < 144, links := fun n => ∃ q, q < 64 ∧ n = ykKey q, dies := fun d => d < 16 }

/-- A port has gone DOWN (R449). -/
def YkWentDown (q : Fin 64) (s t : State) : Prop :=
  t.p.ykState q = 5 ∧ Counts (keeperB + 0xA000 + 0x20 * q.val + 8) 1 s t ∧ (t.p.sticky 144).testBit 10 = true ∧
    (t.p.yk q).replay = [] ∧ (∀ k, k < 64 → k ≠ q.val → t.p.ykState k = s.p.ykState k) ∧ Only May.fabric s t

/-- R446 to R451, R453 and R465. -/
def Obligations.YelkorPorts : Prop :=
  ∀ (q : Fin 64) (s : State), CmdsInRange s → ListsInRange s →
    (∀ ok r200 : Bool,
      (s.p.ykState q ≠ 1 → exec (.yelkorLaneTrainingEnd q ok r200) s = .next s) ∧
      (s.p.ykState q = 1 → ok = true → ∃ t, exec (.yelkorLaneTrainingEnd q ok r200) s = .next t ∧ t.p.ykState q = 2 ∧
        (t.p.rd (ykReg q)).getLsbD 27 = r200 ∧
        t.p.yk q = { s.p.yk q with out := (s.p.yk q).out ++ [(s.p.helloOf q (identOf s.fuses)).setWidth 512] } ∧
        Only { regs := fun a => a = ykReg q, links := fun n => n = ykKey q } s t) ∧
      (s.p.ykState q = 1 → ok = false → sget (fun _ => 0) s.p.keep.fab.since q + 1000000 ≤ s.p.now →
        ∃ t, exec (.yelkorLaneTrainingEnd q ok r200) s = .next t ∧ YkWentDown q s t) ∧
      (s.p.ykState q = 1 → ok = false → s.p.now < sget (fun _ => 0) s.p.keep.fab.since q + 1000000 →
        exec (.yelkorLaneTrainingEnd q ok r200) s = .next s)) ∧
    (∀ (cell : BitVec 704) (fec : Bool) (tm : BitVec 32),
      (s.p.ykUp q = false → exec (.yelkorCell q cell fec tm) s = .next s) ∧
      (s.p.ykUp q = true → fec = true ∨ cellCrc cell ≠ cell.extractLsb' 672 32 → ∃ t, exec (.yelkorCell q cell fec tm) s = .next t ∧
        Counts (keeperB + 0xA000 + 0x20 * q.val) 1 s t ∧ (t.p.sticky 144).testBit 8 = true ∧
        t.p.yk q = { s.p.yk q with discard := true, nakDue := true } ∧
        Only { May.panelEvent with links := fun n => n = ykKey q } s t) ∧
      (s.p.ykActive q = true → fec = false → cellCrc cell = cell.extractLsb' 672 32 → bits cell 653 652 = 0 → bits cell 623 622 = 1 →
        ∃ t, exec (.yelkorCell q cell fec tm) s = .next t ∧
          sget (fun _ => (0 : Int)) (t.p.yk q).cred (bits cell 621 619) = sget (fun _ => (0 : Int)) (s.p.yk q).cred (bits cell 621 619) +
            ((bits cell 671 656 + 65536 - sget (fun _ => 0) (s.p.yk q).ccnt (bits cell 621 619)) % 65536 : Int) ∧
          ((s.p.yk q).expect = bits cell 635 624 → (t.p.yk q).expect = (bits cell 635 624 + 1) % 4096 ∧ (t.p.yk q).discard = false) ∧
          ((s.p.yk q).expect ≠ bits cell 635 624 → (t.p.yk q).expect = (s.p.yk q).expect ∧ t.p.flights = s.p.flights) ∧
          (t.p.flights = s.p.flights ∨ ∃ f, t.p.flights = s.p.flights ++ [f] ∧ f.stage = .yelkor ∧ f.loc = rtrDie (q.val / 4)) ∧
          Only { links := fun n => n = ykKey q, flights := True } s t) ∧
      (s.p.ykUp q = true → fec = false → cellCrc cell = cell.extractLsb' 672 32 → bits cell 653 652 = 0 → bits cell 623 622 = 2 →
        ykByte (cell.extractLsb' 0 256) 0 = 5 → s.p.ykActive q = true → ∃ t, exec (.yelkorCell q cell fec tm) s = .next t ∧
          (t.p.yk q).out = (s.p.yk q).out ++ [(ykMsg ([6, 0, 0, 0] ++ toBytes 4 tm.toNat ++
            (List.range 8).map (fun i => BitVec.ofNat 8 (ykByte (cell.extractLsb' 0 256) (8 + i))))).setWidth 512] ∧
          Only { links := fun n => n = ykKey q } s t)) ∧
    ((s.p.ykActive q = false ∨ (s.p.yk q).replay = [] ∨ s.p.now < (s.p.yk q).ackAt + 20 →
        exec (.yelkorReplayTimeout q) s = .next s) ∧
      (∀ m, s.p.ykActive q = true → (s.p.yk q).replay ≠ [] → (s.p.yk q).ackAt + 20 ≤ s.p.now →
        m = (s.p.yk q).replay.foldl (fun (m : SMap Nat) f => supd (fun _ => 0) m f.1 (· + 1)) (s.p.yk q).resent →
        ((∀ r ∈ m, r.2 < 16) → ∃ t, exec (.yelkorReplayTimeout q) s = .next t ∧
          t.p.yk q = { s.p.yk q with ackAt := s.p.now, nakAt := none, resent := m } ∧ Only { links := fun n => n = ykKey q } s t) ∧
        ((∃ r ∈ m, 16 ≤ r.2) → ∃ t, exec (.yelkorReplayTimeout q) s = .next t ∧ YkWentDown q s t))) ∧
    (∀ n : BitVec 32, s.p.ykUp q = true → ∃ t, exec (.ykMarginWindow q n) s = .next t ∧
      Counts (keeperB + 0xA000 + 0x20 * q.val + 16) n.toNat s t ∧
      (s.p.kget R.ykMarginTh_limit < n.toNat → (t.p.sticky 144).testBit 9 = true) ∧
      (n.toNat ≤ s.p.kget R.ykMarginTh_limit → Only { ctrs := fun a => a = keeperB + 0xA000 + 0x20 * q.val + 16 } s t) ∧
      Only May.panelEvent s t) ∧
    ((s.p.ykUp q = true → ∃ t, exec (.helloTick q) s = .next t ∧
        t.p.yk q = { s.p.yk q with out := (s.p.yk q).out ++ [(s.p.helloOf q (identOf s.fuses)).setWidth 512] } ∧
        Only { links := fun n => n = ykKey q } s t) ∧
      (s.p.ykUp q = false → exec (.helloTick q) s = .next s)) ∧
    (∀ m : BitVec 256,
      (s.p.ykUp q = false → exec (.hello q m) s = .next s) ∧
      (s.p.ykUp q = true → ykByte m 1 / 16 = 0 ∨ 2 ≤ ykByte m 1 % 16 → ∃ t, exec (.hello q m) s = .next t ∧ YkWentDown q s t) ∧
      (s.p.ykUp q = true → 1 ≤ ykByte m 1 / 16 → ykByte m 1 % 16 ≤ 1 →
        (∀ peer, (s.p.die (q / 4)).peer = none ∨ (s.p.die (q / 4)).peer = some peer → peer = (bits m 127 64, ykByte m 3) →
          ∃ t, exec (.hello q m) s = .next t ∧
            t.p.ykState q = (if s.p.ykActive q = true then s.p.ykState q else if (s.p.yk q).avoid = true then 6 else 3) ∧
            bits (t.p.rd (ykReg q)) 26 24 = 1 ∧ bits (t.p.rd (ykReg q)) 11 0 = bits m 59 48 ∧
            (t.p.die (q / 4)).peer = some peer ∧ (s.p.ykActive q = false → (t.p.yk q).expect = 0 ∧ (t.p.yk q).replay = []) ∧
            sget (fun _ => none) t.p.keep.fab.heard q = some ⟨bits m 191 128, ykByte m 24 % 64, s.p.now⟩ ∧ Only May.fabric s t) ∧
        (∀ peer, (s.p.die (q / 4)).peer = some peer → peer ≠ (bits m 127 64, ykByte m 3) → ∃ t, exec (.hello q m) s = .next t ∧
          t.p.ykState q = 4 ∧ (t.p.die (q / 4)).peer = some peer ∧ sget (fun _ => none) t.p.keep.fab.heard q = none ∧
          Only May.fabric s t)))

/-- R289, R452 to R454, R457, R463 and R464. -/
def Obligations.YelkorFabricAndTime : Prop :=
  ∀ (s : State) (own : Nat), own = identOf s.fuses → CmdsInRange s → ListsInRange s →
    ((∀ e ∈ s.p.keep.fab.heard, ∀ r, e.2 = some r → s.p.now < r.at_ + 50000) → exec .rootExpiry s = .next s) ∧
    (swf (fun _ => none) s.p.keep.fab.heard = true → (∃ e ∈ s.p.keep.fab.heard, ∃ r, e.2 = some r ∧ r.at_ + 50000 ≤ s.p.now) →
      ∃ t, exec .rootExpiry s = .next t ∧ Only May.fabric s t ∧ ∀ q, sget (fun _ => none) t.p.keep.fab.heard q =
        match sget (fun _ => none) s.p.keep.fab.heard q with
        | some r => if r.at_ + 50000 ≤ s.p.now then none else some r
        | none => none) ∧
    (∀ (q : Fin 64) (ident : BitVec 64),
      (s.p.ykActive q = false → exec (.idReq q ident) s = .next s) ∧
      (∀ i, s.p.ykActive q = true → s.p.isRoot = true → s.p.freeId = some i → ∃ t, exec (.idReq q ident) s = .next t ∧
        (∀ c ∈ s.p.keep.fab.claims, c.2 ≠ i) ∧ (∀ k, k < i → ∃ c ∈ s.p.keep.fab.claims, c.2 = k) ∧
        t.p.keep = { s.p.keep with fab := { s.p.keep.fab with claims := s.p.keep.fab.claims ++ [(ident.toNat, i)] } } ∧
        t.p.yk q = { s.p.yk q with out := (s.p.yk q).out ++ [(idMsg 0x63 ident.toNat i).setWidth 512] } ∧
        Only { links := fun n => n = ykKey q, keep := True } s t) ∧
      (∀ up, s.p.ykActive q = true → s.p.isRoot = false → s.p.keep.fab.parent = some up → ∃ t, exec (.idReq q ident) s = .next t ∧
        (ident.toNat, q.val) ∈ t.p.keep.fab.paths ∧ (t.p.yk up).out = (s.p.yk up).out ++ [(idMsg 0x61 ident.toNat 0).setWidth 512] ∧
        Only { links := fun n => n = ykKey up, keep := True } s t)) ∧
    (∀ (q : Fin 64) (ident : BitVec 64) (id : BitVec 12), s.p.ykActive q = true → s.p.isRoot = true →
      (s.p.keep.fab.claims.find? (fun c => c.2 == id.toNat) = none → ∃ t, exec (.idClaim q ident id) s = .next t ∧
        (ident.toNat, id.toNat) ∈ t.p.keep.fab.claims ∧
        (t.p.yk q).out = (s.p.yk q).out ++ [(idMsg 0x63 ident.toNat id.toNat).setWidth 512] ∧
        Only { links := fun n => n = ykKey q, keep := True } s t) ∧
      (∀ c, s.p.keep.fab.claims.find? (fun c => c.2 == id.toNat) = some c → ∃ t, exec (.idClaim q ident id) s = .next t ∧
        (t.p.yk q).out = (s.p.yk q).out ++
          [(idMsg (if c.1 = ident.toNat then 0x63 else 0x64) ident.toNat id.toNat).setWidth 512] ∧
        Only { links := fun n => n = ykKey q } s t)) ∧
    (∀ (ident : BitVec 64) (id : BitVec 12),
      (ident.toNat = own → s.p.kget R.ykFabSts_held = 0 → ∃ t, exec (.idGrant ident id) s = .next t ∧ t.p.panelId = id.toNat ∧
        t.p.kget R.ykFabSts_held = 1 ∧ (id.toNat ≠ s.p.panelId → ∀ n, n < 144 → ∀ i, t.p.win n i = none) ∧ Only May.fabric s t) ∧
      (ident.toNat = own → s.p.kget R.ykFabSts_held = 1 → exec (.idGrant ident id) s = .next s) ∧
      (∀ q, ident.toNat ≠ own → s.p.keep.fab.paths.find? (fun e => e.1 == ident.toNat) = some (ident.toNat, q) →
        ∃ t, exec (.idGrant ident id) s = .next t ∧
          (t.p.yk q).out = (s.p.yk q).out ++ [(idMsg 0x63 ident.toNat id.toNat).setWidth 512] ∧
          (∀ e ∈ t.p.keep.fab.paths, e.1 ≠ ident.toNat) ∧ Only { links := fun n => n = ykKey q, keep := True } s t) ∧
      (ident.toNat = own → s.p.kget R.ykFabSts_auto = 0 → ∃ t, exec (.idRefuse ident id) s = .next t ∧
        t.p.kget R.ykFabSts_dup = 1 ∧ t.p.kget R.ykFabSts_held = s.p.kget R.ykFabSts_held ∧ t.p.panelId = s.p.panelId ∧
        Only { regs := fun a => a = keeperB + R.ykFabSts ∨ hostRegs a, ctrs := hostRegs, host := True } s t) ∧
      (∀ up, ident.toNat = own → s.p.kget R.ykFabSts_auto = 1 → s.p.isRoot = false → s.p.keep.fab.parent = some up →
        ∃ t, exec (.idRefuse ident id) s = .next t ∧ t.p.kget R.ykFabSts_dup = 1 ∧ t.p.kget R.ykFabSts_held = 0 ∧
          (t.p.yk up).out = (s.p.yk up).out ++ [(idMsg 0x61 own 0).setWidth 512] ∧
          Only { regs := fun a => a = keeperB + R.ykFabSts ∨ hostRegs a, ctrs := hostRegs, links := fun n => n = ykKey up
                 host := True } s t)) ∧
    (∀ (id : Nat) (f : Flight), s.p.flight id = some f → f.stage = .yelkor →
      (s.p.kget R.ykFabSts_held = 0 ∨ s.p.kget R.ykFabSts_dup = 1 → ∃ t, exec (.yelkorReceive id) s = .next t ∧
        t.p.flights = s.p.flights.filter (fun g => g.id ≠ id) ∧ Only { links := fun n => n = ykKey f.base, flights := True } s t) ∧
      (s.p.kget R.ykFabSts_held = 1 → s.p.kget R.ykFabSts_dup = 0 → f.hdrOk = true → ∃ t g, exec (.yelkorReceive id) s = .next t ∧
        t.p.flight id = some g ∧ g.stage = .transit ∧ g.loc = f.loc ∧
        g.flits = (f.fixHdr.setHdr { f.fixHdr.hdr with epoch := s.p.epochAt f.loc % 256 }).flits ∧
        (∀ h ∈ s.p.flights, h.id ≠ id → h ∈ t.p.flights) ∧ Only { links := fun n => n = ykKey f.base, flights := True } s t)) ∧
    (s.p.ptcBit s.p.keeperNode 31 = false → exec .ytimeTick s = .next s) ∧
    (s.p.ptcBit s.p.keeperNode 31 = true → ∃ t, exec .ytimeTick s = .next t ∧
      (∀ q : Fin 64, t.p.yk q = if s.p.ykActive q = true ∧ s.p.dieTime (q / 4) = true ∧ sget (fun _ => false) s.p.keep.fab.tsync q = true then
        { s.p.yk q with out := (s.p.yk q).out ++ [(ykMsg ([0x65, BitVec.ofNat 8 s.p.ykHops,
          BitVec.ofNat 8 (1 + 2 * b2n (s.p.ptcBit s.p.keeperNode 30)), 0] ++ toBytes 4 (s.p.rd (s.p.ptcRateAt s.p.keeperNode)).toNat ++
          toBytes 8 (s.p.ptcNs s.p.keeperNode))).setWidth 512] }
        else s.p.yk q) ∧
      Only { links := fun n => ∃ q, q < 64 ∧ n = ykKey q } s t) ∧
    (∀ (q : Fin 64) (m : BitVec 256),
      (s.p.ytimeOk q m = false → exec (.ytime q m) s = .next s) ∧
      (∀ c e, s.p.ytimeOk q m = true → s.p.ptc s.p.keeperNode = some c →
        e = timeOffset (BitVec.ofNat 68 (16 * bits m 127 64 + ykByte m 16 % 16)) (BitVec.ofNat 68 (16 * bits m 255 192 + ykByte m 17 % 16))
          ((sget (fun _ => none) s.p.keep.fab.delay q).getD 0) →
        ∃ t, exec (.ytime q m) s = .next t ∧
          (s.p.ptcBit s.p.keeperNode 31 = true → e.natAbs ≤ 16000 →
            t.p.ptc s.p.keeperNode = some { c with slew := e, last := s.p.now }) ∧
          (s.p.ptcBit s.p.keeperNode 31 = false ∨ 16000 < e.natAbs →
            t.p.ptc s.p.keeperNode = some { c.step e with last := s.p.now }) ∧
          t.p.ptcBit s.p.keeperNode 30 = false ∧
          -200000 ≤ (t.p.rd (s.p.ptcRateAt s.p.keeperNode)).toInt ∧ (t.p.rd (s.p.ptcRateAt s.p.keeperNode)).toInt ≤ 200000 ∧
          t.p.keep.fab = { s.p.keep.fab with thops := ykByte m 1 + 1, ytAt := s.p.now, ytOff := e } ∧
          Only { regs := fun a => a = s.p.ptcStsAt s.p.keeperNode ∨ a = s.p.ptcRateAt s.p.keeperNode, ctrs := fun a => a = keeperB + 0x810
                 ptcs := fun n => n = s.p.keeperNode, free := True, keep := True } s t)) ∧
    (s.p.timeSrc = 3 → (s.p.ptc s.p.keeperNode).isSome = true → s.p.keep.fab.ytAt + 3000 ≤ s.p.now →
      ∃ t, exec .ytimeHoldover s = .next t ∧ t.p.ptcBit s.p.keeperNode 30 = true ∧
        Only { regs := fun a => a = s.p.ptcStsAt s.p.keeperNode } s t) ∧
    (∀ q : Fin 64, s.p.ykActive q = true → ∃ t, exec (.portDelayTick q) s = .next t ∧
      sget (fun _ => (0, 0)) t.p.keep.fab.pongs q = (0, 0) ∧
      t.p.yk q = { s.p.yk q with out := (s.p.yk q).out ++
        [(ykMsg ([5, 0, 0, 0, 0, 0, 0, 0] ++ toBytes 8 (s.p.now * 2000))).setWidth 512] } ∧
      Only { links := fun n => n = ykKey q, keep := True } s t)

/-- A response has been sent on a port, and no other. -/
def Doe (port : Fin 4) (m : List (BitVec 8)) (s t : State) : Prop :=
  t.p.host = { s.p.host with doe := s.p.host.doe ++ [(port.val, m)] }

/-- The SPDM requests (R477). -/
def IsSpdm (port : Fin 4) (req : List (BitVec 8)) (i : Instr) : Prop :=
  i = .getVersion port req ∨ i = .getCapabilities port req ∨ i = .negotiateAlgorithms port req ∨ i = .getDigests port req ∨
  i = .getCertificate port req ∨ i = .challenge port req ∨ i = .getMeasurements port req ∨ i = .chunkSend port req ∨
  i = .chunkGet port req

/-- The SPDM responder answers on a port: the active keeper runs its image, and the link is up. -/
def Responds (s : State) (port : Fin 4) : Prop := s.p.keeperState s.p.activeK = 2 ∧ s.p.portUp port = true

/-- What SPDM reaches. -/
def May.spdm : May := { keep := True, host := True, free := True }

/-- R467, R470, R475 to R477. -/
def Obligations.TrustServices : Prop :=
  ∀ (s : State),
    (∀ k : Fin 2,
      (s.p.keep.ring = true → ∃ t, exec (.deviceidDerived k) s = .next t ∧ t.p.trust k = { s.p.trust k with devid := true } ∧
        t.p.trust (1 - k.val) = s.p.trust (1 - k.val) ∧ Only { keep := True } s t) ∧
      (s.p.keep.ring = false → exec (.deviceidDerived k) s = .next s) ∧
      ((s.p.trust k).devid = true → (s.p.trust k).header.isSome = true → 2 ≤ s.p.keeperState k → ∃ t,
        exec (.aliasDerived k) s = .next t ∧ t.p.trust k = { s.p.trust k with akey := true } ∧
        t.p.trust (1 - k.val) = s.p.trust (1 - k.val) ∧ Only { keep := True } s t) ∧
      ((s.p.trust k).devid = false ∨ (s.p.trust k).header = none ∨ s.p.keeperState k < 2 → exec (.aliasDerived k) s = .next s)) ∧
    (∀ r rs sig, s.p.keep.signs = r :: rs → sig = r.pre ++ Config.slhSign (s.p.aliasNow s.fuses) r.msg ++ r.post →
      (∀ (k : Nat × Nat) (c : Cmd) (err : Bool), r.cmd = some k → s.p.cmd k = some c → c.waits = [partSign] → CmdsInRange s →
        ∃ t q, exec (.signatureDone err) s = .next t ∧ t.p.keep = { s.p.keep with signs := rs } ∧ t.fuses = s.fuses ∧
          t.p = Panel.cmdEnd q k (if c.st ≠ 0 then c.st else if err = true then stHwFault else stOk) (q.cmdResult c) ∧
          s.p.Only { keep := True, host := True } q ∧
          (err = false → r.host + sig.length ≤ 2 ^ 64 → q.hostRd r.port r.host sig.length = sig) ∧
          (err = true → q.host.mem = s.p.host.mem)) ∧
      (∀ (port : Fin 4) (err : Bool), r.cmd = none → r.port = port.val → ∃ t, exec (.signatureDone err) s = .next t ∧
        t.p.keep.signs = rs ∧ Only { keep := True, host := True } s t ∧
        Doe port [0x13, 0x7F, 0x0F, 0, 1] s t ∧ (t.p.conn port).outbound = sig)) ∧
    (∀ err : Bool, s.p.keep.signs = [] → exec (.signatureDone err) s = .next s) ∧
    (∀ (port : Fin 4) (req : List (BitVec 8)) (c : Spdm), c = s.p.conn port →
      (¬ Responds s port → ∀ i, IsSpdm port req i → exec i s = .next s) ∧
      (Responds s port →
        (∃ t, exec (.getVersion port req) s = .next t ∧ Doe port [0x10, 0x04, 0, 0, 0, 1, 0x00, 0x13] s t ∧
          (t.p.conn port).stage = 1 ∧ (t.p.conn port).mlog = [] ∧ Only May.spdm s t) ∧
        (c.stage = 1 → ∃ t e, exec (.getCapabilities port req) s = .next t ∧
          Doe port ([0x13, 0x61, 0, 0, 0, e, 0, 0] ++ toBytes 4 0x20016 ++ toBytes 4 4096 ++ toBytes 4 65536) s t ∧
          (t.p.conn port).stage = 2 ∧ Only May.spdm s t) ∧
        (c.stage = 2 → ∃ t, exec (.negotiateAlgorithms port req) s = .next t ∧ (t.p.conn port).stage = 3 ∧
          ((t.p.conn port).ext = true ↔ ∃ i, i < num req 28 1 ∧ num req (32 + 4 * i) 4 = Config.slhAlg.toNat) ∧ Only May.spdm s t) ∧
        (c.stage ≠ 1 → ∃ t, exec (.getCapabilities port req) s = .next t ∧ Doe port (spdmError 4) s t ∧ Only { host := True } s t) ∧
        (c.stage ≠ 2 → ∃ t, exec (.negotiateAlgorithms port req) s = .next t ∧ Doe port (spdmError 4) s t ∧ Only { host := True } s t) ∧
        (c.stage ≠ 3 → ∀ i ∈ [Instr.getDigests port req, .getCertificate port req, .challenge port req, .getMeasurements port req],
          ∃ t, exec i s = .next t ∧ Doe port (spdmError 4) s t ∧ Only { host := True } s t) ∧
        (c.stage = 3 → (s.p.trust s.p.activeK).akey = true →
          (∃ t, exec (.getDigests port req) s = .next t ∧ Doe port ([0x13, 0x01, 1, 1] ++ sha256 (s.p.certChain s.fuses)) s t ∧
            (t.p.conn port).stage = 3 ∧ Only May.spdm s t) ∧
          (∀ off n, off = num req 4 2 → num req 2 1 = 0 → off < (s.p.certChain s.fuses).length →
            n = min (min (num req 6 2) ((s.p.certChain s.fuses).length - off)) 4088 → ∃ t, exec (.getCertificate port req) s = .next t ∧
              Doe port ([0x13, 0x02, 0, 0] ++ toBytes 2 n ++ toBytes 2 ((s.p.certChain s.fuses).length - off - n) ++
                slice (s.p.certChain s.fuses) off n) s t ∧ Only May.spdm s t)) ∧
        (c.stage = 3 → c.ext = true → num req 2 1 = 0 → num req 3 1 = 0 → s.p.canSign = true →
          ∃ t nonce r, exec (.challenge port req) s = .next t ∧ (nonce : List (BitVec 8)).length = 32 ∧ t.p.host = s.p.host ∧
            t.p.keep.signs = s.p.keep.signs ++ [r] ∧ r.cmd = none ∧ r.port = port.val ∧
            r.pre = [0x13, 0x03, 0, 1] ++ sha256 (s.p.certChain s.fuses) ++ nonce ++ [0, 0] ++ slice req 36 8 ∧
            r.msg = spdmToSign "responder-challenge_auth signing" (c.vca ++ c.certs ++ req ++ r.pre) ∧ Only May.spdm s t) ∧
        (∀ op, c.stage = 3 → op = num req 3 1 → 1 ≤ op → op ≤ 8 → num req 2 1 % 2 = 0 →
          ∃ t nonce, exec (.getMeasurements port req) s = .next t ∧ (nonce : List (BitVec 8)).length = 32 ∧
            ((s.p.meas (op - 1)).length = 32 → Doe port ([0x13, 0x60, 0, 0, 1] ++ toBytes 3 39 ++ s.p.measBlock op ++ nonce ++ [0, 0] ++
              slice req 4 8) s t) ∧ Only May.spdm s t) ∧
        (∀ data, c.stage ≠ 0 → num req 4 2 = 0 → num req 2 1 % 2 = 0 → data = slice req 16 (num req 8 4) → data.length = num req 8 4 →
          c.inbound.length + data.length ≤ 65536 → ∃ t, exec (.chunkSend port req) s = .next t ∧
            Doe port ([0x13, 0x05, 0] ++ slice req 3 1 ++ [0, 0]) s t ∧ (t.p.conn port).inbound = data ∧ (t.p.conn port).inSeq = 1 ∧
            Only May.spdm s t) ∧
        (∀ d, c.outbound ≠ [] → c.outSeq = 0 → num req 4 2 = 0 → d = slice c.outbound 0 4080 → ∃ t, exec (.chunkGet port req) s = .next t ∧
          Doe port ([0x13, 0x06, BitVec.ofNat 8 (b2n (decide (c.outbound.length ≤ 4080)))] ++ slice req 3 1 ++ [0, 0] ++ [0, 0] ++
            toBytes 4 d.length ++ toBytes 4 c.outbound.length ++ d) s t ∧
          (4080 < c.outbound.length → (t.p.conn port).outSeq = 1 ∧ (t.p.conn port).outbound = c.outbound) ∧ Only May.spdm s t)))

/-- What a plain write leaves in a register (R11, R479). -/
def plainValue (a : Nat) (old v : BitVec 32) : BitVec 32 :=
  match rowAt a with
  | some r => (old &&& ~~~ (w32 r.rw) &&& ~~~ (v &&& w32 r.w1c)) ||| (v &&& w32 r.rw)
  | none => old

/-- R391, R441, R449, R479, R481, R494, R496, R502 and R511. -/
def Obligations.RegistersAndSideband : Prop :=
  ∀ (s : State),
    (∀ (x : Cid) (v : BitVec 32),
      (s.p.computeDead x = false → ∃ t, exec (.srSeedLoWrite x v) s = .next t ∧ t.p.crd x R.srSeed = v ∧ t.p.lfsr x = s.p.lfsr x ∧
        Only { regs := fun a => a = coreB x.t x.c + R.srSeed, cores := fun y => y = x } s t) ∧
      (s.p.computeDead x = false → ∃ t, exec (.srSeedHiWrite x v) s = .next t ∧ t.p.crd x (R.srSeed + 4) = v ∧
        t.p.lfsr x = (if v.toNat = 0 ∧ (s.p.crd x R.srSeed).toNat = 0 then 1
          else BitVec.ofNat 64 ((s.p.crd x R.srSeed).toNat + 2 ^ 32 * v.toNat)) ∧
        t.p.core x = { s.p.core x with lfsr := (t.p.core x).lfsr } ∧
        Only { regs := fun a => a = coreB x.t x.c + R.srSeed + 4, cores := fun y => y = x } s t) ∧
      (s.p.computeDead x = true → exec (.srSeedLoWrite x v) s = .next s ∧ exec (.srSeedHiWrite x v) s = .next s)) ∧
    (∀ (n : Fin 4) (w : BitVec 24) (a : Nat), a = 4 * w.toNat →
      (s.p.portUp n = false → exec (.loReadLatch n w) s = .next s ∧ ∀ be v, exec (.registerWrite n w be v) s = .next s) ∧
      (s.p.portUp n = true → s.p.blkReachable n (blkOf a) = false → ∃ t, exec (.loReadLatch n w) s = .next t ∧
        t.p.host.out = s.p.host.out ++ [(n.val, [255, 255, 255, 255])] ∧ Only { host := True } s t) ∧
      (s.p.portUp n = true → s.p.blkReachable n (blkOf a) = true → farMsix n (blkOf a) = false →
        a ≠ globB + R.tallyData → a ≠ globB + R.tallyData + 4 →
        (∀ l, s.p.latches.find? (fun l => l.1 == n.val && l.2.1 == a) = some l → ∃ t, exec (.loReadLatch n w) s = .next t ∧
          t.p.host.out = s.p.host.out ++ [(n.val, toBytes 4 l.2.2.toNat)] ∧ t.p.latches = s.p.latches.erase l ∧
          Only { host := True, latches := True } s t) ∧
        (s.p.latches.find? (fun l => l.1 == n.val && l.2.1 == a) = none → ∃ t, exec (.loReadLatch n w) s = .next t ∧
          t.p.host.out = s.p.host.out ++ [(n.val, toBytes 4 (s.p.regVal a).toNat)] ∧
          (isLo a = true → t.p.latches.find? (fun l => l.1 == n.val && l.2.1 == a + 4) = some (n.val, a + 4, s.p.regVal (a + 4)) ∧
            ∀ l, l.1 ≠ n.val → (l ∈ t.p.latches ↔ l ∈ s.p.latches)) ∧
          (isLo a = false → t.p.latches = s.p.latches) ∧ Only { host := True, latches := True } s t))) ∧
    (∀ (n : Fin 4) (w : BitVec 24) (be : BitVec 4) (v : BitVec 32) (a : Nat), a = 4 * w.toNat → s.p.portUp n = true →
      (be ≠ 15 → exec (.registerWrite n w be v) s = .next s) ∧
      (s.p.blkReachable n (blkOf a) = false → exec (.registerWrite n w be v) s = .next s) ∧
      (be = 15 → s.p.blkReachable n (blkOf a) = true →
        (∀ k o, blkOf a = .tile k o → (o < R.fcReact ∨ R.fcReact + 16 ≤ o) → o ≠ R.fcSticky → o ≠ R.checkCtl → o ≠ R.thermCtl →
          a = tileB k + o → ∃ t, exec (.registerWrite n w be v) s = .next t ∧ t.p.rd a = plainValue a (s.p.rd a) v ∧
            Only { regs := fun b => b = a } s t) ∧
        (∀ o, blkOf a = .host n o → 0x900 ≤ o → o < 0x1000 → a = hostB n + o → ∃ t, exec (.registerWrite n w be v) s = .next t ∧
          t.p.rd a = plainValue a (s.p.rd a) v ∧ Only { regs := fun b => b = a } s t) ∧
        (a = keeperB + R.alertSts → ∃ t, exec (.registerWrite n w be v) s = .next t ∧
          (∀ i, i < 3 → (t.p.rd a).getLsbD i = ((s.p.rd a).getLsbD i && !v.getLsbD i)) ∧
          Only { regs := fun b => b = a, keep := True } s t))) ∧
    (∀ q : Fin 64, s.p.keep.ring = true → CmdsInRange s → ListsInRange s →
      (s.p.ykState q = 0 ∨ s.p.ykState q = 5 → ∃ t, exec (.cageOvercurrent q) s = .next t ∧ q.val ∈ t.p.keep.fab.cages ∧
        Only { keep := True } s t) ∧
      (s.p.ykState q ≠ 0 → s.p.ykState q ≠ 5 → ∃ t, exec (.cageOvercurrent q) s = .next t ∧ q.val ∈ t.p.keep.fab.cages ∧
        YkWentDown q s t)) ∧
    (∀ addr : BitVec 7, s.p.keep.ring = true →
      (∃ t, exec (.setdasa addr) s = .next t ∧ t.p.keep.bmc.addr = some (s.p.keep.bmc.addr.getD addr.toNat) ∧
        t.p.keep = { s.p.keep with bmc := { s.p.keep.bmc with addr := t.p.keep.bmc.addr } } ∧ Only { keep := True } s t) ∧
      (∃ t, exec (.entdaa addr) s = .next t ∧ t.p.keep.bmc.addr = some (s.p.keep.bmc.addr.getD addr.toNat) ∧
        t.p.keep = { s.p.keep with bmc := { s.p.keep.bmc with addr := t.p.keep.bmc.addr } } ∧ Only { keep := True } s t)) ∧
    (∀ a, s.p.keep.ring = true → a = (s.p.rd (keeperB + R.alertSts)).toNat → ∃ t, exec .enec s = .next t ∧ t.p.keep.bmc.ibi = true ∧
      (∀ i, i < 3 → t.p.keep.bmc.raised.testBit i = (s.p.keep.bmc.raised.testBit i || a.testBit i)) ∧
      t.p.keep.bmc.count = s.p.keep.bmc.count +
        ((List.range 3).filter (fun i => a.testBit i && !s.p.keep.bmc.raised.testBit i)).length ∧
      t.p.keep = { s.p.keep with bmc := t.p.keep.bmc } ∧ Only { keep := True } s t) ∧
    (∀ (off : BitVec 8) (v : BitVec 32), s.p.keep.ring = true →
      (off = 0x10 → ∃ t, exec (.bmcRegisterWrite off v) s = .next t ∧
        (∀ i, i < 3 → (t.p.rd (keeperB + R.alertSts)).getLsbD i = ((s.p.rd (keeperB + R.alertSts)).getLsbD i && !v.getLsbD i)) ∧
        Only { regs := fun b => b = keeperB + R.alertSts, keep := True } s t) ∧
      (off = 0x14 → s.p.standby = true → v.getLsbD 0 = true → ∃ t, exec (.bmcRegisterWrite off v) s = .next t ∧ StandbyLeft s t) ∧
      (off ≠ 0x10 → off ≠ 0x14 → exec (.bmcRegisterWrite off v) s = .next s)) ∧
    (∀ (addr : BitVec 7) (off : BitVec 8) (v : BitVec 32), s.p.keep.ring = false → exec (.setdasa addr) s = .next s ∧
      exec (.entdaa addr) s = .next s ∧ exec .enec s = .next s ∧ exec (.bmcRegisterWrite off v) s = .next s)
end

