-- ==== Sys2Proof/Laws/SMap.lean ====
section
/-!
SUPPORT. Sparse maps: reading after writing, and the canonical form that every map operation keeps.
-/
namespace Sys2Proof.Machine

open Sys2Proof

variable {α : Type}

/-- Every key of a map is at least its lower bound. -/
theorem srising_mono {lo lo' : Nat} (h : lo' ≤ lo) : ∀ {m : SMap α}, srising lo m = true → srising lo' m = true
  | [], _ => rfl
  | (k, v) :: m, hm => by
    simp only [srising, Bool.and_eq_true, decide_eq_true_eq] at hm ⊢
    exact ⟨by omega, hm.2⟩

/-- Removing a key leaves its default there. -/
theorem sget_sdel_self {dflt : Nat → α} {k : Nat} : ∀ (m : SMap α), sget dflt (sdel m k) k = dflt k
  | [] => rfl
  | (k', v) :: m => by
    by_cases h : k = k'
    · simpa [sdel, h] using h ▸ sget_sdel_self (dflt := dflt) (k := k) m
    · simp [sdel, h, sget, sget_sdel_self m]

/-- Removing a key leaves the others. -/
theorem sget_sdel_ne {dflt : Nat → α} {k j : Nat} (h : j ≠ k) : ∀ (m : SMap α), sget dflt (sdel m k) j = sget dflt m j
  | [] => rfl
  | (k', v) :: m => by
    by_cases hk : k = k'
    · subst hk
      simp [sdel, sget, h, sget_sdel_ne h m]
    · by_cases hj : j = k' <;> simp [sdel, hk, sget, hj, sget_sdel_ne h m]

/-- A value put at a key is read there. -/
theorem sget_sins_self {dflt : Nat → α} {k : Nat} {v : α} : ∀ (m : SMap α), sget dflt (sins m k v) k = v
  | [] => by simp [sins, sget]
  | (k', v') :: m => by
    by_cases h1 : k < k'
    · simp [sins, h1, sget]
    · by_cases h2 : k = k' <;> simp [sins, h1, h2, sget, sget_sins_self m]

/-- A value put at a key leaves the others. -/
theorem sget_sins_ne {dflt : Nat → α} {k j : Nat} {v : α} (h : j ≠ k) : ∀ (m : SMap α), sget dflt (sins m k v) j = sget dflt m j
  | [] => by simp [sins, sget, h]
  | (k', v') :: m => by
    by_cases h1 : k < k'
    · simp [sins, h1, sget, h]
    · by_cases h2 : k = k'
      · subst h2
        simp [sins, sget, h]
      · by_cases hj : j = k' <;> simp [sins, h1, h2, sget, hj, sget_sins_ne h m]

/-- The keys still rise after a key is removed. -/
theorem srising_sdel {k : Nat} : ∀ {m : SMap α} {lo : Nat}, srising lo m = true → srising lo (sdel m k) = true
  | [], _, _ => rfl
  | (k', v) :: m, lo, hm => by
    simp only [srising, Bool.and_eq_true, decide_eq_true_eq] at hm
    by_cases h : k = k'
    · simpa [sdel, h] using srising_sdel (k := k') (srising_mono (by omega : lo ≤ k' + 1) hm.2)
    · simp [sdel, h, srising, hm.1, srising_sdel hm.2]

/-- The keys still rise after a key is put. -/
theorem srising_sins {k : Nat} {v : α} :
    ∀ {m : SMap α} {lo : Nat}, lo ≤ k → srising lo m = true → srising lo (sins m k v) = true
  | [], lo, h, _ => by simp [sins, srising, h]
  | (k', v') :: m, lo, h, hm => by
    simp only [srising, Bool.and_eq_true, decide_eq_true_eq] at hm
    by_cases h1 : k < k'
    · simp only [sins, h1, if_true, srising, Bool.and_eq_true, decide_eq_true_eq]
      exact ⟨h, by omega, hm.2⟩
    · by_cases h2 : k = k'
      · subst h2
        simp [sins, srising, h, hm.2]
      · simp [sins, h1, h2, srising, hm.1, srising_sins (by omega : k' + 1 ≤ k) hm.2]

theorem mem_sdel {k : Nat} {e : Nat × α} : ∀ {m : SMap α}, e ∈ sdel m k → e ∈ m
  | (k', v) :: m, h => by
    by_cases hk : k = k'
    · simp only [sdel, hk, if_true] at h
      exact List.mem_cons_of_mem _ (mem_sdel h)
    · simp only [sdel, hk, if_false, List.mem_cons] at h
      rcases h with h | h
      · exact h ▸ List.mem_cons_self
      · exact List.mem_cons_of_mem _ (mem_sdel h)

theorem mem_sins {k : Nat} {v : α} {e : Nat × α} : ∀ {m : SMap α}, e ∈ sins m k v → e = (k, v) ∨ e ∈ m
  | [], h => by simpa [sins] using h
  | (k', v') :: m, h => by
    by_cases h1 : k < k'
    · simpa [sins, h1] using h
    · by_cases h2 : k = k'
      · simp only [sins, h2, Nat.lt_irrefl, if_false, if_true, List.mem_cons] at h
        rcases h with h | h
        · exact .inl (h2 ▸ h)
        · exact .inr (List.mem_cons_of_mem _ h)
      · simp only [sins, h1, h2, if_false, List.mem_cons] at h
        rcases h with h | h
        · exact .inr (h ▸ List.mem_cons_self)
        · rcases mem_sins h with h | h
          · exact .inl h
          · exact .inr (List.mem_cons_of_mem _ h)

section Dec

variable [DecidableEq α] {dflt : Nat → α}

/-- A written value is read back. -/
theorem sget_sset_self (m : SMap α) (k : Nat) (v : α) : sget dflt (sset dflt m k v) k = v := by
  unfold sset
  split
  · next hv => rw [hv, sget_sdel_self m]
  · exact sget_sins_self m

/-- A write leaves every other key. -/
theorem sget_sset_ne {m : SMap α} {k j : Nat} {v : α} (h : j ≠ k) : sget dflt (sset dflt m k v) j = sget dflt m j := by
  unfold sset
  split
  · exact sget_sdel_ne h m
  · exact sget_sins_ne h m

/-- What a map reads after a write. -/
theorem sget_sset (m : SMap α) (k j : Nat) (v : α) :
    sget dflt (sset dflt m k v) j = if j = k then v else sget dflt m j := by
  by_cases hj : j = k
  · subst hj
    simp [sget_sset_self]
  · simp [hj, sget_sset_ne hj]

/-- What a map reads after an update. -/
theorem sget_supd (m : SMap α) (k j : Nat) (f : α → α) :
    sget dflt (supd dflt m k f) j = if j = k then f (sget dflt m k) else sget dflt m j :=
  sget_sset m k j _

/-- A write keeps the canonical form. -/
theorem swf_sset {m : SMap α} (h : swf dflt m = true) (k : Nat) (v : α) : swf dflt (sset dflt m k v) = true := by
  simp only [swf, Bool.and_eq_true, List.all_eq_true, decide_eq_true_eq] at h ⊢
  unfold sset
  split
  · exact ⟨srising_sdel h.1, fun e he => h.2 e (mem_sdel he)⟩
  · next hv =>
    refine ⟨srising_sins (Nat.zero_le _) h.1, fun e he => ?_⟩
    rcases mem_sins he with rfl | he
    · exact hv
    · exact h.2 e he

/-- An update keeps the canonical form. -/
theorem swf_supd {m : SMap α} (h : swf dflt m = true) (k : Nat) (f : α → α) : swf dflt (supd dflt m k f) = true :=
  swf_sset h k _

/-- Consecutive writes keep the canonical form. -/
theorem swf_ssetList : ∀ (vs : List α) {m : SMap α} (k : Nat), swf dflt m = true → swf dflt (ssetList dflt m k vs) = true
  | [], _, _, h => h
  | v :: vs, _, k, h => swf_ssetList vs (k + 1) (swf_sset h k v)

end Dec

theorem srising_filter {f : Nat × α → Bool} : ∀ {m : SMap α} {lo : Nat}, srising lo m = true → srising lo (m.filter f) = true
  | [], _, _ => rfl
  | (k, v) :: m, lo, hm => by
    simp only [srising, Bool.and_eq_true, decide_eq_true_eq] at hm
    have h2 := srising_filter (f := f) hm.2
    cases hf : f (k, v)
    · simp only [List.filter_cons, hf]
      exact srising_mono (by omega) h2
    · simp [hf, srising, hm.1, h2]

/-- A filtered map keeps the canonical form. -/
theorem swf_filter [DecidableEq α] {dflt : Nat → α} {m : SMap α} (h : swf dflt m = true) (f : Nat × α → Bool) :
    swf dflt (m.filter f) = true := by
  simp only [swf, Bool.and_eq_true, List.all_eq_true, decide_eq_true_eq] at h ⊢
  exact ⟨srising_filter h.1, fun e he => h.2 e (List.mem_filter.1 he).1⟩

/-- What a map filtered by its keys reads. -/
theorem sget_filter {dflt : Nat → α} (f : Nat → Bool) (j : Nat) :
    ∀ (m : SMap α), sget dflt (m.filter (fun e => f e.1)) j = if f j then sget dflt m j else dflt j
  | [] => by simp [sget]
  | (k, v) :: m => by
    have ih := sget_filter (dflt := dflt) f j m
    by_cases hj : j = k
    · subst hj
      cases hf : f j
      · simp only [List.filter_cons, hf]
        simpa [hf] using ih
      · simp [hf, sget]
    · cases hf : f k <;> simp [hf, sget, hj, ih]

end Sys2Proof.Machine
end

