-- ==== Sys2Proof/Laws/State.lean ====
section
/-!
SUPPORT. What each named operation leaves of the panel, field by field, and what the accessors read after it.
-/
namespace Sys2Proof.Machine

open Sys2Proof

/-! The three shapes of a meaning: each answers a next state, with the queue kept, and but for onFuses the fuses. -/

theorem onPanel_next (f : Panel → Panel) (s : State) : onPanel f s = .next { s with p := f s.p } := rfl
theorem onFused_next (f : Fuses → Panel → Panel) (s : State) : onFused f s = .next { s with p := f s.fuses s.p } := rfl
theorem onFuses_next (f : Fuses → Panel → Fuses × Panel) (s : State) :
    onFuses f s = .next { s with fuses := (f s.fuses s.p).1, p := (f s.fuses s.p).2 } := rfl

/-- A meaning of the first shape keeps the queue and the fuses. -/
theorem onPanel_keeps {f : Panel → Panel} {s t : State} (h : onPanel f s = .next t) :
    t.pending = s.pending ∧ t.fuses = s.fuses ∧ t.p = f s.p := by
  cases h
  exact ⟨rfl, rfl, rfl⟩

/-- A meaning of the second shape keeps the queue and the fuses. -/
theorem onFused_keeps {f : Fuses → Panel → Panel} {s t : State} (h : onFused f s = .next t) :
    t.pending = s.pending ∧ t.fuses = s.fuses ∧ t.p = f s.fuses s.p := by
  cases h
  exact ⟨rfl, rfl, rfl⟩

/-- A meaning of the third shape keeps the queue. -/
theorem onFuses_keeps {f : Fuses → Panel → Fuses × Panel} {s t : State} (h : onFuses f s = .next t) :
    t.pending = s.pending ∧ t.fuses = (f s.fuses s.p).1 ∧ t.p = (f s.fuses s.p).2 := by
  cases h
  exact ⟨rfl, rfl, rfl⟩

/-! wr -/

@[simp] theorem wr_ctrs (p : Panel) (a : Nat) (v : W32) : (p.wr a v).ctrs = p.ctrs := rfl
@[simp] theorem wr_latches (p : Panel) (a : Nat) (v : W32) : (p.wr a v).latches = p.latches := rfl
@[simp] theorem wr_now (p : Panel) (a : Nat) (v : W32) : (p.wr a v).now = p.now := rfl
@[simp] theorem wr_free (p : Panel) (a : Nat) (v : W32) : (p.wr a v).free = p.free := rfl
@[simp] theorem wr_cores (p : Panel) (a : Nat) (v : W32) : (p.wr a v).cores = p.cores := rfl
@[simp] theorem wr_chans (p : Panel) (a : Nat) (v : W32) : (p.wr a v).chans = p.chans := rfl
@[simp] theorem wr_tiles (p : Panel) (a : Nat) (v : W32) : (p.wr a v).tiles = p.tiles := rfl
@[simp] theorem wr_regions (p : Panel) (a : Nat) (v : W32) : (p.wr a v).regions = p.regions := rfl
@[simp] theorem wr_links (p : Panel) (a : Nat) (v : W32) : (p.wr a v).links = p.links := rfl
@[simp] theorem wr_ptcs (p : Panel) (a : Nat) (v : W32) : (p.wr a v).ptcs = p.ptcs := rfl
@[simp] theorem wr_flights (p : Panel) (a : Nat) (v : W32) : (p.wr a v).flights = p.flights := rfl
@[simp] theorem wr_nextFlight (p : Panel) (a : Nat) (v : W32) : (p.wr a v).nextFlight = p.nextFlight := rfl
@[simp] theorem wr_routers (p : Panel) (a : Nat) (v : W32) : (p.wr a v).routers = p.routers := rfl
@[simp] theorem wr_awaits (p : Panel) (a : Nat) (v : W32) : (p.wr a v).awaits = p.awaits := rfl
@[simp] theorem wr_msgs (p : Panel) (a : Nat) (v : W32) : (p.wr a v).msgs = p.msgs := rfl
@[simp] theorem wr_colls (p : Panel) (a : Nat) (v : W32) : (p.wr a v).colls = p.colls := rfl
@[simp] theorem wr_healths (p : Panel) (a : Nat) (v : W32) : (p.wr a v).healths = p.healths := rfl
@[simp] theorem wr_bad (p : Panel) (a : Nat) (v : W32) : (p.wr a v).bad = p.bad := rfl
@[simp] theorem wr_keep (p : Panel) (a : Nat) (v : W32) : (p.wr a v).keep = p.keep := rfl
@[simp] theorem wr_host (p : Panel) (a : Nat) (v : W32) : (p.wr a v).host = p.host := rfl
@[simp] theorem wr_dies (p : Panel) (a : Nat) (v : W32) : (p.wr a v).dies = p.dies := rfl
@[simp] theorem wr_prst (p : Panel) (a : Nat) (v : W32) : (p.wr a v).prst = p.prst := rfl

/-! count -/

@[simp] theorem count_regs (p : Panel) (a k : Nat) : (p.count a k).regs = p.regs := by unfold Panel.count; split <;> rfl
@[simp] theorem count_latches (p : Panel) (a k : Nat) : (p.count a k).latches = p.latches := by unfold Panel.count; split <;> rfl
@[simp] theorem count_now (p : Panel) (a k : Nat) : (p.count a k).now = p.now := by unfold Panel.count; split <;> rfl
@[simp] theorem count_free (p : Panel) (a k : Nat) : (p.count a k).free = p.free := by unfold Panel.count; split <;> rfl
@[simp] theorem count_cores (p : Panel) (a k : Nat) : (p.count a k).cores = p.cores := by unfold Panel.count; split <;> rfl
@[simp] theorem count_chans (p : Panel) (a k : Nat) : (p.count a k).chans = p.chans := by unfold Panel.count; split <;> rfl
@[simp] theorem count_tiles (p : Panel) (a k : Nat) : (p.count a k).tiles = p.tiles := by unfold Panel.count; split <;> rfl
@[simp] theorem count_regions (p : Panel) (a k : Nat) : (p.count a k).regions = p.regions := by unfold Panel.count; split <;> rfl
@[simp] theorem count_links (p : Panel) (a k : Nat) : (p.count a k).links = p.links := by unfold Panel.count; split <;> rfl
@[simp] theorem count_ptcs (p : Panel) (a k : Nat) : (p.count a k).ptcs = p.ptcs := by unfold Panel.count; split <;> rfl
@[simp] theorem count_flights (p : Panel) (a k : Nat) : (p.count a k).flights = p.flights := by unfold Panel.count; split <;> rfl
@[simp] theorem count_nextFlight (p : Panel) (a k : Nat) : (p.count a k).nextFlight = p.nextFlight := by unfold Panel.count; split <;> rfl
@[simp] theorem count_routers (p : Panel) (a k : Nat) : (p.count a k).routers = p.routers := by unfold Panel.count; split <;> rfl
@[simp] theorem count_awaits (p : Panel) (a k : Nat) : (p.count a k).awaits = p.awaits := by unfold Panel.count; split <;> rfl
@[simp] theorem count_msgs (p : Panel) (a k : Nat) : (p.count a k).msgs = p.msgs := by unfold Panel.count; split <;> rfl
@[simp] theorem count_colls (p : Panel) (a k : Nat) : (p.count a k).colls = p.colls := by unfold Panel.count; split <;> rfl
@[simp] theorem count_healths (p : Panel) (a k : Nat) : (p.count a k).healths = p.healths := by unfold Panel.count; split <;> rfl
@[simp] theorem count_bad (p : Panel) (a k : Nat) : (p.count a k).bad = p.bad := by unfold Panel.count; split <;> rfl
@[simp] theorem count_keep (p : Panel) (a k : Nat) : (p.count a k).keep = p.keep := by unfold Panel.count; split <;> rfl
@[simp] theorem count_host (p : Panel) (a k : Nat) : (p.count a k).host = p.host := by unfold Panel.count; split <;> rfl
@[simp] theorem count_dies (p : Panel) (a k : Nat) : (p.count a k).dies = p.dies := by unfold Panel.count; split <;> rfl
@[simp] theorem count_prst (p : Panel) (a k : Nat) : (p.count a k).prst = p.prst := by unfold Panel.count; split <;> rfl

/-! setCore -/

@[simp] theorem setCore_regs (p : Panel) (x : Cid) (c : Core) : (p.setCore x c).regs = p.regs := rfl
@[simp] theorem setCore_ctrs (p : Panel) (x : Cid) (c : Core) : (p.setCore x c).ctrs = p.ctrs := rfl
@[simp] theorem setCore_latches (p : Panel) (x : Cid) (c : Core) : (p.setCore x c).latches = p.latches := rfl
@[simp] theorem setCore_now (p : Panel) (x : Cid) (c : Core) : (p.setCore x c).now = p.now := rfl
@[simp] theorem setCore_free (p : Panel) (x : Cid) (c : Core) : (p.setCore x c).free = p.free := rfl
@[simp] theorem setCore_chans (p : Panel) (x : Cid) (c : Core) : (p.setCore x c).chans = p.chans := rfl
@[simp] theorem setCore_tiles (p : Panel) (x : Cid) (c : Core) : (p.setCore x c).tiles = p.tiles := rfl
@[simp] theorem setCore_regions (p : Panel) (x : Cid) (c : Core) : (p.setCore x c).regions = p.regions := rfl
@[simp] theorem setCore_links (p : Panel) (x : Cid) (c : Core) : (p.setCore x c).links = p.links := rfl
@[simp] theorem setCore_ptcs (p : Panel) (x : Cid) (c : Core) : (p.setCore x c).ptcs = p.ptcs := rfl
@[simp] theorem setCore_flights (p : Panel) (x : Cid) (c : Core) : (p.setCore x c).flights = p.flights := rfl
@[simp] theorem setCore_nextFlight (p : Panel) (x : Cid) (c : Core) : (p.setCore x c).nextFlight = p.nextFlight := rfl
@[simp] theorem setCore_routers (p : Panel) (x : Cid) (c : Core) : (p.setCore x c).routers = p.routers := rfl
@[simp] theorem setCore_awaits (p : Panel) (x : Cid) (c : Core) : (p.setCore x c).awaits = p.awaits := rfl
@[simp] theorem setCore_msgs (p : Panel) (x : Cid) (c : Core) : (p.setCore x c).msgs = p.msgs := rfl
@[simp] theorem setCore_colls (p : Panel) (x : Cid) (c : Core) : (p.setCore x c).colls = p.colls := rfl
@[simp] theorem setCore_healths (p : Panel) (x : Cid) (c : Core) : (p.setCore x c).healths = p.healths := rfl
@[simp] theorem setCore_bad (p : Panel) (x : Cid) (c : Core) : (p.setCore x c).bad = p.bad := rfl
@[simp] theorem setCore_keep (p : Panel) (x : Cid) (c : Core) : (p.setCore x c).keep = p.keep := rfl
@[simp] theorem setCore_host (p : Panel) (x : Cid) (c : Core) : (p.setCore x c).host = p.host := rfl
@[simp] theorem setCore_dies (p : Panel) (x : Cid) (c : Core) : (p.setCore x c).dies = p.dies := rfl
@[simp] theorem setCore_prst (p : Panel) (x : Cid) (c : Core) : (p.setCore x c).prst = p.prst := rfl

/-! setChan -/

@[simp] theorem setChan_regs (p : Panel) (x : Cid) (c : Chan) : (p.setChan x c).regs = p.regs := rfl
@[simp] theorem setChan_ctrs (p : Panel) (x : Cid) (c : Chan) : (p.setChan x c).ctrs = p.ctrs := rfl
@[simp] theorem setChan_latches (p : Panel) (x : Cid) (c : Chan) : (p.setChan x c).latches = p.latches := rfl
@[simp] theorem setChan_now (p : Panel) (x : Cid) (c : Chan) : (p.setChan x c).now = p.now := rfl
@[simp] theorem setChan_free (p : Panel) (x : Cid) (c : Chan) : (p.setChan x c).free = p.free := rfl
@[simp] theorem setChan_cores (p : Panel) (x : Cid) (c : Chan) : (p.setChan x c).cores = p.cores := rfl
@[simp] theorem setChan_tiles (p : Panel) (x : Cid) (c : Chan) : (p.setChan x c).tiles = p.tiles := rfl
@[simp] theorem setChan_regions (p : Panel) (x : Cid) (c : Chan) : (p.setChan x c).regions = p.regions := rfl
@[simp] theorem setChan_links (p : Panel) (x : Cid) (c : Chan) : (p.setChan x c).links = p.links := rfl
@[simp] theorem setChan_ptcs (p : Panel) (x : Cid) (c : Chan) : (p.setChan x c).ptcs = p.ptcs := rfl
@[simp] theorem setChan_flights (p : Panel) (x : Cid) (c : Chan) : (p.setChan x c).flights = p.flights := rfl
@[simp] theorem setChan_nextFlight (p : Panel) (x : Cid) (c : Chan) : (p.setChan x c).nextFlight = p.nextFlight := rfl
@[simp] theorem setChan_routers (p : Panel) (x : Cid) (c : Chan) : (p.setChan x c).routers = p.routers := rfl
@[simp] theorem setChan_awaits (p : Panel) (x : Cid) (c : Chan) : (p.setChan x c).awaits = p.awaits := rfl
@[simp] theorem setChan_msgs (p : Panel) (x : Cid) (c : Chan) : (p.setChan x c).msgs = p.msgs := rfl
@[simp] theorem setChan_colls (p : Panel) (x : Cid) (c : Chan) : (p.setChan x c).colls = p.colls := rfl
@[simp] theorem setChan_healths (p : Panel) (x : Cid) (c : Chan) : (p.setChan x c).healths = p.healths := rfl
@[simp] theorem setChan_bad (p : Panel) (x : Cid) (c : Chan) : (p.setChan x c).bad = p.bad := rfl
@[simp] theorem setChan_keep (p : Panel) (x : Cid) (c : Chan) : (p.setChan x c).keep = p.keep := rfl
@[simp] theorem setChan_host (p : Panel) (x : Cid) (c : Chan) : (p.setChan x c).host = p.host := rfl
@[simp] theorem setChan_dies (p : Panel) (x : Cid) (c : Chan) : (p.setChan x c).dies = p.dies := rfl
@[simp] theorem setChan_prst (p : Panel) (x : Cid) (c : Chan) : (p.setChan x c).prst = p.prst := rfl

/-! updTile -/

@[simp] theorem updTile_regs (p : Panel) (t : Nat) (f : TileSt → TileSt) : (p.updTile t f).regs = p.regs := rfl
@[simp] theorem updTile_ctrs (p : Panel) (t : Nat) (f : TileSt → TileSt) : (p.updTile t f).ctrs = p.ctrs := rfl
@[simp] theorem updTile_latches (p : Panel) (t : Nat) (f : TileSt → TileSt) : (p.updTile t f).latches = p.latches := rfl
@[simp] theorem updTile_now (p : Panel) (t : Nat) (f : TileSt → TileSt) : (p.updTile t f).now = p.now := rfl
@[simp] theorem updTile_free (p : Panel) (t : Nat) (f : TileSt → TileSt) : (p.updTile t f).free = p.free := rfl
@[simp] theorem updTile_cores (p : Panel) (t : Nat) (f : TileSt → TileSt) : (p.updTile t f).cores = p.cores := rfl
@[simp] theorem updTile_chans (p : Panel) (t : Nat) (f : TileSt → TileSt) : (p.updTile t f).chans = p.chans := rfl
@[simp] theorem updTile_regions (p : Panel) (t : Nat) (f : TileSt → TileSt) : (p.updTile t f).regions = p.regions := rfl
@[simp] theorem updTile_links (p : Panel) (t : Nat) (f : TileSt → TileSt) : (p.updTile t f).links = p.links := rfl
@[simp] theorem updTile_ptcs (p : Panel) (t : Nat) (f : TileSt → TileSt) : (p.updTile t f).ptcs = p.ptcs := rfl
@[simp] theorem updTile_flights (p : Panel) (t : Nat) (f : TileSt → TileSt) : (p.updTile t f).flights = p.flights := rfl
@[simp] theorem updTile_nextFlight (p : Panel) (t : Nat) (f : TileSt → TileSt) : (p.updTile t f).nextFlight = p.nextFlight := rfl
@[simp] theorem updTile_routers (p : Panel) (t : Nat) (f : TileSt → TileSt) : (p.updTile t f).routers = p.routers := rfl
@[simp] theorem updTile_awaits (p : Panel) (t : Nat) (f : TileSt → TileSt) : (p.updTile t f).awaits = p.awaits := rfl
@[simp] theorem updTile_msgs (p : Panel) (t : Nat) (f : TileSt → TileSt) : (p.updTile t f).msgs = p.msgs := rfl
@[simp] theorem updTile_colls (p : Panel) (t : Nat) (f : TileSt → TileSt) : (p.updTile t f).colls = p.colls := rfl
@[simp] theorem updTile_healths (p : Panel) (t : Nat) (f : TileSt → TileSt) : (p.updTile t f).healths = p.healths := rfl
@[simp] theorem updTile_bad (p : Panel) (t : Nat) (f : TileSt → TileSt) : (p.updTile t f).bad = p.bad := rfl
@[simp] theorem updTile_keep (p : Panel) (t : Nat) (f : TileSt → TileSt) : (p.updTile t f).keep = p.keep := rfl
@[simp] theorem updTile_host (p : Panel) (t : Nat) (f : TileSt → TileSt) : (p.updTile t f).host = p.host := rfl
@[simp] theorem updTile_dies (p : Panel) (t : Nat) (f : TileSt → TileSt) : (p.updTile t f).dies = p.dies := rfl
@[simp] theorem updTile_prst (p : Panel) (t : Nat) (f : TileSt → TileSt) : (p.updTile t f).prst = p.prst := rfl

/-! updRegion -/

@[simp] theorem updRegion_regs (p : Panel) (t r : Nat) (f : RegionSt → RegionSt) : (p.updRegion t r f).regs = p.regs := rfl
@[simp] theorem updRegion_ctrs (p : Panel) (t r : Nat) (f : RegionSt → RegionSt) : (p.updRegion t r f).ctrs = p.ctrs := rfl
@[simp] theorem updRegion_latches (p : Panel) (t r : Nat) (f : RegionSt → RegionSt) : (p.updRegion t r f).latches = p.latches := rfl
@[simp] theorem updRegion_now (p : Panel) (t r : Nat) (f : RegionSt → RegionSt) : (p.updRegion t r f).now = p.now := rfl
@[simp] theorem updRegion_free (p : Panel) (t r : Nat) (f : RegionSt → RegionSt) : (p.updRegion t r f).free = p.free := rfl
@[simp] theorem updRegion_cores (p : Panel) (t r : Nat) (f : RegionSt → RegionSt) : (p.updRegion t r f).cores = p.cores := rfl
@[simp] theorem updRegion_chans (p : Panel) (t r : Nat) (f : RegionSt → RegionSt) : (p.updRegion t r f).chans = p.chans := rfl
@[simp] theorem updRegion_tiles (p : Panel) (t r : Nat) (f : RegionSt → RegionSt) : (p.updRegion t r f).tiles = p.tiles := rfl
@[simp] theorem updRegion_links (p : Panel) (t r : Nat) (f : RegionSt → RegionSt) : (p.updRegion t r f).links = p.links := rfl
@[simp] theorem updRegion_ptcs (p : Panel) (t r : Nat) (f : RegionSt → RegionSt) : (p.updRegion t r f).ptcs = p.ptcs := rfl
@[simp] theorem updRegion_flights (p : Panel) (t r : Nat) (f : RegionSt → RegionSt) : (p.updRegion t r f).flights = p.flights := rfl
@[simp] theorem updRegion_nextFlight (p : Panel) (t r : Nat) (f : RegionSt → RegionSt) : (p.updRegion t r f).nextFlight = p.nextFlight := rfl
@[simp] theorem updRegion_routers (p : Panel) (t r : Nat) (f : RegionSt → RegionSt) : (p.updRegion t r f).routers = p.routers := rfl
@[simp] theorem updRegion_awaits (p : Panel) (t r : Nat) (f : RegionSt → RegionSt) : (p.updRegion t r f).awaits = p.awaits := rfl
@[simp] theorem updRegion_msgs (p : Panel) (t r : Nat) (f : RegionSt → RegionSt) : (p.updRegion t r f).msgs = p.msgs := rfl
@[simp] theorem updRegion_colls (p : Panel) (t r : Nat) (f : RegionSt → RegionSt) : (p.updRegion t r f).colls = p.colls := rfl
@[simp] theorem updRegion_healths (p : Panel) (t r : Nat) (f : RegionSt → RegionSt) : (p.updRegion t r f).healths = p.healths := rfl
@[simp] theorem updRegion_bad (p : Panel) (t r : Nat) (f : RegionSt → RegionSt) : (p.updRegion t r f).bad = p.bad := rfl
@[simp] theorem updRegion_keep (p : Panel) (t r : Nat) (f : RegionSt → RegionSt) : (p.updRegion t r f).keep = p.keep := rfl
@[simp] theorem updRegion_host (p : Panel) (t r : Nat) (f : RegionSt → RegionSt) : (p.updRegion t r f).host = p.host := rfl
@[simp] theorem updRegion_dies (p : Panel) (t r : Nat) (f : RegionSt → RegionSt) : (p.updRegion t r f).dies = p.dies := rfl
@[simp] theorem updRegion_prst (p : Panel) (t r : Nat) (f : RegionSt → RegionSt) : (p.updRegion t r f).prst = p.prst := rfl

/-! updDie -/

@[simp] theorem updDie_regs (p : Panel) (d : Nat) (f : DieSt → DieSt) : (p.updDie d f).regs = p.regs := rfl
@[simp] theorem updDie_ctrs (p : Panel) (d : Nat) (f : DieSt → DieSt) : (p.updDie d f).ctrs = p.ctrs := rfl
@[simp] theorem updDie_latches (p : Panel) (d : Nat) (f : DieSt → DieSt) : (p.updDie d f).latches = p.latches := rfl
@[simp] theorem updDie_now (p : Panel) (d : Nat) (f : DieSt → DieSt) : (p.updDie d f).now = p.now := rfl
@[simp] theorem updDie_free (p : Panel) (d : Nat) (f : DieSt → DieSt) : (p.updDie d f).free = p.free := rfl
@[simp] theorem updDie_cores (p : Panel) (d : Nat) (f : DieSt → DieSt) : (p.updDie d f).cores = p.cores := rfl
@[simp] theorem updDie_chans (p : Panel) (d : Nat) (f : DieSt → DieSt) : (p.updDie d f).chans = p.chans := rfl
@[simp] theorem updDie_tiles (p : Panel) (d : Nat) (f : DieSt → DieSt) : (p.updDie d f).tiles = p.tiles := rfl
@[simp] theorem updDie_regions (p : Panel) (d : Nat) (f : DieSt → DieSt) : (p.updDie d f).regions = p.regions := rfl
@[simp] theorem updDie_links (p : Panel) (d : Nat) (f : DieSt → DieSt) : (p.updDie d f).links = p.links := rfl
@[simp] theorem updDie_ptcs (p : Panel) (d : Nat) (f : DieSt → DieSt) : (p.updDie d f).ptcs = p.ptcs := rfl
@[simp] theorem updDie_flights (p : Panel) (d : Nat) (f : DieSt → DieSt) : (p.updDie d f).flights = p.flights := rfl
@[simp] theorem updDie_nextFlight (p : Panel) (d : Nat) (f : DieSt → DieSt) : (p.updDie d f).nextFlight = p.nextFlight := rfl
@[simp] theorem updDie_routers (p : Panel) (d : Nat) (f : DieSt → DieSt) : (p.updDie d f).routers = p.routers := rfl
@[simp] theorem updDie_awaits (p : Panel) (d : Nat) (f : DieSt → DieSt) : (p.updDie d f).awaits = p.awaits := rfl
@[simp] theorem updDie_msgs (p : Panel) (d : Nat) (f : DieSt → DieSt) : (p.updDie d f).msgs = p.msgs := rfl
@[simp] theorem updDie_colls (p : Panel) (d : Nat) (f : DieSt → DieSt) : (p.updDie d f).colls = p.colls := rfl
@[simp] theorem updDie_healths (p : Panel) (d : Nat) (f : DieSt → DieSt) : (p.updDie d f).healths = p.healths := rfl
@[simp] theorem updDie_bad (p : Panel) (d : Nat) (f : DieSt → DieSt) : (p.updDie d f).bad = p.bad := rfl
@[simp] theorem updDie_keep (p : Panel) (d : Nat) (f : DieSt → DieSt) : (p.updDie d f).keep = p.keep := rfl
@[simp] theorem updDie_host (p : Panel) (d : Nat) (f : DieSt → DieSt) : (p.updDie d f).host = p.host := rfl
@[simp] theorem updDie_prst (p : Panel) (d : Nat) (f : DieSt → DieSt) : (p.updDie d f).prst = p.prst := rfl

/-! setPtc -/

@[simp] theorem setPtc_regs (p : Panel) (n : Nat) (c : Option Ptc) : (p.setPtc n c).regs = p.regs := rfl
@[simp] theorem setPtc_ctrs (p : Panel) (n : Nat) (c : Option Ptc) : (p.setPtc n c).ctrs = p.ctrs := rfl
@[simp] theorem setPtc_latches (p : Panel) (n : Nat) (c : Option Ptc) : (p.setPtc n c).latches = p.latches := rfl
@[simp] theorem setPtc_now (p : Panel) (n : Nat) (c : Option Ptc) : (p.setPtc n c).now = p.now := rfl
@[simp] theorem setPtc_free (p : Panel) (n : Nat) (c : Option Ptc) : (p.setPtc n c).free = p.free := rfl
@[simp] theorem setPtc_cores (p : Panel) (n : Nat) (c : Option Ptc) : (p.setPtc n c).cores = p.cores := rfl
@[simp] theorem setPtc_chans (p : Panel) (n : Nat) (c : Option Ptc) : (p.setPtc n c).chans = p.chans := rfl
@[simp] theorem setPtc_tiles (p : Panel) (n : Nat) (c : Option Ptc) : (p.setPtc n c).tiles = p.tiles := rfl
@[simp] theorem setPtc_regions (p : Panel) (n : Nat) (c : Option Ptc) : (p.setPtc n c).regions = p.regions := rfl
@[simp] theorem setPtc_links (p : Panel) (n : Nat) (c : Option Ptc) : (p.setPtc n c).links = p.links := rfl
@[simp] theorem setPtc_flights (p : Panel) (n : Nat) (c : Option Ptc) : (p.setPtc n c).flights = p.flights := rfl
@[simp] theorem setPtc_nextFlight (p : Panel) (n : Nat) (c : Option Ptc) : (p.setPtc n c).nextFlight = p.nextFlight := rfl
@[simp] theorem setPtc_routers (p : Panel) (n : Nat) (c : Option Ptc) : (p.setPtc n c).routers = p.routers := rfl
@[simp] theorem setPtc_awaits (p : Panel) (n : Nat) (c : Option Ptc) : (p.setPtc n c).awaits = p.awaits := rfl
@[simp] theorem setPtc_msgs (p : Panel) (n : Nat) (c : Option Ptc) : (p.setPtc n c).msgs = p.msgs := rfl
@[simp] theorem setPtc_colls (p : Panel) (n : Nat) (c : Option Ptc) : (p.setPtc n c).colls = p.colls := rfl
@[simp] theorem setPtc_healths (p : Panel) (n : Nat) (c : Option Ptc) : (p.setPtc n c).healths = p.healths := rfl
@[simp] theorem setPtc_bad (p : Panel) (n : Nat) (c : Option Ptc) : (p.setPtc n c).bad = p.bad := rfl
@[simp] theorem setPtc_keep (p : Panel) (n : Nat) (c : Option Ptc) : (p.setPtc n c).keep = p.keep := rfl
@[simp] theorem setPtc_host (p : Panel) (n : Nat) (c : Option Ptc) : (p.setPtc n c).host = p.host := rfl
@[simp] theorem setPtc_dies (p : Panel) (n : Nat) (c : Option Ptc) : (p.setPtc n c).dies = p.dies := rfl
@[simp] theorem setPtc_prst (p : Panel) (n : Nat) (c : Option Ptc) : (p.setPtc n c).prst = p.prst := rfl

/-! updRouter -/

@[simp] theorem updRouter_regs (p : Panel) (n : Nat) (f : Router → Router) : (p.updRouter n f).regs = p.regs := rfl
@[simp] theorem updRouter_ctrs (p : Panel) (n : Nat) (f : Router → Router) : (p.updRouter n f).ctrs = p.ctrs := rfl
@[simp] theorem updRouter_latches (p : Panel) (n : Nat) (f : Router → Router) : (p.updRouter n f).latches = p.latches := rfl
@[simp] theorem updRouter_now (p : Panel) (n : Nat) (f : Router → Router) : (p.updRouter n f).now = p.now := rfl
@[simp] theorem updRouter_free (p : Panel) (n : Nat) (f : Router → Router) : (p.updRouter n f).free = p.free := rfl
@[simp] theorem updRouter_cores (p : Panel) (n : Nat) (f : Router → Router) : (p.updRouter n f).cores = p.cores := rfl
@[simp] theorem updRouter_chans (p : Panel) (n : Nat) (f : Router → Router) : (p.updRouter n f).chans = p.chans := rfl
@[simp] theorem updRouter_tiles (p : Panel) (n : Nat) (f : Router → Router) : (p.updRouter n f).tiles = p.tiles := rfl
@[simp] theorem updRouter_regions (p : Panel) (n : Nat) (f : Router → Router) : (p.updRouter n f).regions = p.regions := rfl
@[simp] theorem updRouter_links (p : Panel) (n : Nat) (f : Router → Router) : (p.updRouter n f).links = p.links := rfl
@[simp] theorem updRouter_ptcs (p : Panel) (n : Nat) (f : Router → Router) : (p.updRouter n f).ptcs = p.ptcs := rfl
@[simp] theorem updRouter_flights (p : Panel) (n : Nat) (f : Router → Router) : (p.updRouter n f).flights = p.flights := rfl
@[simp] theorem updRouter_nextFlight (p : Panel) (n : Nat) (f : Router → Router) : (p.updRouter n f).nextFlight = p.nextFlight := rfl
@[simp] theorem updRouter_awaits (p : Panel) (n : Nat) (f : Router → Router) : (p.updRouter n f).awaits = p.awaits := rfl
@[simp] theorem updRouter_msgs (p : Panel) (n : Nat) (f : Router → Router) : (p.updRouter n f).msgs = p.msgs := rfl
@[simp] theorem updRouter_colls (p : Panel) (n : Nat) (f : Router → Router) : (p.updRouter n f).colls = p.colls := rfl
@[simp] theorem updRouter_healths (p : Panel) (n : Nat) (f : Router → Router) : (p.updRouter n f).healths = p.healths := rfl
@[simp] theorem updRouter_bad (p : Panel) (n : Nat) (f : Router → Router) : (p.updRouter n f).bad = p.bad := rfl
@[simp] theorem updRouter_keep (p : Panel) (n : Nat) (f : Router → Router) : (p.updRouter n f).keep = p.keep := rfl
@[simp] theorem updRouter_host (p : Panel) (n : Nat) (f : Router → Router) : (p.updRouter n f).host = p.host := rfl
@[simp] theorem updRouter_dies (p : Panel) (n : Nat) (f : Router → Router) : (p.updRouter n f).dies = p.dies := rfl
@[simp] theorem updRouter_prst (p : Panel) (n : Nat) (f : Router → Router) : (p.updRouter n f).prst = p.prst := rfl

/-! updColl -/

@[simp] theorem updColl_regs (p : Panel) (n : Nat) (f : Coll → Coll) : (p.updColl n f).regs = p.regs := rfl
@[simp] theorem updColl_ctrs (p : Panel) (n : Nat) (f : Coll → Coll) : (p.updColl n f).ctrs = p.ctrs := rfl
@[simp] theorem updColl_latches (p : Panel) (n : Nat) (f : Coll → Coll) : (p.updColl n f).latches = p.latches := rfl
@[simp] theorem updColl_now (p : Panel) (n : Nat) (f : Coll → Coll) : (p.updColl n f).now = p.now := rfl
@[simp] theorem updColl_free (p : Panel) (n : Nat) (f : Coll → Coll) : (p.updColl n f).free = p.free := rfl
@[simp] theorem updColl_cores (p : Panel) (n : Nat) (f : Coll → Coll) : (p.updColl n f).cores = p.cores := rfl
@[simp] theorem updColl_chans (p : Panel) (n : Nat) (f : Coll → Coll) : (p.updColl n f).chans = p.chans := rfl
@[simp] theorem updColl_tiles (p : Panel) (n : Nat) (f : Coll → Coll) : (p.updColl n f).tiles = p.tiles := rfl
@[simp] theorem updColl_regions (p : Panel) (n : Nat) (f : Coll → Coll) : (p.updColl n f).regions = p.regions := rfl
@[simp] theorem updColl_links (p : Panel) (n : Nat) (f : Coll → Coll) : (p.updColl n f).links = p.links := rfl
@[simp] theorem updColl_ptcs (p : Panel) (n : Nat) (f : Coll → Coll) : (p.updColl n f).ptcs = p.ptcs := rfl
@[simp] theorem updColl_flights (p : Panel) (n : Nat) (f : Coll → Coll) : (p.updColl n f).flights = p.flights := rfl
@[simp] theorem updColl_nextFlight (p : Panel) (n : Nat) (f : Coll → Coll) : (p.updColl n f).nextFlight = p.nextFlight := rfl
@[simp] theorem updColl_routers (p : Panel) (n : Nat) (f : Coll → Coll) : (p.updColl n f).routers = p.routers := rfl
@[simp] theorem updColl_awaits (p : Panel) (n : Nat) (f : Coll → Coll) : (p.updColl n f).awaits = p.awaits := rfl
@[simp] theorem updColl_msgs (p : Panel) (n : Nat) (f : Coll → Coll) : (p.updColl n f).msgs = p.msgs := rfl
@[simp] theorem updColl_healths (p : Panel) (n : Nat) (f : Coll → Coll) : (p.updColl n f).healths = p.healths := rfl
@[simp] theorem updColl_bad (p : Panel) (n : Nat) (f : Coll → Coll) : (p.updColl n f).bad = p.bad := rfl
@[simp] theorem updColl_keep (p : Panel) (n : Nat) (f : Coll → Coll) : (p.updColl n f).keep = p.keep := rfl
@[simp] theorem updColl_host (p : Panel) (n : Nat) (f : Coll → Coll) : (p.updColl n f).host = p.host := rfl
@[simp] theorem updColl_dies (p : Panel) (n : Nat) (f : Coll → Coll) : (p.updColl n f).dies = p.dies := rfl
@[simp] theorem updColl_prst (p : Panel) (n : Nat) (f : Coll → Coll) : (p.updColl n f).prst = p.prst := rfl

/-! updHealth -/

@[simp] theorem updHealth_regs (p : Panel) (t : Nat) (f : HealthSt → HealthSt) : (p.updHealth t f).regs = p.regs := rfl
@[simp] theorem updHealth_ctrs (p : Panel) (t : Nat) (f : HealthSt → HealthSt) : (p.updHealth t f).ctrs = p.ctrs := rfl
@[simp] theorem updHealth_latches (p : Panel) (t : Nat) (f : HealthSt → HealthSt) : (p.updHealth t f).latches = p.latches := rfl
@[simp] theorem updHealth_now (p : Panel) (t : Nat) (f : HealthSt → HealthSt) : (p.updHealth t f).now = p.now := rfl
@[simp] theorem updHealth_free (p : Panel) (t : Nat) (f : HealthSt → HealthSt) : (p.updHealth t f).free = p.free := rfl
@[simp] theorem updHealth_cores (p : Panel) (t : Nat) (f : HealthSt → HealthSt) : (p.updHealth t f).cores = p.cores := rfl
@[simp] theorem updHealth_chans (p : Panel) (t : Nat) (f : HealthSt → HealthSt) : (p.updHealth t f).chans = p.chans := rfl
@[simp] theorem updHealth_tiles (p : Panel) (t : Nat) (f : HealthSt → HealthSt) : (p.updHealth t f).tiles = p.tiles := rfl
@[simp] theorem updHealth_regions (p : Panel) (t : Nat) (f : HealthSt → HealthSt) : (p.updHealth t f).regions = p.regions := rfl
@[simp] theorem updHealth_links (p : Panel) (t : Nat) (f : HealthSt → HealthSt) : (p.updHealth t f).links = p.links := rfl
@[simp] theorem updHealth_ptcs (p : Panel) (t : Nat) (f : HealthSt → HealthSt) : (p.updHealth t f).ptcs = p.ptcs := rfl
@[simp] theorem updHealth_flights (p : Panel) (t : Nat) (f : HealthSt → HealthSt) : (p.updHealth t f).flights = p.flights := rfl
@[simp] theorem updHealth_nextFlight (p : Panel) (t : Nat) (f : HealthSt → HealthSt) : (p.updHealth t f).nextFlight = p.nextFlight := rfl
@[simp] theorem updHealth_routers (p : Panel) (t : Nat) (f : HealthSt → HealthSt) : (p.updHealth t f).routers = p.routers := rfl
@[simp] theorem updHealth_awaits (p : Panel) (t : Nat) (f : HealthSt → HealthSt) : (p.updHealth t f).awaits = p.awaits := rfl
@[simp] theorem updHealth_msgs (p : Panel) (t : Nat) (f : HealthSt → HealthSt) : (p.updHealth t f).msgs = p.msgs := rfl
@[simp] theorem updHealth_colls (p : Panel) (t : Nat) (f : HealthSt → HealthSt) : (p.updHealth t f).colls = p.colls := rfl
@[simp] theorem updHealth_bad (p : Panel) (t : Nat) (f : HealthSt → HealthSt) : (p.updHealth t f).bad = p.bad := rfl
@[simp] theorem updHealth_keep (p : Panel) (t : Nat) (f : HealthSt → HealthSt) : (p.updHealth t f).keep = p.keep := rfl
@[simp] theorem updHealth_host (p : Panel) (t : Nat) (f : HealthSt → HealthSt) : (p.updHealth t f).host = p.host := rfl
@[simp] theorem updHealth_dies (p : Panel) (t : Nat) (f : HealthSt → HealthSt) : (p.updHealth t f).dies = p.dies := rfl
@[simp] theorem updHealth_prst (p : Panel) (t : Nat) (f : HealthSt → HealthSt) : (p.updHealth t f).prst = p.prst := rfl

/-! updKeep -/

@[simp] theorem updKeep_regs (p : Panel) (f : KeepSt → KeepSt) : (p.updKeep f).regs = p.regs := rfl
@[simp] theorem updKeep_ctrs (p : Panel) (f : KeepSt → KeepSt) : (p.updKeep f).ctrs = p.ctrs := rfl
@[simp] theorem updKeep_latches (p : Panel) (f : KeepSt → KeepSt) : (p.updKeep f).latches = p.latches := rfl
@[simp] theorem updKeep_now (p : Panel) (f : KeepSt → KeepSt) : (p.updKeep f).now = p.now := rfl
@[simp] theorem updKeep_free (p : Panel) (f : KeepSt → KeepSt) : (p.updKeep f).free = p.free := rfl
@[simp] theorem updKeep_cores (p : Panel) (f : KeepSt → KeepSt) : (p.updKeep f).cores = p.cores := rfl
@[simp] theorem updKeep_chans (p : Panel) (f : KeepSt → KeepSt) : (p.updKeep f).chans = p.chans := rfl
@[simp] theorem updKeep_tiles (p : Panel) (f : KeepSt → KeepSt) : (p.updKeep f).tiles = p.tiles := rfl
@[simp] theorem updKeep_regions (p : Panel) (f : KeepSt → KeepSt) : (p.updKeep f).regions = p.regions := rfl
@[simp] theorem updKeep_links (p : Panel) (f : KeepSt → KeepSt) : (p.updKeep f).links = p.links := rfl
@[simp] theorem updKeep_ptcs (p : Panel) (f : KeepSt → KeepSt) : (p.updKeep f).ptcs = p.ptcs := rfl
@[simp] theorem updKeep_flights (p : Panel) (f : KeepSt → KeepSt) : (p.updKeep f).flights = p.flights := rfl
@[simp] theorem updKeep_nextFlight (p : Panel) (f : KeepSt → KeepSt) : (p.updKeep f).nextFlight = p.nextFlight := rfl
@[simp] theorem updKeep_routers (p : Panel) (f : KeepSt → KeepSt) : (p.updKeep f).routers = p.routers := rfl
@[simp] theorem updKeep_awaits (p : Panel) (f : KeepSt → KeepSt) : (p.updKeep f).awaits = p.awaits := rfl
@[simp] theorem updKeep_msgs (p : Panel) (f : KeepSt → KeepSt) : (p.updKeep f).msgs = p.msgs := rfl
@[simp] theorem updKeep_colls (p : Panel) (f : KeepSt → KeepSt) : (p.updKeep f).colls = p.colls := rfl
@[simp] theorem updKeep_healths (p : Panel) (f : KeepSt → KeepSt) : (p.updKeep f).healths = p.healths := rfl
@[simp] theorem updKeep_bad (p : Panel) (f : KeepSt → KeepSt) : (p.updKeep f).bad = p.bad := rfl
@[simp] theorem updKeep_host (p : Panel) (f : KeepSt → KeepSt) : (p.updKeep f).host = p.host := rfl
@[simp] theorem updKeep_dies (p : Panel) (f : KeepSt → KeepSt) : (p.updKeep f).dies = p.dies := rfl
@[simp] theorem updKeep_prst (p : Panel) (f : KeepSt → KeepSt) : (p.updKeep f).prst = p.prst := rfl

/-! send -/

@[simp] theorem send_regs (p : Panel) (m : Msg) : (p.send m).regs = p.regs := rfl
@[simp] theorem send_ctrs (p : Panel) (m : Msg) : (p.send m).ctrs = p.ctrs := rfl
@[simp] theorem send_latches (p : Panel) (m : Msg) : (p.send m).latches = p.latches := rfl
@[simp] theorem send_now (p : Panel) (m : Msg) : (p.send m).now = p.now := rfl
@[simp] theorem send_free (p : Panel) (m : Msg) : (p.send m).free = p.free := rfl
@[simp] theorem send_cores (p : Panel) (m : Msg) : (p.send m).cores = p.cores := rfl
@[simp] theorem send_chans (p : Panel) (m : Msg) : (p.send m).chans = p.chans := rfl
@[simp] theorem send_tiles (p : Panel) (m : Msg) : (p.send m).tiles = p.tiles := rfl
@[simp] theorem send_regions (p : Panel) (m : Msg) : (p.send m).regions = p.regions := rfl
@[simp] theorem send_links (p : Panel) (m : Msg) : (p.send m).links = p.links := rfl
@[simp] theorem send_ptcs (p : Panel) (m : Msg) : (p.send m).ptcs = p.ptcs := rfl
@[simp] theorem send_flights (p : Panel) (m : Msg) : (p.send m).flights = p.flights := rfl
@[simp] theorem send_nextFlight (p : Panel) (m : Msg) : (p.send m).nextFlight = p.nextFlight := rfl
@[simp] theorem send_routers (p : Panel) (m : Msg) : (p.send m).routers = p.routers := rfl
@[simp] theorem send_awaits (p : Panel) (m : Msg) : (p.send m).awaits = p.awaits := rfl
@[simp] theorem send_colls (p : Panel) (m : Msg) : (p.send m).colls = p.colls := rfl
@[simp] theorem send_healths (p : Panel) (m : Msg) : (p.send m).healths = p.healths := rfl
@[simp] theorem send_bad (p : Panel) (m : Msg) : (p.send m).bad = p.bad := rfl
@[simp] theorem send_keep (p : Panel) (m : Msg) : (p.send m).keep = p.keep := rfl
@[simp] theorem send_host (p : Panel) (m : Msg) : (p.send m).host = p.host := rfl
@[simp] theorem send_dies (p : Panel) (m : Msg) : (p.send m).dies = p.dies := rfl
@[simp] theorem send_prst (p : Panel) (m : Msg) : (p.send m).prst = p.prst := rfl

/-! takeMsg -/

@[simp] theorem takeMsg_regs (p : Panel) (m : Msg) : (p.takeMsg m).regs = p.regs := rfl
@[simp] theorem takeMsg_ctrs (p : Panel) (m : Msg) : (p.takeMsg m).ctrs = p.ctrs := rfl
@[simp] theorem takeMsg_latches (p : Panel) (m : Msg) : (p.takeMsg m).latches = p.latches := rfl
@[simp] theorem takeMsg_now (p : Panel) (m : Msg) : (p.takeMsg m).now = p.now := rfl
@[simp] theorem takeMsg_free (p : Panel) (m : Msg) : (p.takeMsg m).free = p.free := rfl
@[simp] theorem takeMsg_cores (p : Panel) (m : Msg) : (p.takeMsg m).cores = p.cores := rfl
@[simp] theorem takeMsg_chans (p : Panel) (m : Msg) : (p.takeMsg m).chans = p.chans := rfl
@[simp] theorem takeMsg_tiles (p : Panel) (m : Msg) : (p.takeMsg m).tiles = p.tiles := rfl
@[simp] theorem takeMsg_regions (p : Panel) (m : Msg) : (p.takeMsg m).regions = p.regions := rfl
@[simp] theorem takeMsg_links (p : Panel) (m : Msg) : (p.takeMsg m).links = p.links := rfl
@[simp] theorem takeMsg_ptcs (p : Panel) (m : Msg) : (p.takeMsg m).ptcs = p.ptcs := rfl
@[simp] theorem takeMsg_flights (p : Panel) (m : Msg) : (p.takeMsg m).flights = p.flights := rfl
@[simp] theorem takeMsg_nextFlight (p : Panel) (m : Msg) : (p.takeMsg m).nextFlight = p.nextFlight := rfl
@[simp] theorem takeMsg_routers (p : Panel) (m : Msg) : (p.takeMsg m).routers = p.routers := rfl
@[simp] theorem takeMsg_awaits (p : Panel) (m : Msg) : (p.takeMsg m).awaits = p.awaits := rfl
@[simp] theorem takeMsg_colls (p : Panel) (m : Msg) : (p.takeMsg m).colls = p.colls := rfl
@[simp] theorem takeMsg_healths (p : Panel) (m : Msg) : (p.takeMsg m).healths = p.healths := rfl
@[simp] theorem takeMsg_bad (p : Panel) (m : Msg) : (p.takeMsg m).bad = p.bad := rfl
@[simp] theorem takeMsg_keep (p : Panel) (m : Msg) : (p.takeMsg m).keep = p.keep := rfl
@[simp] theorem takeMsg_host (p : Panel) (m : Msg) : (p.takeMsg m).host = p.host := rfl
@[simp] theorem takeMsg_dies (p : Panel) (m : Msg) : (p.takeMsg m).dies = p.dies := rfl
@[simp] theorem takeMsg_prst (p : Panel) (m : Msg) : (p.takeMsg m).prst = p.prst := rfl

/-! tookFree -/

@[simp] theorem tookFree_regs (p : Panel) : (p.tookFree).regs = p.regs := rfl
@[simp] theorem tookFree_ctrs (p : Panel) : (p.tookFree).ctrs = p.ctrs := rfl
@[simp] theorem tookFree_latches (p : Panel) : (p.tookFree).latches = p.latches := rfl
@[simp] theorem tookFree_now (p : Panel) : (p.tookFree).now = p.now := rfl
@[simp] theorem tookFree_cores (p : Panel) : (p.tookFree).cores = p.cores := rfl
@[simp] theorem tookFree_chans (p : Panel) : (p.tookFree).chans = p.chans := rfl
@[simp] theorem tookFree_tiles (p : Panel) : (p.tookFree).tiles = p.tiles := rfl
@[simp] theorem tookFree_regions (p : Panel) : (p.tookFree).regions = p.regions := rfl
@[simp] theorem tookFree_links (p : Panel) : (p.tookFree).links = p.links := rfl
@[simp] theorem tookFree_ptcs (p : Panel) : (p.tookFree).ptcs = p.ptcs := rfl
@[simp] theorem tookFree_flights (p : Panel) : (p.tookFree).flights = p.flights := rfl
@[simp] theorem tookFree_nextFlight (p : Panel) : (p.tookFree).nextFlight = p.nextFlight := rfl
@[simp] theorem tookFree_routers (p : Panel) : (p.tookFree).routers = p.routers := rfl
@[simp] theorem tookFree_awaits (p : Panel) : (p.tookFree).awaits = p.awaits := rfl
@[simp] theorem tookFree_msgs (p : Panel) : (p.tookFree).msgs = p.msgs := rfl
@[simp] theorem tookFree_colls (p : Panel) : (p.tookFree).colls = p.colls := rfl
@[simp] theorem tookFree_healths (p : Panel) : (p.tookFree).healths = p.healths := rfl
@[simp] theorem tookFree_bad (p : Panel) : (p.tookFree).bad = p.bad := rfl
@[simp] theorem tookFree_keep (p : Panel) : (p.tookFree).keep = p.keep := rfl
@[simp] theorem tookFree_host (p : Panel) : (p.tookFree).host = p.host := rfl
@[simp] theorem tookFree_dies (p : Panel) : (p.tookFree).dies = p.dies := rfl
@[simp] theorem tookFree_prst (p : Panel) : (p.tookFree).prst = p.prst := rfl

/-! clearRegs -/

@[simp] theorem clearRegs_ctrs (p : Panel) (f : Nat → Bool) : (p.clearRegs f).ctrs = p.ctrs := rfl
@[simp] theorem clearRegs_latches (p : Panel) (f : Nat → Bool) : (p.clearRegs f).latches = p.latches := rfl
@[simp] theorem clearRegs_now (p : Panel) (f : Nat → Bool) : (p.clearRegs f).now = p.now := rfl
@[simp] theorem clearRegs_free (p : Panel) (f : Nat → Bool) : (p.clearRegs f).free = p.free := rfl
@[simp] theorem clearRegs_cores (p : Panel) (f : Nat → Bool) : (p.clearRegs f).cores = p.cores := rfl
@[simp] theorem clearRegs_chans (p : Panel) (f : Nat → Bool) : (p.clearRegs f).chans = p.chans := rfl
@[simp] theorem clearRegs_tiles (p : Panel) (f : Nat → Bool) : (p.clearRegs f).tiles = p.tiles := rfl
@[simp] theorem clearRegs_regions (p : Panel) (f : Nat → Bool) : (p.clearRegs f).regions = p.regions := rfl
@[simp] theorem clearRegs_links (p : Panel) (f : Nat → Bool) : (p.clearRegs f).links = p.links := rfl
@[simp] theorem clearRegs_ptcs (p : Panel) (f : Nat → Bool) : (p.clearRegs f).ptcs = p.ptcs := rfl
@[simp] theorem clearRegs_flights (p : Panel) (f : Nat → Bool) : (p.clearRegs f).flights = p.flights := rfl
@[simp] theorem clearRegs_nextFlight (p : Panel) (f : Nat → Bool) : (p.clearRegs f).nextFlight = p.nextFlight := rfl
@[simp] theorem clearRegs_routers (p : Panel) (f : Nat → Bool) : (p.clearRegs f).routers = p.routers := rfl
@[simp] theorem clearRegs_awaits (p : Panel) (f : Nat → Bool) : (p.clearRegs f).awaits = p.awaits := rfl
@[simp] theorem clearRegs_msgs (p : Panel) (f : Nat → Bool) : (p.clearRegs f).msgs = p.msgs := rfl
@[simp] theorem clearRegs_colls (p : Panel) (f : Nat → Bool) : (p.clearRegs f).colls = p.colls := rfl
@[simp] theorem clearRegs_healths (p : Panel) (f : Nat → Bool) : (p.clearRegs f).healths = p.healths := rfl
@[simp] theorem clearRegs_bad (p : Panel) (f : Nat → Bool) : (p.clearRegs f).bad = p.bad := rfl
@[simp] theorem clearRegs_keep (p : Panel) (f : Nat → Bool) : (p.clearRegs f).keep = p.keep := rfl
@[simp] theorem clearRegs_host (p : Panel) (f : Nat → Bool) : (p.clearRegs f).host = p.host := rfl
@[simp] theorem clearRegs_dies (p : Panel) (f : Nat → Bool) : (p.clearRegs f).dies = p.dies := rfl
@[simp] theorem clearRegs_prst (p : Panel) (f : Nat → Bool) : (p.clearRegs f).prst = p.prst := rfl

/-! clearCtrs -/

@[simp] theorem clearCtrs_regs (p : Panel) (f : Nat → Bool) : (p.clearCtrs f).regs = p.regs := rfl
@[simp] theorem clearCtrs_latches (p : Panel) (f : Nat → Bool) : (p.clearCtrs f).latches = p.latches := rfl
@[simp] theorem clearCtrs_now (p : Panel) (f : Nat → Bool) : (p.clearCtrs f).now = p.now := rfl
@[simp] theorem clearCtrs_free (p : Panel) (f : Nat → Bool) : (p.clearCtrs f).free = p.free := rfl
@[simp] theorem clearCtrs_cores (p : Panel) (f : Nat → Bool) : (p.clearCtrs f).cores = p.cores := rfl
@[simp] theorem clearCtrs_chans (p : Panel) (f : Nat → Bool) : (p.clearCtrs f).chans = p.chans := rfl
@[simp] theorem clearCtrs_tiles (p : Panel) (f : Nat → Bool) : (p.clearCtrs f).tiles = p.tiles := rfl
@[simp] theorem clearCtrs_regions (p : Panel) (f : Nat → Bool) : (p.clearCtrs f).regions = p.regions := rfl
@[simp] theorem clearCtrs_links (p : Panel) (f : Nat → Bool) : (p.clearCtrs f).links = p.links := rfl
@[simp] theorem clearCtrs_ptcs (p : Panel) (f : Nat → Bool) : (p.clearCtrs f).ptcs = p.ptcs := rfl
@[simp] theorem clearCtrs_flights (p : Panel) (f : Nat → Bool) : (p.clearCtrs f).flights = p.flights := rfl
@[simp] theorem clearCtrs_nextFlight (p : Panel) (f : Nat → Bool) : (p.clearCtrs f).nextFlight = p.nextFlight := rfl
@[simp] theorem clearCtrs_routers (p : Panel) (f : Nat → Bool) : (p.clearCtrs f).routers = p.routers := rfl
@[simp] theorem clearCtrs_awaits (p : Panel) (f : Nat → Bool) : (p.clearCtrs f).awaits = p.awaits := rfl
@[simp] theorem clearCtrs_msgs (p : Panel) (f : Nat → Bool) : (p.clearCtrs f).msgs = p.msgs := rfl
@[simp] theorem clearCtrs_colls (p : Panel) (f : Nat → Bool) : (p.clearCtrs f).colls = p.colls := rfl
@[simp] theorem clearCtrs_healths (p : Panel) (f : Nat → Bool) : (p.clearCtrs f).healths = p.healths := rfl
@[simp] theorem clearCtrs_bad (p : Panel) (f : Nat → Bool) : (p.clearCtrs f).bad = p.bad := rfl
@[simp] theorem clearCtrs_keep (p : Panel) (f : Nat → Bool) : (p.clearCtrs f).keep = p.keep := rfl
@[simp] theorem clearCtrs_host (p : Panel) (f : Nat → Bool) : (p.clearCtrs f).host = p.host := rfl
@[simp] theorem clearCtrs_dies (p : Panel) (f : Nat → Bool) : (p.clearCtrs f).dies = p.dies := rfl
@[simp] theorem clearCtrs_prst (p : Panel) (f : Nat → Bool) : (p.clearCtrs f).prst = p.prst := rfl

/-! Operations that are one of the above at a unit's own place. -/

@[simp] theorem fset_eq (p : Panel) (b : Nat) (f : Fld) (v : Nat) :
    p.fset b f v = p.wr (b + f.off) (setBits (p.rd (b + f.off)) f.hi f.lo v) := rfl
@[simp] theorem cset_eq (p : Panel) (x : Cid) (f : Fld) (v : Nat) : p.cset x f v = p.fset (coreB x.t x.c) f v := rfl
@[simp] theorem tset_eq (p : Panel) (t : Nat) (f : Fld) (v : Nat) : p.tset t f v = p.fset (tileB t) f v := rfl
@[simp] theorem rset_eq (p : Panel) (t r : Nat) (f : Fld) (v : Nat) : p.rset t r f v = p.fset (regionB t r) f v := rfl
@[simp] theorem lset_eq (p : Panel) (t j : Nat) (f : Fld) (v : Nat) : p.lset t j f v = p.fset (linkB t j) f v := rfl
@[simp] theorem kset_eq (p : Panel) (f : Fld) (v : Nat) : p.kset f v = p.fset keeperB f v := rfl
@[simp] theorem gset_eq (p : Panel) (f : Fld) (v : Nat) : p.gset f v = p.fset globB f v := rfl
@[simp] theorem hset_eq (p : Panel) (n : Nat) (f : Fld) (v : Nat) : p.hset n f v = p.fset (hostB n) f v := rfl
@[simp] theorem orReg_eq (p : Panel) (a : Nat) (m : W32) : p.orReg a m = p.wr a (p.rd a ||| m) := rfl
@[simp] theorem cwr_eq (p : Panel) (x : Cid) (o : Nat) (v : W32) : p.cwr x o v = p.wr (coreB x.t x.c + o) v := rfl
@[simp] theorem crd_eq (p : Panel) (x : Cid) (o : Nat) : p.crd x o = p.rd (coreB x.t x.c + o) := rfl
@[simp] theorem cget_eq (p : Panel) (x : Cid) (f : Fld) : p.cget x f = bits (p.rd (coreB x.t x.c + f.off)) f.hi f.lo := rfl
@[simp] theorem updCore_eq (p : Panel) (x : Cid) (f : Core → Core) : p.updCore x f = p.setCore x (f (p.core x)) := rfl
@[simp] theorem updSeq_eq (p : Panel) (x : Cid) (f : Seq → Seq) :
    p.updSeq x f = p.updCore x (fun c => { c with seq := f c.seq }) := rfl
@[simp] theorem updGrid_eq (p : Panel) (x : Cid) (f : Grid → Grid) :
    p.updGrid x f = p.updCore x (fun c => { c with grid := f c.grid }) := rfl
@[simp] theorem updPln_eq (p : Panel) (x : Cid) (f : Planer → Planer) :
    p.updPln x f = p.updCore x (fun c => { c with pln := f c.pln }) := rfl
@[simp] theorem updChan_eq (p : Panel) (x : Cid) (f : Chan → Chan) : p.updChan x f = p.setChan x (f (p.chan x)) := rfl
@[simp] theorem updFab_eq (p : Panel) (f : FabSt → FabSt) : p.updFab f = p.updKeep (fun k => { k with fab := f k.fab }) := rfl

/-! What the accessors read. -/

/-- Two units of one number are one unit. -/
theorem cid_key_inj {x y : Cid} (h : x.key = y.key) : x = y := by
  obtain ⟨⟨a, ha⟩, ⟨b, hb⟩⟩ := x
  obtain ⟨⟨c, hc⟩, ⟨d, hd⟩⟩ := y
  simp only [Cid.key, coreKey] at h
  simp only [Cid.mk.injEq, Fin.mk.injEq]
  omega

@[simp] theorem rd_wr (p : Panel) (a b : Nat) (v : W32) : (p.wr a v).rd b = if b = a then v else p.rd b :=
  sget_sset _ _ _ _
@[simp] theorem core_setCore (p : Panel) (x y : Cid) (c : Core) : (p.setCore x c).core y = if y = x then c else p.core y := by
  simp only [Panel.core, Panel.setCore, sget_sset]
  by_cases h : y = x
  · simp [h]
  · have : ¬ y.key = x.key := fun e => h (cid_key_inj e)
    simp [h, this]
@[simp] theorem chan_setChan (p : Panel) (x y : Cid) (c : Chan) : (p.setChan x c).chan y = if y = x then c else p.chan y := by
  simp only [Panel.chan, Panel.setChan, sget_sset]
  by_cases h : y = x
  · simp [h]
  · have : ¬ y.key = x.key := fun e => h (cid_key_inj e)
    simp [h, this]
@[simp] theorem tile_updTile (p : Panel) (t u : Nat) (f : TileSt → TileSt) :
    (p.updTile t f).tile u = if u = t then f (p.tile t) else p.tile u := sget_supd _ _ _ _
@[simp] theorem die_updDie (p : Panel) (t u : Nat) (f : DieSt → DieSt) :
    (p.updDie t f).die u = if u = t then f (p.die t) else p.die u := sget_supd _ _ _ _
@[simp] theorem router_updRouter (p : Panel) (t u : Nat) (f : Router → Router) :
    (p.updRouter t f).router u = if u = t then f (p.router t) else p.router u := sget_supd _ _ _ _
@[simp] theorem coll_updColl (p : Panel) (t u : Nat) (f : Coll → Coll) :
    (p.updColl t f).coll u = if u = t then f (p.coll t) else p.coll u := sget_supd _ _ _ _
@[simp] theorem health_updHealth (p : Panel) (t u : Nat) (f : HealthSt → HealthSt) :
    (p.updHealth t f).health u = if u = t then f (p.health t) else p.health u := sget_supd _ _ _ _
@[simp] theorem ptc_setPtc (p : Panel) (n m : Nat) (c : Option Ptc) : (p.setPtc n c).ptc m = if m = n then c else p.ptc m :=
  sget_sset _ _ _ _
@[simp] theorem region_updRegion (p : Panel) (t r u q : Nat) (f : RegionSt → RegionSt) :
    (p.updRegion t r f).region u q = if 4 * u + q = 4 * t + r then f (p.region t r) else p.region u q := sget_supd _ _ _ _
@[simp] theorem updKeep_keep (p : Panel) (f : KeepSt → KeepSt) : (p.updKeep f).keep = f p.keep := rfl
@[simp] theorem send_msgs (p : Panel) (m : Msg) : (p.send m).msgs = p.msgs ++ [m] := rfl
@[simp] theorem tookFree_free (p : Panel) : p.tookFree.free = p.free + 1 := rfl

/-- The counters after some events of one (R483); a place where no counter is assigned counts nothing. -/
theorem ctr_count (p : Panel) (a k b : Nat) :
    (p.count a k).ctr b =
      match ctrKindAt a with
      | some kind => if b = a then (p.ctr a).add kind k else p.ctr b
      | none => p.ctr b := by
  unfold Panel.count
  split <;> simp_all [Panel.ctr, sget_supd]

/-- The cleared registers read their reset values, and the others are as before (R365). -/
theorem rd_clearRegs (p : Panel) (f : Nat → Bool) (a : Nat) :
    (p.clearRegs f).rd a = if f a then regReset a else p.rd a := by
  simp only [Panel.rd, Panel.clearRegs]
  rw [sget_filter (fun a => !f a)]
  cases f a <;> simp

/-- The cleared counters read 0, and the others are as before (R484). -/
theorem ctr_clearCtrs (p : Panel) (f : Nat → Bool) (a : Nat) :
    (p.clearCtrs f).ctr a = if f a then Ctr.zero else p.ctr a := by
  simp only [Panel.ctr, Panel.clearCtrs]
  rw [sget_filter (fun a => !f a)]
  cases f a <;> simp

/-! Scalar registers and tokens. -/

/-- Register s0 reads 0, and a write of it changes nothing; every other register reads what was written last (R90). -/
theorem sreg_setSreg (q : Seq) (r k : Nat) (v : W32) :
    (q.setSreg r v).sreg k = if k = r ∧ r ≠ 0 then v else q.sreg k := by
  unfold Seq.setSreg
  split
  · next h => simp [h]
  · next h =>
    by_cases hk : k = 0
    · subst hk
      have : ¬ 0 = r := fun e => h e.symm
      simp [Seq.sreg, this]
    · by_cases hr : k = r <;> simp [Seq.sreg, hk, sget_sset, hr, h]

/-- A write of a register changes nothing but the register file. -/
theorem setSreg_else (q : Seq) (r : Nat) (v : W32) : q.setSreg r v = { q with sregs := (q.setSreg r v).sregs } := by
  unfold Seq.setSreg
  split <;> rfl

end Sys2Proof.Machine
end

