-- ==== Sys2Proof/Laws/Blocks.lean ====
section
/-!
SUPPORT. The block that an address of BAR0 falls in (Tables 20.1 and 20.6), for every base with an offset inside its block, and
the sequencer's state at reset.
-/
namespace Sys2Proof.Machine

open Sys2Proof

theorem blkOf_glob {o : Nat} (h : o < 0x10000) : blkOf (globB + o) = .glob o := by
  simp only [blkOf, globB, Nat.zero_add]
  rw [if_pos h]

theorem blkOf_host {n o : Nat} (hn : n < 4) (ho : o < 0x10000) : blkOf (hostB n + o) = .host n o := by
  unfold blkOf hostB
  rw [if_neg (by omega), if_neg (by omega), if_pos (by omega), show (0x400000 + n * 0x10000 + o - 0x400000) / 0x10000 = n by omega,
    show (0x400000 + n * 0x10000 + o) % 0x10000 = o by omega]

theorem blkOf_keep {o : Nat} (ho : o < 0x10000) : blkOf (keeperB + o) = .keep o := by
  unfold blkOf keeperB
  rw [if_neg (by omega), if_neg (by omega), if_neg (by omega), if_neg (by omega), if_pos (by omega), Nat.add_sub_cancel_left]

/-- Inside the tile window the tile's number and the offset in its aperture come out. -/
theorem blkOf_window {t o : Nat} (ht : t < 144) (ho : o < 0x40000) : blkOf (tileB t + o) =
    if o < 0x1000 then .tile t o
    else if o < 0x2000 then .region t ((o - 0x1000) / 0x400) (o % 0x400)
    else if o < 0x4000 then .link t ((o - 0x2000) / 0x100) (o % 0x100)
    else if o < 0x20000 then .none
    else .core t ((o - 0x20000) / 0x800) ((o - 0x20000) % 0x800) := by
  unfold blkOf tileB
  rw [if_neg (by omega), if_neg (by omega), if_neg (by omega), if_neg (by omega), if_neg (by omega), if_neg (by omega), if_pos (by omega)]
  simp only [show (0x1000000 + t * 0x40000 + o - 0x1000000) / 0x40000 = t by omega,
    show (0x1000000 + t * 0x40000 + o - 0x1000000) % 0x40000 = o by omega]

theorem blkOf_tile {t o : Nat} (ht : t < 144) (ho : o < 0x1000) : blkOf (tileB t + o) = .tile t o := by
  rw [blkOf_window ht (by omega), if_pos ho]

theorem blkOf_region {t r o : Nat} (ht : t < 144) (hr : r < 4) (ho : o < 0x400) : blkOf (regionB t r + o) = .region t r o := by
  unfold regionB
  rw [show tileB t + 0x1000 + 0x400 * r + o = tileB t + (0x1000 + 0x400 * r + o) by omega, blkOf_window ht (by omega), if_neg (by omega),
    if_pos (by omega), show (0x1000 + 0x400 * r + o - 0x1000) / 0x400 = r by omega, show (0x1000 + 0x400 * r + o) % 0x400 = o by omega]

theorem blkOf_link {t j o : Nat} (ht : t < 144) (hj : j < 32) (ho : o < 0x100) : blkOf (linkB t j + o) = .link t j o := by
  unfold linkB
  rw [show tileB t + 0x2000 + 0x100 * j + o = tileB t + (0x2000 + 0x100 * j + o) by omega, blkOf_window ht (by omega), if_neg (by omega),
    if_neg (by omega), if_pos (by omega), show (0x2000 + 0x100 * j + o - 0x2000) / 0x100 = j by omega,
    show (0x2000 + 0x100 * j + o) % 0x100 = o by omega]

theorem blkOf_core {t c o : Nat} (ht : t < 144) (hc : c < 64) (ho : o < 0x800) : blkOf (coreB t c + o) = .core t c o := by
  unfold coreB
  rw [show tileB t + 0x20000 + 0x800 * c + o = tileB t + (0x20000 + 0x800 * c + o) by omega, blkOf_window ht (by omega), if_neg (by omega),
    if_neg (by omega), if_neg (by omega), if_neg (by omega), show (0x20000 + 0x800 * c + o - 0x20000) / 0x800 = c by omega,
    show (0x20000 + 0x800 * c + o - 0x20000) % 0x800 = o by omega]

/-- SEQ_STATUS resets to 0 wherever it stands. -/
theorem regReset_core4 {a t c : Nat} (h : blkOf a = .core t c 4) : regReset a = 0 := by
  unfold regReset rowAt
  rw [h]
  rfl

/-- A sequencer is IDLE at reset (R90). -/
theorem regReset_seqStatus (x : Cid) : regReset (coreB x.t x.c + R.seqStatus_state.off) = 0 :=
  regReset_core4 (blkOf_core x.t.isLt x.c.isLt (by decide))

end Sys2Proof.Machine
end

