-- ==== Sys2Proof/Laws/Memory.lean ====
section
/-!
SUPPORT. The memories (host memory, scratchpads, DRAM channels): reading after writing, and every operation over them keeps their
canonical form, which the state after reset has.
-/
namespace Sys2Proof.Machine

open Sys2Proof

/-! Host memory. -/

/-- What a map reads after consecutive writes. -/
theorem sget_ssetList {α : Type} [DecidableEq α] {dflt : Nat → α} :
    ∀ (vs : List α) (m : SMap α) (k j : Nat),
      sget dflt (ssetList dflt m k vs) j = if h : k ≤ j ∧ j - k < vs.length then vs[j - k]'h.2 else sget dflt m j
  | [], m, k, j => by simp [ssetList]
  | v :: vs, m, k, j => by
    rw [ssetList, sget_ssetList vs, sget_sset]
    by_cases h0 : j = k
    · subst h0
      rw [dif_neg (by omega), if_pos rfl, dif_pos (by simp)]
      simp
    · by_cases h1 : k + 1 ≤ j ∧ j - (k + 1) < vs.length
      · rw [dif_pos h1, dif_pos ⟨by omega, by simp only [List.length_cons]; omega⟩]
        simp only [show j - k = j - (k + 1) + 1 by omega, List.getElem_cons_succ]
      · rw [dif_neg h1, if_neg h0, dif_neg (by simp only [List.length_cons]; omega)]

/-- Host memory after a write: the bytes written, and every other byte as it was. -/
theorem hostWr_byte (p : Panel) (port a : Nat) (bs : List Byte) (j : Nat) :
    sget hostReset (p.hostWr port a bs).host.mem j =
      if h : hostKey port a ≤ j ∧ j - hostKey port a < bs.length then bs[j - hostKey port a]'h.2 else sget hostReset p.host.mem j :=
  sget_ssetList bs _ _ _

/-- A write to host memory keeps its canonical form. -/
theorem hostWr_wf {p : Panel} (h : swf hostReset p.host.mem = true) (port a : Nat) (bs : List Byte) :
    swf hostReset (p.hostWr port a bs).host.mem = true := swf_ssetList bs _ h

/-! Scratchpad. -/

/-- A written word is read back, and every other word is as it was (R121, R128). -/
theorem write_cell (c : Core) (a b : Nat) (d : W64) :
    (c.write a d).cell b = if b % 2 ^ 19 = a % 2 ^ 19 then ssc76Enc d else c.cell b := by
  simp only [Core.write, Core.cell, sget_sset]

/-- A write keeps the scratchpad's canonical form. -/
theorem write_wf {c : Core} (h : swf spadReset c.spad = true) (a : Nat) (d : W64) : swf spadReset (c.write a d).spad = true :=
  swf_sset h _ _

/-- Consecutive writes keep the scratchpad's canonical form. -/
theorem writes_wf : ∀ (ds : List W64) {c : Core} (a : Nat), swf spadReset c.spad = true → swf spadReset (c.writes a ds).spad = true
  | [], _, _, h => h
  | d :: ds, _, a, h => writes_wf ds (a + 1) (write_wf h a d)

/-- A scrub write-back keeps every scratchpad's canonical form (R132). -/
theorem scrubBack_wf {p : Panel} (h : ∀ y, swf spadReset (p.core y).spad = true) (x : Cid) (b : Nat) (y : Cid) :
    swf spadReset ((p.scrubBack x b).core y).spad = true := by
  unfold Panel.scrubBack
  rw [updCore_eq, core_setCore]
  split
  · split
    · exact swf_sset (h x) _ _
    · exact h x
  · exact h y

/-- Cells put back keep every scratchpad's canonical form (R522). -/
theorem putCells_wf {p : Panel} (h : ∀ y, swf spadReset (p.core y).spad = true) (x : Cid) (l : List (Nat × W76)) (y : Cid) :
    swf spadReset ((p.putCells x l).core y).spad = true := by
  have hl : ∀ (l : List (Nat × W76)) (m : SMap W76), swf spadReset m = true →
      swf spadReset (l.foldl (fun m e => sset spadReset m e.1 e.2) m) = true := by
    intro l
    induction l with
    | nil => exact fun _ hm => hm
    | cons e l ih => exact fun m hm => ih _ (swf_sset hm _ _)
  unfold Panel.putCells
  rw [updCore_eq, core_setCore]
  split
  · exact hl l _ (h x)
  · exact h y

/-! DRAM channels. -/

/-- A written wide row is read back, and every other is as it was. -/
theorem put_raw (h : Chan) (a b : Nat) (d : BitVec 512) :
    (h.put a d).raw b = if h.cellOf b = h.cellOf a then ssc528Enc d else h.raw b := by
  have e : (h.put a d).cellOf b = h.cellOf b := rfl
  simp only [Chan.raw, e]
  simp only [Chan.put, sget_sset]

/-- A write keeps the channel's canonical form. -/
theorem put_wf {h : Chan} (w : swf cellReset h.cells = true) (a : Nat) (d : BitVec 512) : swf cellReset (h.put a d).cells = true :=
  swf_sset w _ _

/-- A queued scrub entry leaves the cells. -/
theorem scrubAdd_cells (h : Chan) (row : Nat) (cw : BitVec 528) : (h.scrubAdd row cw).1.cells = h.cells := by
  unfold Chan.scrubAdd
  split
  · rfl
  · split <;> rfl

/-! The state after reset. -/

/-- The memories after reset hold nothing, in their canonical form. -/
theorem reset_memories : State.reset.p.host.mem = [] ∧ (∀ x, (State.reset.p.core x).spad = []) ∧
    ∀ x, (State.reset.p.chan x).cells = [] :=
  ⟨rfl, fun _ => rfl, fun _ => rfl⟩

end Sys2Proof.Machine
end

