-- ==== Sys2Proof/Laws/Only.lean ====
section
/-!
SUPPORT. What a command may change: the relation is reflexive, transitive and grows with what may change, and each named operation
stands in it with what it writes.
-/
namespace Sys2Proof.Machine

open Sys2Proof

namespace Frame

variable {m : May} {p q r : Panel}

theorem refl (m : May) (p : Panel) : p.Only m p := by constructor <;> intros <;> first | rfl | exact ⟨rfl, rfl⟩

theorem trans (h : p.Only m q) (k : q.Only m r) : p.Only m r where
  regs a ha := (k.regs a ha).trans (h.regs a ha)
  ctrs a ha := (k.ctrs a ha).trans (h.ctrs a ha)
  cores a ha := (k.cores a ha).trans (h.cores a ha)
  chans a ha := (k.chans a ha).trans (h.chans a ha)
  tiles a ha := (k.tiles a ha).trans (h.tiles a ha)
  regions a ha := (k.regions a ha).trans (h.regions a ha)
  links a ha := (k.links a ha).trans (h.links a ha)
  ptcs a ha := (k.ptcs a ha).trans (h.ptcs a ha)
  routers a ha := (k.routers a ha).trans (h.routers a ha)
  colls a ha := (k.colls a ha).trans (h.colls a ha)
  healths a ha := (k.healths a ha).trans (h.healths a ha)
  dies a ha := (k.dies a ha).trans (h.dies a ha)
  latches ha := (k.latches ha).trans (h.latches ha)
  now ha := (k.now ha).trans (h.now ha)
  free ha := (k.free ha).trans (h.free ha)
  flights ha := ⟨(k.flights ha).1.trans (h.flights ha).1, (k.flights ha).2.trans (h.flights ha).2⟩
  awaits ha := (k.awaits ha).trans (h.awaits ha)
  msgs ha := (k.msgs ha).trans (h.msgs ha)
  bad ha := (k.bad ha).trans (h.bad ha)
  keep ha := (k.keep ha).trans (h.keep ha)
  host ha := (k.host ha).trans (h.host ha)
  prst ha := (k.prst ha).trans (h.prst ha)

/-! After a change, one operation more. -/

theorem wr (h : p.Only m q) {a : Nat} (ha : m.regs a) (v : W32) : p.Only m (q.wr a v) :=
  trans h { refl m q with regs := fun b hb => by simp [show b ≠ a from fun e => hb (e ▸ ha)] }

theorem count (h : p.Only m q) {a : Nat} (ha : m.ctrs a) (k : Nat) : p.Only m (q.count a k) := by
  refine trans h ?_
  constructor <;> intros <;> try simp [Panel.rd, Panel.core, Panel.chan, Panel.tile, Panel.region, Panel.ptc, Panel.router, Panel.coll,
    Panel.health, Panel.die]
  next b hb =>
    have : b ≠ a := fun e => hb (e ▸ ha)
    rw [ctr_count]
    split <;> simp [this]

theorem setCore (h : p.Only m q) {x : Cid} (hx : m.cores x) (c : Core) : p.Only m (q.setCore x c) :=
  trans h { refl m q with cores := fun y hy => by simp [show y ≠ x from fun e => hy (e ▸ hx)] }

theorem setChan (h : p.Only m q) {x : Cid} (hx : m.chans x) (c : Chan) : p.Only m (q.setChan x c) :=
  trans h { refl m q with chans := fun y hy => by simp [show y ≠ x from fun e => hy (e ▸ hx)] }

theorem updTile (h : p.Only m q) {t : Nat} (ht : m.tiles t) (f : TileSt → TileSt) : p.Only m (q.updTile t f) :=
  trans h { refl m q with tiles := fun n hn => by simp [show n ≠ t from fun e => hn (e ▸ ht)] }

theorem updDie (h : p.Only m q) {t : Nat} (ht : m.dies t) (f : DieSt → DieSt) : p.Only m (q.updDie t f) :=
  trans h { refl m q with dies := fun n hn => by simp [show n ≠ t from fun e => hn (e ▸ ht)] }

theorem updRouter (h : p.Only m q) {t : Nat} (ht : m.routers t) (f : Router → Router) : p.Only m (q.updRouter t f) :=
  trans h { refl m q with routers := fun n hn => by simp [show n ≠ t from fun e => hn (e ▸ ht)] }

theorem updColl (h : p.Only m q) {t : Nat} (ht : m.colls t) (f : Coll → Coll) : p.Only m (q.updColl t f) :=
  trans h { refl m q with colls := fun n hn => by simp [show n ≠ t from fun e => hn (e ▸ ht)] }

theorem updHealth (h : p.Only m q) {t : Nat} (ht : m.healths t) (f : HealthSt → HealthSt) : p.Only m (q.updHealth t f) :=
  trans h { refl m q with healths := fun n hn => by simp [show n ≠ t from fun e => hn (e ▸ ht)] }

theorem setPtc (h : p.Only m q) {t : Nat} (ht : m.ptcs t) (c : Option Ptc) : p.Only m (q.setPtc t c) :=
  trans h { refl m q with ptcs := fun n hn => by simp [show n ≠ t from fun e => hn (e ▸ ht)] }

theorem updRegion (h : p.Only m q) {t k : Nat} (ht : m.regions (4 * t + k)) (f : RegionSt → RegionSt) : p.Only m (q.updRegion t k f) :=
  trans h { refl m q with regions := fun n hn => by simp [show n ≠ 4 * t + k from fun e => hn (e ▸ ht)] }

theorem updKeep (h : p.Only m q) (hk : m.keep) (f : KeepSt → KeepSt) : p.Only m (q.updKeep f) :=
  trans h { refl m q with keep := fun n => absurd hk n }

theorem send (h : p.Only m q) (hk : m.msgs) (e : Msg) : p.Only m (q.send e) := trans h { refl m q with msgs := fun n => absurd hk n }

theorem takeMsg (h : p.Only m q) (hk : m.msgs) (e : Msg) : p.Only m (q.takeMsg e) :=
  trans h { refl m q with msgs := fun n => absurd hk n }

theorem tookFree (h : p.Only m q) (hk : m.free) : p.Only m q.tookFree := trans h { refl m q with free := fun n => absurd hk n }

theorem clearRegs (h : p.Only m q) {f : Nat → Bool} (hf : ∀ a, f a = true → m.regs a) : p.Only m (q.clearRegs f) :=
  trans h { refl m q with regs := fun a ha => by rw [rd_clearRegs]; split <;> simp_all }

theorem clearCtrs (h : p.Only m q) {f : Nat → Bool} (hf : ∀ a, f a = true → m.ctrs a) : p.Only m (q.clearCtrs f) :=
  trans h { refl m q with ctrs := fun a ha => by rw [ctr_clearCtrs]; split <;> simp_all }

theorem flights (h : p.Only m q) (hk : m.flights) (l : List Flight) (n : Nat) : p.Only m { q with flights := l, nextFlight := n } :=
  trans h { refl m q with flights := fun e => absurd hk e }

theorem awaits (h : p.Only m q) (hk : m.awaits) (l : List Await) : p.Only m { q with awaits := l } :=
  trans h { refl m q with awaits := fun e => absurd hk e }

theorem host (h : p.Only m q) (hk : m.host) (l : HostSt) : p.Only m { q with host := l } :=
  trans h { refl m q with host := fun e => absurd hk e }

theorem latches (h : p.Only m q) (hk : m.latches) (l : List (Nat × Nat × W32)) : p.Only m { q with latches := l } :=
  trans h { refl m q with latches := fun e => absurd hk e }

theorem now (h : p.Only m q) (hk : m.now) (n : Nat) : p.Only m { q with now := n } :=
  trans h { refl m q with now := fun e => absurd hk e }

/-- A step repeated over a list, each of whose members keeps to m. -/
theorem each {α : Type} {f : Panel → α → Panel} : ∀ (l : List α) {q : Panel}, p.Only m q →
    (∀ a ∈ l, ∀ r : Panel, p.Only m r → p.Only m (f r a)) → p.Only m (q.each l f)
  | [], _, h, _ => h
  | a :: l, q, h, hf =>
    each (f := f) l (hf a (List.mem_cons_self ..) q h) (fun b hb r hr => hf b (List.mem_cons_of_mem _ hb) r hr)

end Frame

end Sys2Proof.Machine
end

