-- ==== Sys2Proof/Tests/Slice0.lean ====
section
/-!
SUPPORT. Tests: the WellFormed smoke, worked examples of the spec, and for every statement a state and operands that meet the hypotheses
of each of its clauses.
-/
namespace Sys2Proof.Tests

-- One theorem after another: the kernel evaluations of many at once would need a thread each.
set_option Elab.async false

open Sys2Proof Sys2Proof.Machine

/-! Small states. -/

/-- The reset state with another panel. -/
def st (f : Panel → Panel) : State := { State.reset with p := f State.reset.p }
/-- The panel after an answer of exec; the reset panel where it stops. -/
def after (o : Host.Outcome State Fault Refusal) : Panel := match o with | .next t => t.p | _ => State.reset.p

/-- Core 0 of tile 0. -/
def x0 : Cid := ⟨0, 0⟩
/-- Region 0 of tile 0. -/
def r0 : Rid := ⟨0, 0⟩
/-- An end in the middle of the grid. -/
def e0 : LinkEnd := .tile 13 0

/-- Core 0 of tile 0 runs, in a region in RUN. -/
def runs (p : Panel) : Panel := (p.rset 0 0 R.regionState_state 0).cset x0 R.seqStatus_state 1
/-- Core 0 of tile 0 runs, with other units. -/
def core (f : Core → Core) : State := st (fun p => (runs p).updCore x0 f)
/-- Core 0 of tile 0 runs, with another sequencer. -/
def seq (f : Seq → Seq) : State := core (fun c => { c with seq := f c.seq })
/-- Tile 0 is powered. -/
def powered (p : Panel) : Panel := p.updTile 0 (fun t => { t with rails := true, pll := true, vcoreOn := true })
/-- The keeper ring is powered, and the active keeper runs its image. -/
def ring (p : Panel) : Panel := (p.updKeep (fun k => { k with ring := true })).gset R.keeperSts_a_state 2
/-- The link end e0 in a state. -/
def link (n : Nat) (f : LinkSt → LinkSt := id) : State := st (fun p => (p.setLinkState e0 n).updLink e0 f)
/-- One packet in flight. -/
def flying (h : Header) (payload : List W64) (loc : Nat) (stage : Stage) : State :=
  st (fun p => { runs (powered p) with flights := [⟨0, mkFlits h (payload.map ssc76Enc), loc, 4, stage, 0, 0, 0⟩] })

/-! The operands that a command demands (WellFormed). -/

theorem test_wf_ok : (Instr.bundleIssue x0 [⟨12, 0, 0, true⟩]).wf = true ∧ (Instr.nop x0).wf = true := by decide

/-! Witnesses: the machine, sequencer, grid, Planer and memories. -/

theorem witness_StepRunsFront : (st id).pending = [] ∧ { st id with pending := [.nop x0] }.pending = [.nop x0] ∧
    (¬ Beyond 48000 ∧ ¬ Beyond 0) ∧ Beyond 80001 ∧ Beyond (BitVec.ofInt 32 (-60001)) := by
  unfold Beyond; decide +kernel

theorem witness_FusesKept : FusesInRange State.reset ∧ ListsInRange State.reset ∧
    step (st id) = .next { st id with p := (st id).p.tick } := by
  refine ⟨by unfold FusesInRange; decide +kernel, by unfold ListsInRange; refine ⟨?_, ?_, ?_, ?_, ?_, ?_⟩ <;> simp [State.reset, Panel.zero, KeepSt.zero, Panel.tile, sget, TileSt.zero], rfl⟩

theorem witness_RangesKept : CmdsInRange State.reset ∧ ListsInRange State.reset :=
  ⟨by unfold CmdsInRange; decide +kernel, witness_FusesKept.2.1⟩

theorem witness_MemoryKept : MemoryWf State.reset := by
  refine ⟨by decide +kernel, fun x => ?_, fun x => ?_⟩ <;> simp [State.reset, Panel.zero, Panel.core, Panel.chan, sget, Core.zero, Chan.zero, swf, srising]

theorem witness_StreamUses : (st runs).p.active x0 = true := by decide +kernel

theorem witness_SymbolCodes : (1 : BitVec 4) ≠ 0 ∧ ssc76Syn (symXor 0 18 15) = times3 15 (column76 18) ∧
    ssc76Syn (symXor (symXor 0 0 1) 1 1) ≠ (0, 0, 0) ∧ ((List.range 19).all (fun i => (List.range 15).all (fun e =>
      ssc76Syn (symXor (symXor 0 0 1) 1 1) != times3 (BitVec.ofNat 4 (e + 1)) (column76 i)))) = true ∧
    ssc528Syn (symXor 0 131 15) = (0, 0, 0, 15) ∧ ssc528Syn (symXor 0 127 1) = (1, 15, 9, quadN 15 9) ∧ namedBy 15 9 127 ∧
    namedBy 0 0 128 ∧ ssc528Syn (symXor (symXor 0 0 1) 1 1) = (0, 1, 0, quadN 0 2 ^^^ quadN 1 2) := by
  unfold namedBy; decide +kernel

theorem witness_SequencerControl : (st runs).p.active x0 = true ∧ (st runs).p.pc x0 < 2047 ∧
    ((st runs).p.core x0).seq.sreg 0 = 0 ∧ BranchHolds (st runs) x0 2 0 ∧ ¬ BranchHolds (st runs) x0 3 0 ∧
    ((seq (fun q => q.setSreg 1 5)).p.core x0).seq.sreg 1 ≠ 0 ∧ ((seq (fun q => q.setSreg 1 5)).p.core x0).seq.loops.length < 4 := by
  unfold BranchHolds; decide +kernel

theorem witness_StreamsModesTokens : (st runs).p.active x0 = true ∧ gmodeOk 0 0 = true ∧ 0 < ((st runs).p.core x0).seq.token 62 ∧
    (255 : BitVec 8) ≠ 0 ∧ OwnEndpoint (st runs) (((st runs).p.core x0).seq.sreg 3).toNat := by
  unfold OwnEndpoint; decide +kernel

theorem witness_CoreRegisterAccess : (st runs).p.active x0 = true ∧ (st runs).p.computeDead x0 = false ∧
    (rowAt (coreB 0 0 + R.seqWdog)).isSome = true ∧ ¬ actingOffset R.seqWdog ∧ R.seqWdog % 4 = 0 ∧ R.seqWdog < 0x800 ∧
    (∀ l ∈ (st runs).p.latches, ¬ (l.1 = 5 + x0.key ∧ l.2.1 = coreB 0 0 + R.seqWdog)) := by
  unfold actingOffset; decide +kernel

/-- A trap is due, and a handler is at bundle 7. -/
def trapping : State := st (fun p => ((runs p).cset x0 R.seqCtl_vec 7).updSeq x0 (fun q => { q with traps := [4, 1] }))

theorem witness_HaltTrapsWatchdog : (st runs).p.active x0 = true ∧ CmdsInRange (st runs) ∧ trapping.p.active x0 = true ∧
    trapping.p.trapDue x0 = true ∧ trapping.p.cget x0 R.seqCtl_vec ≠ 0 ∧ (∀ c ∈ (trapping.p.core x0).seq.traps, c ∈ [1, 3, 4]) ∧
    (trapping.p.core x0).drainEnd ≤ (trapping.p.core x0).seq.cycle ∧ NoBlockReset (st runs) 0 ∧
    (let s := st (fun p => ((runs p).cset x0 R.seqWdog_limit 5).updSeq x0 (fun q => { q with wdog := 5 }));
      s.p.active x0 = true ∧ 0 < s.p.cget x0 R.seqWdog_limit ∧ s.p.cget x0 R.seqWdog_limit ≤ (s.p.core x0).seq.wdog) := by
  unfold CmdsInRange NoBlockReset; decide +kernel

theorem witness_SlotsOutsideExecution : slotForm (st runs) (.br x0 4 0 0) = some (x0, false) ∧ (st runs).p.active x0 = true ∧
    slotForm (st id) (.halt x0) = some (x0, true) ∧ (st id).p.active x0 = false := by decide +kernel

theorem witness_BundleIssue : (st runs).p.active x0 = true ∧ (st runs).p.trapDue x0 = false ∧ NoBlockReset (st runs) 0 ∧
    Issuable (atDue (st runs) x0) x0 ∧
    (let p := atDue (st runs) x0;
      let b := (p.core x0).seq.bundle (p.pc x0);
      (ctlOf (slotOf b 0)).wcnt ≤ (p.core x0).seq.token (ctlOf (slotOf b 0)).wtok ∧
        (p.grantRound x0 ((p.core x0).dueReqs ++ ((p.core x0).accesses b).map mkReq) [⟨14, 31, 2047, true⟩]).1 = true) ∧
    (let s := seq (fun q => { q with prog := [(0, 2 ^ 54)] });
      let p := atDue s x0;
      let k := ctlOf (slotOf ((p.core x0).seq.bundle (p.pc x0)) 0);
      s.p.active x0 = true ∧ Issuable p x0 ∧ k.wcnt ≠ 0 ∧ (p.core x0).seq.token k.wtok < k.wcnt) := by
  unfold NoBlockReset Issuable; decide +kernel

theorem witness_WeightPlanes : (st runs).p.active x0 = true ∧ NoBlockReset (st runs) 0 ∧ ((st runs).p.core x0).loadOk 7 false = true ∧
    (let s := core (fun c => { c with grid := { c.grid with load := some ⟨1, 0, 1⟩ } });
      ∃ j, (s.p.core x0).grid.load = some j ∧ 0 < j.left) ∧
    0 < ((seq (fun q => { q with tokens := [(63, 1)] })).p.core x0).seq.token 63 ∧
    (127 : Fin 128).val < ((st runs).p.core x0).grid.active.fmt.kStored ∧
    (63 : Fin 128).val < ((st runs).p.core x0).grid.active.fmt.cols := by
  refine ⟨?_, ?_, ?_, ⟨⟨1, 0, 1⟩, ?_, ?_⟩, ?_, ?_, ?_⟩ <;> (try unfold NoBlockReset) <;> decide +kernel

theorem witness_AccumulatorWindow : (st runs).p.active x0 = true ∧ NoBlockReset (st runs) 0 ∧
    ((st runs).p.core x0).openOk 0 0 15 false = true ∧ ((st runs).p.core x0).vecOk 0 511 = true ∧
    ((st runs).p.core x0).readOk false 0 511 false = true ∧ ((st runs).p.core x0).readOk false 0 0 true = true := by
  unfold NoBlockReset; decide +kernel

theorem witness_WindowArithmetic : (∀ n ∈ [(2 ^ 67 - 1 : Int)], n.natAbs < 2 ^ 67) ∧
    (2 : Int) ^ 95 ≤ (2 ^ 95 - 1 : BitVec 96).toInt + [(1 : Int)].sum ∧
    (2 ^ 95 : BitVec 96).toInt + [(-1 : Int)].sum < -(2 ^ 95) ∧ 2 ^ 67 ≤ (-(2 ^ 67) : Int).natAbs ∧
    (3 : Int) % 2 ^ (0 + 1) ≠ 0 ∧ (3 : Int).natAbs < 2 ^ (67 + 0 + 1) := by decide +kernel

/-- A Planer slot of zeros with a function code. -/
def pln (f : Fin 16) : PlnSlot := ⟨0, false, 0, 0, 0, 0, 0, 0, 0, 1, 0, f, false, false, 0, 0⟩

theorem witness_PlanerOperations : (st runs).p.active x0 = true ∧ NoBlockReset (st runs) 0 ∧
    (∀ op, op < 12 → 1 ≤ op → ∃ f : Fin 16, ((st runs).p.core x0).plnOk false op (pln f) = true) ∧
    (let s := core (fun c => { c with pln := { c.pln with ledger := [(0, 0)] } });
      laneValid (s.p.core x0) (pln 0) 0 = true ∧ (pln 0).src = 0 ∧ -32768 < rowMax ((s.p.core x0).ledger 0)) ∧
    (7 : Fin 8) ∉ [(pln 0).ins, (pln 0).auxs, (pln 0).scs, (pln 0).sds] := by
  unfold NoBlockReset; decide +kernel

theorem witness_ScratchpadCommands : (st runs).p.active x0 = true ∧ (14 : Fin 16).val ≠ 15 ∧
    (ssc76Dec (((st runs).p.core x0).cell (2 ^ 19 - 1))).2 = .clean ∧
    ((core (fun c => { c with scrub := [(31, some ⟨31 * 16384, 0⟩)] })).p.core x0).scrubOf 31 = some ⟨31 * 16384, 0⟩ ∧
    popcount 0xFF ≤ 8 ∧ 8 < popcount 0x1FF := by decide +kernel

/-- A Larder of 4,096 slots of 64 bytes, with more of its registers and state. -/
def larder (g : Panel → Panel) : State :=
  st (fun p => g ((runs p).cset x0 R.larderDepth_nslots 4096))
/-- The same, enabled. -/
def larderOn (g : Panel → Panel) : State := larder (fun p => g (p.cset x0 R.larderCtl_en 1))
/-- A stream packet of one flit to the Larder, committed. -/
def larderPacket : Flight :=
  ⟨0, mkFlits { Header.blank with cls := clsStream, kind := kWrite, dst := 5 } (List.replicate 8 (ssc76Enc 1)), 0, 4, .committed, 0, 0, 0⟩

theorem witness_LarderCommands :
    (Alive (larder id) x0 ∧ (larder id).p.larOn x0 = false ∧ (2 ^ 31 : BitVec 32).getLsbD 31 = true ∧
      (larder id).p.larEnableOk x0 (2 ^ 31 &&& 0xFE07FFFF) = true) ∧
    (Alive (larderOn id) x0 ∧ (larderOn id).p.larOn x0 = true ∧ (0 : BitVec 32).getLsbD 31 = false ∧
      ((0 : BitVec 32) &&& 0x7E07FFFF) = ((larderOn id).p.crd x0 R.larderCtl &&& 0x7FFFFFFF) ∧ (larderOn id).p.larHeld x0 = 0 ∧
      (larderOn id).p.larSpillHeld x0 = 0 ∧ ((larderOn id).p.core x0).larder.writing = 0) ∧
    (let s := larderOn (fun p => p.cset x0 R.larderStatus_held 3);
      Alive s x0 ∧ 0 < bits (3 : BitVec 32) 15 0 ∧ bits (3 : BitVec 32) 15 0 ≤ s.p.larHeld x0) ∧
    (let s := larderOn (fun p => { p with flights := [larderPacket] });
      Alive s x0 ∧ s.p.committedAt 0 x0 5 = some larderPacket ∧
        s.p.larderRefuse x0 larderPacket.hdr (64 * larderPacket.hdr.length) = stOk ∧ s.p.larSpillHeld x0 = 0 ∧ 0 < s.p.larFree x0 ∧
        s.p.larHeld x0 < 65535) ∧
    (let s := larderOn (fun p => p.cwr x0 R.larderSpillHeld 1);
      Alive s x0 ∧ s.p.larOn x0 = true ∧ 0 < s.p.larSpillHeld x0 ∧ 0 < s.p.larFree x0 ∧ s.p.larHeld x0 < 65535) ∧
    (let s := larderOn (fun p => ((p.cset x0 R.larderStatus_held 4096).cset x0 R.larderDepth_spill 4).updCore x0 (fun c =>
        { c with larder := { c.larder with timer := 65535 } }));
      Alive s x0 ∧ s.p.larWaiting x0 = true ∧ s.p.regionState x0 = 0 ∧
        bits (s.p.crd x0 R.larderTimeout) 15 0 ≤ (s.p.core x0).larder.timer ∧ s.p.cget x0 R.larderDepth_spill ≠ 0 ∧
        s.p.larSpillMode x0 = false) := by
  unfold Alive NoBlockReset; decide +kernel

/-- A descriptor of an operation from the core's scratchpad to its channel, with one piece. -/
def desc (op next : Nat) : Desc :=
  ⟨0, 0, [w64 op, 2, 0, 6, 0, 64, 0, 0], true, 0, [⟨0, chanBytes - 64, 6, 64⟩], next, [], 0, false, [], 0, [], []⟩
/-- The core with that descriptor in progress. -/
def moving (op next : Nat) : State := core (fun c => { c with descs := [desc op next] })

theorem witness_DmaEngine :
    (let s := core (fun c => { c with dmaq := [8, 16] });
      Alive s x0 ∧ s.p.draining x0 = false ∧ (s.p.core x0).dmaq = 8 :: [16] ∧ (s.p.core x0).descs.length < 4) ∧
    (∀ op ∈ [1, 2, 3, 4], Alive (moving op 0) x0 ∧ (moving op 0).p.draining x0 = false ∧
      ((moving op 0).p.core x0).descs[0]? = some (desc op 0) ∧ (desc op 0).op = op ∧ (desc op 0).status = 0 ∧
      (desc op 0).planned = true ∧ (moving op 0).p.ownUnit x0 (desc op 0).src 2 = true ∧
      (desc op 0).pieces[0]? = some ⟨0, chanBytes - 64, 6, 64⟩ ∧ (desc op 0).next + 1 = (desc op 0).pieces.length ∧
      (moving op 0).p.ownUnit x0 6 6 = true ∧ chanBytes - 64 + 64 ≤ chanBytes ∧
      ((moving op 0).p.pieceData x0 (desc op 0) 0 ⟨0, chanBytes - 64, 6, 64⟩).1 = some (List.replicate 8 0)) ∧
    (((moving 1 1).p.core x0).descs[0]? = some (desc 1 1) ∧ (desc 1 1).sent = true ∧ (moving 1 1).p.descQuiet x0 (desc 1 1) = true ∧
      (desc 1 1).noWord0 = false ∧ (desc 1 1).op ≠ 4 ∧ (desc 1 1).token < 62 ∧ (desc 1 1).rtv = false ∧
      ((moving 1 1).p.core x0).seq.token 62 < 65535) := by
  unfold Alive NoBlockReset; decide +kernel

/-- A request of a wide row of a bank. -/
def dreq (off : Nat) (d : Option (BitVec 512)) : DReq := ⟨0, 0, off, d, .desc 0 0⟩
/-- The channel of core 0, working. -/
def chan (f : Chan → Chan) : State := st (fun p => (powered p).updChan x0 (fun h => f { h with inited := true, slot := 16 }))

theorem witness_DramAccesses :
    (∀ k, k < 2 →
      let d := if k = 0 then none else some (1 : BitVec 512);
      let s := chan (fun h => { h with q0 := [dreq 0 d] });
      (s.p.chan x0).inited = true ∧ s.p.selfref x0 = false ∧ (s.p.chan x0).starts < capStarts (s.p.tget 0 R.dramTherm_cap) ∧
        (s.p.chan x0).arb.pick 2 ((if (offered (s.p.chan x0) 0).isSome then [0] else []) ++
          (if (offered (s.p.chan x0) 1).isSome then [1] else [])) = some 0 ∧ offered (s.p.chan x0) 0 = some (dreq 0 d)) ∧
    (let s := chan (fun h => { h with q1 := [dreq 0 none] });
      (s.p.chan x0).arb.pick 2 ((if (offered (s.p.chan x0) 0).isSome then [0] else []) ++
          (if (offered (s.p.chan x0) 1).isSome then [1] else [])) = some 1 ∧ offered (s.p.chan x0) 1 = some (dreq 0 none)) ∧
    (let s := chan (fun h => { h with reads := [⟨dreq 0 none, 1⟩] });
      (s.p.chan x0).reads[0]? = some ⟨dreq 0 none, 1⟩ ∧ NoBlockReset s 0 ∧ (ssc528Dec (1 : BitVec 528)).2 ≠ .uncorrectable ∧
        (ssc528Dec (0x11 : BitVec 528)).2 = .uncorrectable) ∧
    (∃ k, refreshDue ((chan id).p.dblRefresh x0) k = true ∧
      (chan (fun h => { h with maint := [(63, k)] })).p.selfref x0 = false) ∧
    (let s := chan (fun h => { h with scrub := [⟨63 * 98560, 0⟩] });
      s.p.selfref x0 = false ∧ ∃ k, refreshDue (s.p.dblRefresh x0) k = false ∧
        (s.p.chan x0).scrub.find? (fun e => cellBank e.row == 63) = some ⟨63 * 98560, 0⟩) := by
  refine ⟨by decide +kernel, by decide +kernel, by unfold NoBlockReset; decide +kernel, ⟨0, by decide +kernel⟩, ?_⟩
  exact ⟨by decide +kernel, 1, by decide +kernel⟩

theorem witness_DramRetirementAndStart :
    ((2 ^ 31 + 3071 : BitVec 32).getLsbD 31 = true ∧ (chan id).p.cget x0 R.dramStatus_retire_busy = 0 ∧
      bits (2 ^ 31 + 3071 : BitVec 32) 11 0 ≤ 3071 ∧
      (∀ r ∈ ((chan id).p.chan x0).remaps, ¬ (r.bank = bits (2 ^ 31 + 3071 : BitVec 32) 23 18 ∧
        r.spare = bits (2 ^ 31 + 3071 : BitVec 32) 26 24))) ∧
    3071 < bits (2 ^ 31 + 3072 : BitVec 32) 11 0 ∧
    ((chan (fun h => { h with retire := some ⟨63, 3071, 7, true⟩ })).p.chan x0).retire = some ⟨63, 3071, 7, true⟩ ∧
    ((st powered).p.chan x0).inited = false ∧ (st powered).p.tilePowered 0 = true := by decide +kernel

/-! Witnesses: the mesh. -/

/-- A WRITE of one flit to a unit of tile 0. -/
def wr1 (dst : Nat) : Header := { Header.blank with cls := clsStream, kind := kWrite, dst := dst }
/-- Eight words of 1. -/
def ones : List W64 := List.replicate 8 1
/-- The packet of a state with one. -/
def pkt (s : State) : Flight := (s.p.flight 0).getD ⟨1, [], 0, 0, .transit, 0, 0, 0⟩

theorem witness_PacketMovement :
    (let w := (wr1 2).words;
      Header.of (w.getD 0 0) (w.getD 1 0) (w.getD 2 0) (w.getD 3 0) = wr1 2 ∧ (st powered).p.forwards (rtrOf (.core x0)) = true ∧
        (wr1 2).lenOk = true ∧ (st powered).p.check3 (rtrOf (.core x0)) (wr1 2) = true) ∧
    (let s := flying (wr1 10) ones 0 .transit;
      s.p.flight 0 = some (pkt s) ∧ (pkt s).stage = .transit ∧ (pkt s).loc < 9216 ∧ s.p.forwards (pkt s).loc = true ∧
        s.p.hop (pkt s) = .out 1 0 ∧ (s.p.outRound (pkt s).loc 1).1 = some (pkt s) ∧ edgeLink ((pkt s).loc % 64) 1 = none ∧
        coreAcross ((pkt s).loc % 64) 1 = some 1) ∧
    (let s := flying (wr1 2) ones 0 .dest;
      s.p.flight 0 = some (pkt s) ∧ (pkt s).stage = .dest ∧ s.p.atHead (pkt s) = true ∧ s.p.check6 (pkt s) = true ∧
        (pkt s).readOk = true ∧ s.p.check7 (pkt s) = some 0 ∧ s.p.check8 (pkt s) = 0 ∧ (pkt s).check9.isSome = true) := by decide +kernel

/-- A READ of 64 bytes of core 0's scratchpad, from core 0's DMA engine. -/
def rd1 : Header := { Header.blank with cls := clsReq, kind := kRead, dst := 2, src := 3, xfer := 5 }
/-- A header without payload of a kind. -/
def ctl1 (cls kind dst : Nat) : Header := { Header.blank with cls := cls, kind := kind, dst := dst, xfer := 5, tokv := true, token := 61 }
/-- A state in which a request awaits its answer. -/
def waiting (s : State) (src kind : Nat) : State := { s with p := { s.p with awaits := [⟨src, 5, kind, 2, 0, 0⟩] } }

theorem witness_PacketEffects :
    (let s := flying (wr1 2) ones 0 .committed;
      (pkt s).loc < 9216 + 22 ∧ s.p.committed 0 kWrite = some (pkt s) ∧ (Ep.of (pkt s).hdr.dst).unit = 2) ∧
    (let s := flying (wr1 (15 * 2 ^ 13 + 15 * 2 ^ 9 + 19 * 8 + 3)) ones (9216 + 19) .committed;
      s.p.committed 0 kWrite = some (pkt s) ∧ 9216 + 16 ≤ (pkt s).loc ∧ (pkt s).loc < 9216 + 20) ∧
    (let s := flying (wr1 4) ones 0 .committed; s.p.committedAt 0 x0 4 = some (pkt s) ∧ (pkt s).hdr.kind = kWrite) ∧
    (let s := flying rd1 [0, 64 + 3 * 2 ^ 32] 0 .committed;
      s.p.committed 0 kRead = some (pkt s) ∧ (pkt s).loc < 9216 ∧ (Ep.of (pkt s).hdr.dst).unit = 2 ∧ coreAt (pkt s) = x0 ∧
        (∀ src, src < 25 → s.p.reaction 0 src ≠ 3) ∧ (s.p.spadReads x0 ((pkt s).unitOff / 8) ((pkt s).bytes / 8)).2.1 = false ∧
        (pkt s).reply.lenOk = true ∧ s.p.check3 (pkt s).loc (pkt s).reply = true) ∧
    (let s := waiting (flying { wr1 2 with kind := kRdata, xfer := 5 } ones 0 .committed) 2 kRead;
      s.p.committed 0 kRdata = some (pkt s) ∧ (Ep.of (pkt s).hdr.dst).unit = 2 ∧ s.p.answers (pkt s) = some ⟨2, 5, kRead, 2, 0, 0⟩ ∧
        (Ep.of 2).isDie = false) ∧
    (let s := flying (ctl1 clsReq kPost 0) [255, 0, 0, 0] 0 .committed;
      s.p.committed 0 kPost = some (pkt s) ∧ (pkt s).loc < 9216) ∧
    (let s := waiting (flying (ctl1 clsRsp kStatus 3) [5 * 2 ^ 16 + kWrite * 2 ^ 8, 0, 0, 0] 0 .committed) 3 kWrite;
      s.p.committed 0 kStatus = some (pkt s) ∧ s.p.answers (pkt s) = some ⟨3, 5, kWrite, 2, 0, 0⟩ ∧ (Ep.of 3).isDie = false) ∧
    (let s := waiting (st (fun p => { (p.cset x0 R.rspTimeout_limit 10) with now := 10 })) 3 kWrite;
      s.p.awaiting 3 5 = some ⟨3, 5, kWrite, 2, 0, 0⟩ ∧ 0 < s.p.cget (cid (Ep.of 3).tile (Ep.of 3).core) R.rspTimeout_limit ∧
        0 + s.p.cget (cid (Ep.of 3).tile (Ep.of 3).core) R.rspTimeout_limit ≤ s.p.now) := by decide +kernel

theorem witness_RouterFaults :
    (edgeLink x0.c.val 1 = none ∧ coreAcross x0.c.val 1 = some 1 ∧
      ((st (fun p => p.updRouter 1 (fun r => { r with faulted := true }))).p.router (rtrCore 0 1)).faulted = true ∧
      ((st (fun p => p.updRouter 1 (fun r => { r with resetting := true }))).p.router (rtrCore 0 1)).resetting = true) ∧
    (let s := st (fun p => (p.tset 0 R.arbStarveLimit_limit 7).updCore x0 (fun c =>
        { c with banks := [(31, { Arb.zero with run := [(14, 7)] })] }));
      NoBlockReset s 0 ∧ 0 < s.p.tget 0 R.arbStarveLimit_limit ∧
        s.p.tget 0 R.arbStarveLimit_limit ≤ sget (fun _ => 0) ((s.p.core x0).bankArb 31).run 14 ∧
        14 ∉ ((s.p.core x0).bankArb 31).flagged) := by
  unfold NoBlockReset; decide +kernel

/-! Witnesses: Frepor links. -/

theorem witness_LinkGoesDown :
    (let s := link 8 (fun l => { l with resent := [(0, 16)] });
      s.p.linkServes e0 = true ∧ ∃ r ∈ (s.p.link e0).resent, 16 ≤ r.2) ∧
    (∀ n ∈ [1, 7], let s := { link n with p := { (link n).p with now := phaseBound n } };
      1 ≤ s.p.linkState e0 ∧ s.p.linkState e0 ≤ 7 ∧ (s.p.link e0).since + phaseBound (s.p.linkState e0) ≤ s.p.now) ∧
    (∀ n ∈ [1, 9], 1 ≤ (link n).p.linkState e0 ∧ (link n).p.linkState e0 ≤ 9) := by
  decide +kernel

theorem witness_LinkNegotiation :
    ((link 3).p.linkState e0 = 3 ∧ creditsOk (capOf e0) = true ∧ (negotiate (capOf e0) (capOf e0)).isSome = true) ∧
    (let s := link 3 (fun l => { l with own := some 2, restarts := 2 });
      s.p.linkState e0 = 3 ∧ (s.p.link e0).own = some 2 ∧ 2 % 2 ^ 40 = (2 : BitVec 512).toNat % 2 ^ 40 ∧
        2 % 2 ^ 40 ≠ (3 : BitVec 512).toNat % 2 ^ 40 ∧ (s.p.link e0).restarts < 3) ∧
    (let s := link 6 (fun l => { l with msg := some (phaseMsg 6, 0) });
      s.p.linkState e0 ≠ 0 ∧ s.p.linkState e0 < 8 ∧ s.p.linkState e0 ≤ (6 : BitVec 8).toNat ∧
        (s.p.link e0).msg = some (phaseMsg (6 : BitVec 8).toNat, 0)) ∧
    ((link 7).p.linkState e0 ≤ (8 : BitVec 8).toNat ∧ ((link 7).p.link e0).msg = none) ∧
    (∀ ph ∈ [2, 3, 4, 8], ((link 1 (fun l => { l with switchTo := some ph, cap := some (capOf e0) })).p.link e0).switchTo = some ph) := by
  decide +kernel

/-- The tile of e0 and its partner's run. -/
def pair (s : State) : State :=
  { s with p := (s.p.updTile 13 (fun t => { t with pll := true })).updTile 1 (fun t => { t with pll := true }) }
/-- The other end of e0's sub-link. -/
def e1 : LinkEnd := .tile 1 16
/-- Eight positions with spares. -/
def full : List (Nat × Nat) := (List.range 8).map (fun i => (i, i))

theorem witness_LinkTraining :
    (linkPartner e0 = some e1 ∧ ∀ n ∈ [0, 10], (pair (link n)).p.linkRuns e0 = true ∧ (pair (link n)).p.linkRuns e1 = true ∧
      (pair (link n)).p.linkHeld e0 = false ∧ (pair (link n)).p.linkHeld e1 = false ∧ (pair (link n)).p.linkState e0 = n ∧
      (pair (link n)).p.linkState e1 ≤ 7) ∧
    ((link 1).p.linkState e0 = 1 ∧ (link 2).p.linkState e0 = 2 ∧ (link 5).p.linkState e0 = 5 ∧ (link 6).p.linkState e0 = 6 ∧
      (link 9).p.linkState e0 = 9) ∧
    (addSpares ((link 2).p.link e0).rxMap [169] = some [(169, 0)] ∧
      addSpares ((link 2 (fun l => { l with rxMap := full })).p.link e0).rxMap [169] = none) ∧
    (let s := link 2 (fun l => { l with msg := some (spareMsg [], 0) });
      (s.p.link e0).msg = some (spareMsg [], 0) ∧ (s.p.link e0).msg ≠ some (spareMsg [(1, 0)], 0)) ∧
    bits ((link 6).p.marginTh e0) 13 8 ≤ (63 : BitVec 6).toNat ∧
    (let s := link 9 (fun l => { l with pongs := 15, delays := 32 });
      let s := { s with p := s.p.nset e0 R.linkSts_feat 2 };
      s.p.linkState e0 = 9 ∧ s.p.timeSync e0 = true ∧ 15 ≤ (s.p.link e0).pongs) := by
  decide +kernel

/-- A frame's side data with its CRC. -/
def side (d : BitVec 512) (sd : BitVec 168) : BitVec 168 := sd ||| ((frameCrc d sd).zeroExtend 168 <<< 141)
/-- Side data of a frame type, with the head and tail marks, and sequence number 1023. -/
def sd0 (ftype : Nat) : BitVec 168 := BitVec.ofNat 168 (ftype * 2 ^ 104 + 1023 * 2 ^ 107 + 3 * 2 ^ 99)

theorem witness_LinkFrames :
    (1 ≤ (link 1).p.linkState e0 ∧ (link 9).p.linkState e0 ≤ 9 ∧ frameOk 0 1 = false) ∧
    (let s := link 8 (fun l => { l with expect := 1023 });
      let sd := side 5 (sd0 1);
      1 ≤ s.p.linkState e0 ∧ frameOk 5 sd = true ∧ bits sd 105 104 = 1 ∧ frameEnd e0 sd = e0 ∧ s.p.linkServes e0 = true ∧
        (s.p.link e0).fifo < 64 ∧ (s.p.link e0).expect = bits sd 116 107 ∧ (((s.p.link e0).assemble (frameFlit 5 sd).1 (bits sd 98 96)).2).isSome = true) ∧
    (let sd := side 5 (sd0 0); frameOk 5 sd = true ∧ bits sd 105 104 = 0 ∧ (link 8).p.linkServes (frameEnd e0 sd) = true ∧
      ((link 8 (fun l => { l with fifo := 63 })).p.link e0).fifo < 64) ∧
    (∀ k ∈ [0, 1, 2, 3, 4, 5, 6, 9, 10, 255],
      let sd := side (BitVec.ofNat 512 k) (sd0 2);
      frameOk (BitVec.ofNat 512 k) sd = true ∧ bits sd 105 104 = 2 ∧ (link 2).p.linkServes (frameEnd e0 sd) = false ∧
        msgByte (BitVec.ofNat 512 k) 0 = k) ∧
    (let s := link 8 (fun l => { l with replay := [(0, ⟨[], 0, true, true⟩)] });
      s.p.linkServes e0 = true ∧ (s.p.link e0).replay ≠ [] ∧
        ((s.p.link e0).acked s.p.now ((0 + 1023) % 1024)).again 0 ≠ [] ∧ (s.p.link e0).ackAt + 2 ≤ s.p.now + 2) ∧
    (let s := { link 8 (fun l => { l with replay := [(0, ⟨[], 0, true, true⟩)] }) with
        p := { (link 8 (fun l => { l with replay := [(0, ⟨[], 0, true, true⟩)] })).p with now := 2 } };
      s.p.linkServes e0 = true ∧ (s.p.link e0).replay ≠ [] ∧ (s.p.link e0).ackAt + 2 ≤ s.p.now) := by
  decide +kernel

theorem witness_LinkRetraining :
    (let s := { link 3 (fun l => { l with msg := some (7, 0) }) with p := { (link 3 (fun l => { l with msg := some (7, 0) })).p with now := 1 } };
      (s.p.link e0).msg = some (7, 0) ∧ 0 + 1 ≤ s.p.now) ∧
    ((link 8).p.linkState e0 = 8 ∧ (0 : BitVec 6).toNat < bits ((link 8).p.marginTh e0) 5 0 ∧ ((link 8).p.link e0).low = false ∧
      bits ((link 8).p.marginTh e0) 5 0 + 2 ≤ (63 : BitVec 6).toNat) ∧
    (e0 = .tile 13 0 ∧ (2 : BitVec 32).getLsbD 0 = false ∧ (3 : BitVec 32).getLsbD 0 = true ∧ ((link 8).p.link e0).retrain = 0) ∧
    (linkPartner e0 = some e1 ∧ (pair (link 10)).p.linkState e0 = 10 ∧ (pair (link 10)).p.linkRuns e0 = true ∧
      (pair (link 10)).p.linkRuns e1 = true) ∧
    (let s := { link 8 with p := (link 8).p.setLinkState (linkTwin e0) 8 };
      s.p.linkState e0 = 8 ∧ s.p.linkState (linkTwin e0) = 8 ∧ (∀ f ∈ linkSiblings e0, s.p.linkState f ≠ 9) ∧
        (s.p.link e0).retrain ≠ 1) ∧
    ((link 8).p.linkState (linkTwin e0) ≠ 8) ∧
    (let s := { link 8 with p := (link 8).p.setLinkState (.tile 13 7) 9 }; ∃ f ∈ linkSiblings e0, s.p.linkState f = 9) ∧
    (linkIdent e0 ≠ partnerIdent e0 ∧ ((link 8 (fun l => { l with retrain := 1 })).p.link e0).retrain = 1) ∧
    (linkIdent e0 < partnerIdent e0 ∧ partnerIdent e1 < linkIdent e1) ∧
    ((link 9).p.linkState e0 = 9 ∧ addSpares ((link 9).p.link e0).rxMap [169] = some [(169, 0)]) := by
  decide +kernel

/-! Witnesses: clocks, time and power. -/

/-- Region 0 of tile 0 in RUN, with more. -/
def reg (f : RegionSt → RegionSt) (g : Panel → Panel := id) : State :=
  st (fun p => g ((((powered p).rset 0 0 R.regionState_state 0).rset 0 0 R.dcoSts_wake 0).updRegion 0 0 f))

theorem witness_RegionFrequency :
    ((reg id).p.rget 0 0 R.regionState_state = 0 ∧ (reg id).p.rget 0 0 R.dcoSts_wake = 0 ∧ ((reg id).p.region 0 0).calm < 99 ∧
      99 ≤ ((reg (fun g => { g with calm := 99 })).p.region 0 0).calm ∧ (1 : Fin 33).val < 2 ∧ 2 ≤ (3 : Fin 33).val ∧ 4 ≤ (32 : Fin 33).val) ∧
    ((reg id).p.dcoOn 0 0 = true ∧ (1 : BitVec 32) ≠ 0 ∧ (reg id).p.rget 0 0 R.dcoSts_stretch = 0 ∧
      ((reg (fun g => { g with droop := 8 })).p.region 0 0).droop ≤ 8 ∧ (reg id).p.rget 0 0 R.regionPwr_forced = 0 ∧
      ((reg id).p.region 0 0).vf = none) ∧
    (let s := reg (fun g => { g with vf := some ⟨100, 3, none⟩ });
      (s.p.region 0 0).vf = some ⟨100, 3, none⟩ ∧ CmdsInRange s) := by
  unfold CmdsInRange; decide +kernel

/-- The master runs, and its first sub-link is ACTIVE with time sync. -/
def master : State :=
  st (fun p => let p := (ring p).setPtc p.keeperNode (some ⟨0, 0, 0⟩); let e := timeEnd p.keeperNode 0 0;
    (p.setLinkState e 8).nset e R.linkSts_feat 2)
/-- A TIME message is on its way to tile 13 from tile 1, its parent, with flags. -/
def timing (flags : Nat) (valid : Bool) : State :=
  st (fun p => { ((((p.tset 13 R.timeTree_parent 0).nset e0 R.linkDelay_valid 1).setPtc 13 (some ⟨0, 0, 0⟩)).setPtcBit 13 31 valid) with
    msgs := [⟨0x20, 1, 13, [254, flags, 5, 1, 0]⟩], now := 3000 })

theorem witness_PanelTimeTree :
    (master.p.ptc master.p.keeperNode = some ⟨0, 0, 0⟩ ∧ master.p.timeSub master.p.keeperNode 0 = some 0) ∧
    (let s := timing 3 true;
      s.p.msgs.find? (fun m => m.kind == 0x20 && m.dst == 13) = some ⟨0x20, 1, 13, [254, 3, 5, 1, 0]⟩ ∧
        s.p.timeOk 13 ⟨0x20, 1, 13, [254, 3, 5, 1, 0]⟩ = false) ∧
    (∀ v ∈ [false, true], let s := timing 1 v;
      let m : Msg := ⟨0x20, 1, 13, [254, 1, 5, 1, 0]⟩;
      s.p.msgs.find? (fun m => m.kind == 0x20 && m.dst == 13) = some m ∧ s.p.timeOk 13 m = true ∧
        s.p.ptc 13 = some ⟨0, 0, 0⟩ ∧ 13 ≠ s.p.keeperNode ∧ s.p.ptcBit 13 31 = v ∧ s.p.ptcBit 13 29 = false ∧
        (timeOffset 1024 0 0).natAbs ≤ 1024 ∧ 1024 < (timeOffset 1025 0 0).natAbs ∧ 0 + 3000 ≤ s.p.now) ∧
    ((st powered).p.tile 0).rails = true := by
  decide +kernel

theorem witness_ClocksAndPps :
    (let s := st (fun p => p.updTile 0 (fun t => { t with rails := true })); (s.p.tile 0).rails = true ∧ (s.p.tile 0).pll = false) ∧
    (let s := st (fun p => p.updDie 21 (fun t => { t with rails := true })); (s.p.die 21).rails = true ∧ (s.p.die 21).pll = false) ∧
    ((st powered).p.nodePll (nodeNum (.tile 0)) = true) ∧
    (master.p.ptc master.p.keeperNode = some ⟨0, 0, 0⟩ ∧ master.p.timeSrc ≠ 2 ∧
      (st (fun p => p.kset R.ptcCtl_src 2)).p.timeSrc = 2 ∧ (999000000 - 1000000000 : Int).natAbs ≤ 1000000 ∧
      1000000 < (1000001 : Int).natAbs) ∧
    (let s := st (fun p => { ring p with now := 3000000 }); s.p.keep.ring = true ∧ s.p.keep.ppsAt + 3000000 ≤ s.p.now) := by
  decide +kernel

/-- The keeper's own state changed, with the ring powered. -/
def keeper (f : KeepSt → KeepSt) (g : Panel → Panel := id) : State := st (fun p => g ((ring p).updKeep f))

theorem witness_FeedsAndConverters :
    ((80001 : BitVec 32).toInt > 80000 ∧ (BitVec.ofInt 32 (-60001)).toInt < -60000 ∧ -60000 ≤ (BitVec.ofInt 32 (-60000)).toInt ∧
      (80000 : BitVec 32).toInt ≤ 80000) ∧
    (let s := keeper (fun k => { k with sampled := true, fineA := some 0 }) (fun p => { (p.kset R.feedSts_sa 3) with now := 100000 });
      s.p.keep.ring = true ∧ s.p.keep.sampled = true ∧ s.p.kget R.feedSts_sa = 3 ∧ s.p.keep.fineA = some 0 ∧
        0 + 100000 ≤ s.p.now ∧ feedClass 42000 ≤ 1) ∧
    (keeper (fun k => { k with sampled := true }) (fun p => (p.kset R.feedSts_sa 0).kset R.feedSts_sb 2)).p.kget R.feedSts_sa ≠ 3 ∧
    (keeper (fun k => { k with sampled := true }) (fun p => (p.kset R.feedSts_sa 0).kset R.feedSts_sb 2)).p.kget R.feedSts_sb ≠ 3 ∧
    (st ring).p.keep.dark = false ∧
    (after (exec (.feedSample 0 0 0 0) (st ring))).keep.dark = true ∧
    (keeper (fun k => { k with dark := true })).p.keep.dark = true ∧
    (∀ n, n < 3 → let s := keeper (fun k => { k with ibc := [(15, n), (16, n)] });
      sget (fun _ => 0) s.p.keep.ibc 15 = n ∧ sget (fun _ => 0) s.p.keep.ibc 16 = n) ∧
    ((st powered).p.tile 0).rails = true ∧ (keeper (fun k => { k with queue := [143] })).p.keep.queue.head? = some 143 ∧
    CmdsInRange (st powered) := by
  unfold CmdsInRange; decide +kernel

theorem witness_CellsAndVoltage :
    (∀ n ∈ [0, 15, 17, 63], let s := reg id (fun p => p.rset 0 0 R.regionPwr_cells n);
      (s.p.tile 0).vcoreOn = true ∧ s.p.rget 0 0 R.regionPwr_cells < 64 ∧ s.p.rget 0 0 R.regionPwr_cells ≠ 16 ∧
        s.p.rget 0 0 R.regionState_state ≠ 3) ∧
    (let s := reg id (fun p => p.rset 0 0 R.regionPwr_cells 16); s.p.rget 0 0 R.regionPwr_cells = 16 ∧ CmdsInRange s) ∧
    (let s (vr vs vc : Nat) := reg (fun g => { g with vf := some ⟨64, 2, none⟩, vr := vr }) (fun p =>
        (p.wr (tileB 0 + R.vfPoint) (w32 (64 + 700 * 2 ^ 16))).updTile 0 (fun t => { t with vsram := vs, vcore := vc }));
      (s 0 0 0).p.needV 0 0 64 = 700 ∧ ((s 0 0 0).p.region 0 0).vr < 700 ∧ ((s 0 0 0).p.tile 0).vsram < vsramFor ((s 0 0 0).p.topV 0 0 700) ∧
        vsramFor ((s 0 850 0).p.topV 0 0 700) ≤ ((s 0 850 0).p.tile 0).vsram ∧ ((s 0 850 0).p.tile 0).vcore < 700 + 20 ∧
        vsramFor ((s 0 850 720).p.topV 0 0 700) ≤ ((s 0 850 720).p.tile 0).vsram ∧ 700 + 20 ≤ ((s 0 850 720).p.tile 0).vcore ∧
        (s 700 850 720).p.needV 0 0 64 ≤ ((s 700 850 720).p.region 0 0).vr ∧ CmdsInRange (s 0 0 0)) ∧
    (let s := reg id (fun p => p.wr (tileB 0 + R.vfPoint) (w32 (255 + 700 * 2 ^ 16)));
      s.p.vf 0 (s.p.rget 0 0 R.dcoCtl_target) = 700 ∧ s.p.vf 0 68 = 700 ∧ (2 ^ 31 + 699 : BitVec 32).getLsbD 31 = true ∧
        bits (2 ^ 31 + 699 : BitVec 32) 9 0 < 700 ∧ bits (2 ^ 31 + 549 : BitVec 32) 9 0 < 550 ∧
        880 < bits (2 ^ 31 + 881 : BitVec 32) 9 0 ∧ 700 ≤ bits (2 ^ 31 + 880 : BitVec 32) 9 0 ∧
        550 ≤ bits (2 ^ 31 + 880 : BitVec 32) 9 0 ∧ bits (2 ^ 31 + 880 : BitVec 32) 9 0 ≤ 880) := by
  unfold CmdsInRange; decide +kernel

/-- Region 0 of tile 0 is being powered, beside regions in RUN. -/
def waking (u : PowerUp) (stage : Nat) : State :=
  st (fun p => (((((powered p).updTile 0 (fun t => { t with upq := [0] })).updRegion 0 0 (fun g => { g with up := some u })).rset 0 0
    R.regionPwr_stage stage).rset 0 1 R.regionState_state 0).tset 0 R.admitCtl_peak 100)

theorem witness_HeaderSwitches :
    (let s := waking ⟨0, false⟩ 7;
      (s.p.region 0 0).up = some ⟨0, false⟩ ∧ s.p.powering 0 0 = true ∧ peaks s r0 0 0 = [] ∧
        s.p.rget 0 0 R.regionPwr_stage = 7 ∧ peaks s r0 255 255 ≠ []) ∧
    (let s := waking ⟨200, false⟩ 0; (s.p.region 0 0).up = some ⟨200, false⟩ ∧ s.p.powering 0 0 = true ∧ 200 ≤ 200) ∧
    (let s := waking ⟨200, true⟩ 0; (s.p.region 0 0).up = some ⟨200, true⟩ ∧ s.p.powering 0 0 = true) ∧
    (∀ r : Fin 4, ((st powered).p.region 0 r).up = none) ∧
    (∀ h ∈ [199, 200], let s := keeper (fun k => { k with queue := [0], holds := h, reports := [(1, some ⟨0, 0, 1023, 0⟩)] }) (fun p =>
        ((powered p).updTile 0 (fun t => { t with vcoreOn := false })).updTile 1 (fun t => { t with rails := true }));
      s.p.keep.queue.head? = some 0 ∧ (s.p.tile 0).rails = true ∧ (s.p.tile 0).vcoreOn = false ∧ s.p.tilePeak 0 ≠ [] ∧
        s.p.keep.holds = h ∧ 1 ∈ s.p.tileNear 0) ∧
    (let s := keeper (fun k => { k with queue := [0] }) (fun p => (powered p).updTile 0 (fun t => { t with vcoreOn := false }));
      s.p.tilePeak 0 = [] ∧ CmdsInRange s) ∧
    (∀ h ∈ [199, 200], ∀ used ∈ [0, 1023], let s := keeper (fun k => { k with
        swaps := [⟨13, 0, none, false, some h⟩], reports := [(1, some ⟨0, 0, used, 0⟩)] }) (fun p =>
        (((powered p).updTile 13 (fun t => { t with rails := true })).updTile 1 (fun t => { t with rails := true })).rset 13 0
          R.regionState_state 3);
      s.p.keep.queue.head? ≠ some 13 ∧ s.p.swapOf 13 = some ⟨13, 0, none, false, some h⟩ ∧ (s.p.tilePeak 13 = [] ↔ used = 0) ∧
        1 ∈ s.p.tileNear 13 ∧ s.p.rget 13 0 R.regionState_state = 3) := by
  unfold CmdsInRange; decide +kernel

/-! Witnesses: power states, heat, budgets and cooling. -/

/-- Region 0 of tile 0 with a handshake towards a state, in which one block has been asked. -/
def asked (target unit : Nat) (a : Bool × Bool × Nat) (f : Core → Core := id) (g : Panel → Panel := id) : State :=
  reg (fun r => { r with hs := some ⟨target, 0, [⟨0, unit, a.1, a.2.1, a.2.2⟩]⟩ }) (fun p => g (p.updCore x0 f))

theorem witness_EntryHandshake :
    (let s := asked 2 3 (false, true, 0);
      CmdsInRange s ∧ (s.p.region x0.t (regionOf x0.c)).hs = some ⟨2, 0, [⟨0, 3, false, true, 0⟩]⟩ ∧
        ([⟨0, 3, false, true, 0⟩] : List HsAnswer).find? (fun a => a.core == x0.c.val && a.unit == 3 && a.asked && !a.accepted) =
          some ⟨0, 3, false, true, 0⟩ ∧ s.p.hsAnswer x0 3 2 false = .accept) ∧
    (let s := asked 2 3 (false, true, 0) (fun c => { c with dmaq := [64] });
      CmdsInRange s ∧ s.p.hsAnswer x0 3 2 false = .delay 1) ∧
    (let s := asked 1 0 (false, true, 0) id (fun p => p.cset x0 R.seqStatus_state 1);
      CmdsInRange s ∧ s.p.hsAnswer x0 0 1 false = .refuse 1) ∧
    (∀ target ∈ [1, 2, 3], let s := asked target 0 (true, true, 0);
      CmdsInRange s ∧ (s.p.region 0 0).hs = some ⟨target, 0, [⟨0, 0, true, true, 0⟩]⟩) ∧
    (let s := asked 3 0 (false, true, 0) id (fun p => { p with now := 65535 });
      CmdsInRange s ∧ (s.p.region 0 0).hs = some ⟨3, 0, [⟨0, 0, false, true, 0⟩]⟩ ∧
        0 + bits (s.p.rd (tileB 0 + R.pwrHsLimit)) 15 0 ≤ s.p.now) ∧
    (∀ target ∈ [2, 3], let s := reg (fun r => { r with commit := some target });
      CmdsInRange s ∧ (s.p.region 0 0).commit = some target) := by
  unfold CmdsInRange; decide +kernel

theorem witness_RegionWake :
    (let s : State := { flying (wr1 5) ones 0 .dest with p := (((flying (wr1 5) ones 0 .dest).p.rset 0 0 R.regionState_state 1).rset 0 0
        R.regionState_wop 1) };
      s.p.rget 0 0 R.regionState_state = 1 ∧ s.p.rget 0 0 R.regionState_wop = 1 ∧
        (∃ f ∈ s.p.flights, f.stage = .dest ∧ f.loc / 64 = 0 ∧ regionOf (f.loc % 64) = 0 ∧ (Ep.of f.hdr.dst).unit ≤ 5) ∧
        (s.p.region 0 0).hs = none ∧ (s.p.region 0 0).commit = none) ∧
    (∀ owed ∈ [false, true], ∀ from_ ∈ [2, 3], let s := reg (fun r => { r with up := some ⟨200, true⟩, resetOwed := owed }) (fun p =>
        ((p.rset 0 0 R.regionState_state from_).rset 0 0 R.regionPwr_stage 8).cset x0 R.wakePc_en 1);
      (s.p.region 0 0).up = some ⟨200, true⟩ ∧ s.p.rget 0 0 R.regionPwr_stage = 8 ∧ s.p.rget 0 0 R.regionState_state = from_ ∧
        s.p.swapOf 0 = none ∧ (s.p.region 0 0).resetOwed = owed ∧ s.p.bad.contains (coreKey 0 0) = false ∧
        s.p.cget x0 R.wakePc_en = 1 ∧ s.p.fenced x0 = false ∧ CmdsInRange s) := by
  unfold CmdsInRange; decide +kernel

theorem witness_WardenSample :
    ((reg id).p.tile 0).rails = true ∧ ((reg id).p.tile 0).pll = true ∧
    (∀ v ∈ [(81 : Nat), 82, 85, 104], (List.replicate 24 (BitVec.ofNat 16 (16 * v))).length = 24 ∧
      (List.replicate 24 (BitVec.ofNat 16 (16 * v))).all (fun w => decide (w.toInt < 105 * 16)) = true) ∧
    (List.replicate 24 (85 * 16 : BitVec 16)).any (fun v => decide (85 * 16 ≤ v.toInt)) = true ∧
    (List.replicate 4 (BitVec.ofInt 16 (-40 * 16))).all (fun v => decide (v.toInt < 82 * 16)) = true ∧
    [0, 0, 0, (95 * 16 : BitVec 16)].any (fun v => decide (95 * 16 ≤ v.toInt)) = true ∧
    (List.replicate 4 (89 * 16 : BitVec 16)).all (fun v => decide (v.toInt < 90 * 16)) = true ∧
    (reg id).p.rget 0 0 R.thermSts_cap ≤ 140 ∧ 105 * 16 ≤ ((List.replicate 24 (105 * 16 : BitVec 16)).getD (6 * 3 + 5) 0).toInt ∧
    (reg id).p.rget 0 0 R.regionState_state ≠ 3 ∧ (reg id).p.rget 0 0 R.regionState_hgate = 0 ∧ CmdsInRange (reg id) := by
  unfold CmdsInRange; decide +kernel

/-- A message is on its way. -/
def told (m : Msg) (f : Panel → Panel := id) : State := st (fun p => { f p with msgs := [m] })

theorem witness_BudgetsAndCooling :
    (let s := told ⟨0x31, 143, 164, [0, 400, 500, 60, 61, 1]⟩ (fun p => ring (powered p));
      (s.p.tile 0).pll = true ∧ s.p.keeperNode = 164 ∧ s.p.findMsg 0x31 143 s.p.keeperNode = some ⟨0x31, 143, 164, [0, 400, 500, 60, 61, 1]⟩ ∧
        s.p.keeperState s.p.activeK = 2) ∧
    (let m : Msg := ⟨0x30, 164, 0, [4095, 140, 30, 1, 65535]⟩;
      (told m).p.findMsg 0x30 (told m).p.keeperNode 0 = some m ∧ (∀ w ∈ ((told m).p.tile 0).wins, w.1 < 256) ∧ m.at 4 < 65536) ∧
    (let s := st (fun p => { powered p with now := 5000 }); (s.p.tile 0).pll = true ∧ (s.p.tile 0).lastBudget + 5000 ≤ s.p.now) ∧
    ((st ring).p.keep.ring = true ∧ (1 : BitVec 8).getLsbD 0 = true ∧ -2560 ≤ (BitVec.ofInt 16 (-2560)).toInt ∧
      (15360 : BitVec 16).toInt ≤ 15360 ∧ (12800 : BitVec 16).toNat ≤ 12800 ∧ 15360 < (15361 : BitVec 16).toInt ∧
      (BitVec.ofInt 16 (-2561)).toInt < -2560 ∧ 12800 < (12801 : BitVec 16).toNat ∧ (0 : BitVec 8).getLsbD 0 = false) ∧
    ((keeper (fun k => { k with tray := List.replicate 10 ⟨0, 128 * 60, 128 * 60, 0, 1000000⟩ }) (fun p => p.kset R.coolSts_valid 1)).p.throttleBad
      = true) ∧
    (∀ now ∈ [9999999, 10000000], let s := keeper (fun k => { k with throttled := some 0 }) (fun p => { p with now := now });
      s.p.throttleBad = false ∧ s.p.keep.throttled = some 0) := by
  decide +kernel

/-! Witnesses: bring-up. -/

theorem witness_BringupBegins :
    (let s := st (fun p => { p.updKeep (fun k => { k with goodB := some 0 }) with now := 10000 });
      s.p.keep.ring = false ∧ s.p.keep.goodB = some 0 ∧ 0 + 10000 ≤ s.p.now) ∧
    (let s := st (fun p => (ring p).updDie 19 (fun d => { d with rails := true }));
      s.p.keep.ring = true ∧ s.p.standby = false ∧ (s.p.die (16 + 3)).rails = true) ∧
    (let s := st (fun p => (ring p).wr (keeperB + R.panelState) 2);
      s.p.keep.ring = true ∧ s.p.standby = true ∧ (1 : BitVec 32).getLsbD 0 = true) := by
  decide +kernel

/-- Bring-up has come before a step, with an address and a length. -/
def booting (done addr len : Nat) (f : Panel → Panel := id) : State :=
  st (fun p => f ((((ring p).gset R.bootSts_done done).wr (globB + R.bootAddr) (w32 addr)).wr (globB + R.bootLen) (w32 len)))

theorem witness_BootStepsRun :
    (∀ len ∈ [65535, 65536, 16 * 2 ^ 20, 16 * 2 ^ 20 + 1], let s := booting 0 4096 len;
      BootGo s 1 0 ∧ s.p.bootAddr % 4096 = 0 ∧ s.p.bootLen = len) ∧
    (BootGo (booting 1 0 65536) 1 1) ∧ BootGo (booting 1 0 0) 2 0 ∧ BootGo (booting 3 0 0) 3 0 ∧
    (∀ len ∈ [0, 64, 128 * 2 ^ 20], let s := booting 7 4096 len;
      BootGo s 4 0 ∧ s.p.bootAddr % 4096 = 0 ∧ s.p.bootLen = len ∧ s.p.trained = true) ∧
    (let s := booting 7 0 0 (fun p => (powered p).updTile 1 (fun t => { t with rails := true, pll := true })); BootGo s 4 0 ∧ s.p.trained = false) ∧
    BootGo (booting 15 0 0) 5 0 ∧ (booting 15 0 0).p.ptcBit (booting 15 0 0).p.keeperNode 29 = false ∧
    (∀ len ∈ [64, 2 * 2 ^ 20 + 65536, 2 * 2 ^ 20 + 65537], let s := booting 31 4096 len;
      BootGo s 6 0 ∧ s.p.bootAddr % 4096 = 0 ∧ s.p.bootLen = len) ∧
    verifyImage (booting 31 4096 64).fuses (booting 31 4096 64).p.activeK 2 ((booting 31 4096 64).p.hostRd 0 4096 (min 64 16544)) = none := by
  unfold BootGo; decide +kernel

theorem witness_TilesStart :
    (let s := keeper (fun k => { k with queue := [143] });
      s.p.keep.queue.head? = some 143 ∧ (s.p.tile 143).rails = false ∧ s.p.segmentUp (standOf 143) = true) ∧
    (∀ bad ∈ [false, true], let s := reg id (fun p => ((p.updTile 0 (fun t => { t with imgWait := [0] })).updKeep (fun k =>
        { k with img := some (0, []) })).updChan x0 (fun h => if bad then { h with cells := [] } else h));
      (0 : Nat) ∈ (s.p.tile 0).imgWait ∧ NoBlockReset s 0 ∧ s.p.regionState x0 ≤ 1 ∧ s.p.keep.img = some (0, [])) ∧
    (let s := st (fun p => (p.tset 0 R.tileSts_links_done 1).updTile 0 (fun t => { t with routed := true }));
      s.p.tget 0 R.tileSts_ready = 0 ∧
        (if (s.p.tile 0).pll = true then s.p.showLinks 0 else s.p).tget 0 R.tileSts_links_done = 1 ∧
        (∀ r : Fin 4, s.p.rget 0 r R.regionState_state = 3) ∧ (s.p.tile 0).routed = true ∧
        (∀ c : Fin 64, (s.p.core ⟨0, c⟩).resetting = false) ∧ s.p.serving 0 = false ∧
        s.p.tget 0 R.tileSts_unusable = 0 ∧ s.p.tget 0 R.tileSts_reserve = 0 ∧ s.p.keep.served = false) ∧
    (let s := st (fun p => ((p.tset 0 R.tileSts_links_done 1).tset 0 R.tileSts_img_done 1).rset 0 3 R.regionState_state 0);
      (∃ r : Fin 4, s.p.rget 0 r R.regionState_state ≠ 3) ∧ s.p.tget 0 R.tileSts_img_done = 1) := by
  unfold NoBlockReset; decide +kernel

/-- A boot step is running. -/
def stepping (step : Nat) (b : Boot) : State :=
  keeper (fun k => { k with boot := some b }) (fun p => p.gset R.bootSts_step step)

theorem witness_BootEndsAndFieldRecords :
    (BootReady (stepping 2 ⟨0, 0, 0, none⟩) 2 ⟨0, 0, 0, none⟩ ∧ BootReady (stepping 3 ⟨0, 0, 0, none⟩) 3 ⟨0, 0, 0, none⟩ ∧
      BootReady (stepping 5 ⟨0, 0, 0, none⟩) 5 ⟨0, 0, 0, none⟩ ∧
      ∀ n ∈ [1, 2, 3, 4, 5, 6], (stepping n ⟨0, 0, 0, none⟩).p.gget R.bootSts_step = n) ∧
    (BootReady (stepping 1 ⟨4, 4, 4, none⟩) 1 ⟨4, 4, 4, none⟩ ∧ BootReady (stepping 1 ⟨0, 2, 3, none⟩) 1 ⟨0, 2, 3, none⟩) ∧
    BootReady (stepping 4 ⟨0, 1, 0, none⟩) 4 ⟨0, 1, 0, none⟩ ∧
    BootReady (stepping 6 ⟨11, 1, 0, none⟩) 6 ⟨11, 1, 0, none⟩ ∧ BootReady (stepping 6 ⟨0, 1, 0, none⟩) 6 ⟨0, 1, 0, none⟩ ∧
    (stepping 6 ⟨255, 1, 0, none⟩).p.keep.boot = some ⟨255, 1, 0, none⟩ ∧ CmdsInRange (stepping 6 ⟨255, 1, 0, none⟩) ∧
    ((st ring).p.keep.ring = true ∧ (st ring).p.standby = false ∧ (st ring).p.gget R.tallySts_rec_busy = 0 ∧
      (st ring).p.burners = [0] ∧
      (2 ^ 31 + 143 : BitVec 32).getLsbD 31 = true ∧ (2 ^ 31 + 143 : BitVec 32).getLsbD 10 = false ∧ bits (2 ^ 31 + 143 : BitVec 32) 7 0 < 144) ∧
    (∀ kind ∈ [0, 1, 5, 6, 14, 15], let s := st (fun p => (ring p).wr (globB + R.tallyRec + 4) (w32 (kind * 2 ^ 28)));
      ((s.p.rd (globB + R.tallyRec)).toNat + 2 ^ 32 * (s.p.rd (globB + R.tallyRec + 4)).toNat) / 2 ^ 60 = kind) ∧
    ((List.range 4).find? (fun j => match (st ring).fuses.copy (st ring).p.activeK 143 (40 + j) with
      | some w => bits w 63 60 == 0 | none => false) = some 0) ∧
    (let s : State := { st ring with fuses := { Fuses.zero with
        tally := (List.range 4).map (fun j => (620 * 143 + 40 + j, ssc76Enc (w64 (2 ^ 60)))) } };
      (List.range 4).find? (fun j => match s.fuses.copy s.p.activeK 143 (40 + j) with
        | some w => bits w 63 60 == 0 | none => false) = none) ∧
    (keeper (fun k => { k with burn := some (143, 3) })).p.keep.burn = some (143, 3) := by
  unfold CmdsInRange
  refine ⟨?_, ?_, ?_, ?_, ?_⟩
  all_goals (simp only [BootReady] <;> decide +kernel)

/-! Witnesses: resets. -/

theorem witness_WholeResets :
    (true = true ∧ (st (fun p => { p with prst := true })).p.prst = true ∧ State.reset.p.prst = false) ∧
    (let s := st (fun p => { p with host := { p.host with up := [(3, true)] } }); s.p.portUp 3 = true) := by
  decide +kernel

theorem witness_ComputeAndRouterResets :
    (∀ run ∈ [0, 1], ∀ state ∈ [0, 1], let s := reg id (fun p => (p.cset x0 R.selftestRes_run run).rset 0 0 R.regionState_state state);
      (s.p.tile 0).rails = true ∧ s.p.regionState x0 ≤ 1 ∧ (s.p.core x0).resetting = false ∧ s.p.bad.contains x0.key = false ∧
        s.p.cget x0 R.selftestRes_run = run ∧ CmdsInRange s) ∧
    (let s := st powered; (s.p.tile 0).rails = true ∧ s.p.regionState x0 = 3) ∧
    (let s := core (fun c => { c with resetting := true });
      (s.p.core x0).resetting = true ∧ s.p.keep.replay = none ∧ s.p.keep.img = none ∧ CmdsInRange s) ∧
    (let s := reg id (fun p => { p.updKeep (fun k => { k with drains := [([0, legacyPanel], 0, [])] }) with now := 1000 });
      s.p.keep.drains = [([0, legacyPanel], 0, [])] ∧ s.p.drained ([0, legacyPanel], 0, []) = true ∧ CmdsInRange s ∧
        (∀ k ∈ [0, legacyPanel], k ≤ 9216) ∧ x0.key ∈ [0, legacyPanel] ∧ s.p.regionState x0 ≤ 1 ∧
        s.p.bad.contains x0.key = false ∧ [0, legacyPanel].contains legacyPanel = true ∧ (0 : Nat) ≠ legacyPanel) ∧
    (let s := reg id (fun p => (p.updRouter 0 (fun r => { r with resetting := true })).cwr ⟨0, 1⟩ R.rtrPort (w32 64));
      (s.p.router (rtrCore 0 0)).resetting = true ∧ CmdsInRange s ∧ edgeLink 0 1 = none ∧ coreAcross 0 1 = some 1 ∧
        s.p.portState (rtrCore 0 1) (oppPort 1) = 1) := by
  unfold CmdsInRange
  refine ⟨?_, ?_, ?_, ?_, ?_⟩ <;> decide +kernel

/-! Witnesses: faults, membership, health and the standby keeper. -/

/-- A message from tile 0 to the keeper. -/
def toKeeper (kind : Nat) (body : List Nat) (f : Panel → Panel := id) : State := told ⟨kind, 0, 164, body⟩ f

theorem witness_FaultCollection :
    (∀ seq ∈ [32767, 32768], let s := toKeeper 0x40 [1, 1, 0, 1, 0, 0] (fun p =>
        p.updKeep (fun k => { k with notes := [(0, some [0, 0, 0, 0, seq + 1, 0])] }));
      s.p.findMsg 0x40 0 s.p.keeperNode = some ⟨0x40, 0, 164, [1, 1, 0, 1, 0, 0]⟩ ∧
        sget (fun _ => none) s.p.keep.notes 0 = some [0, 0, 0, 0, seq + 1, 0] ∧
        ((32768 ≤ (0 + 65536 - (seq + 1)) % 65536) ↔ seq = 32767)) ∧
    (let s := st (fun p => p.updColl 143 (fun c => { c with act := 2 ^ 24 })); (s.p.coll 143).act ≠ 0 ∧ (s.p.coll 0).act = 0) ∧
    ((5 &&& 2 : BitVec 25) = 0) := by
  decide +kernel

/-- An increment is settling since time 0, in which tile 0 has not acknowledged. -/
def settlingSince (now : Nat) (f : Panel → Panel := id) : State :=
  keeper (fun k => { k with changes := [⟨[], [], true, 7, 0, [0]⟩], lastInc := some 0 }) (fun p => f { powered p with now := now })

theorem witness_Membership :
    (let s := keeper (fun k => { k with changes := [⟨[5], [], false, 0, 0, []⟩] }) powered;
      CmdsInRange s ∧ s.p.keep.changes.find? (fun c => !c.made) = some ⟨[5], [], false, 0, 0, []⟩ ∧ s.p.keep.lastInc = none) ∧
    (let s := settlingSince 99;
      CmdsInRange s ∧ s.p.keep.changes.all (·.made) = true ∧ s.p.keep.lastInc = some 0 ∧ s.p.now < 0 + 100) ∧
    (let w : Win := ⟨0, 2, 0, 65536, 0, 1, 65534⟩;
      let s := told ⟨0x50, 164, 0, [65535]⟩ (fun p => p.updTile 0 (fun t => { t with wins := [(255, some w)] }));
      s.p.msgs.find? (fun m => m.kind == 0x50 && m.dst == 0) = some ⟨0x50, 164, 0, [65535]⟩ ∧
        swf (fun _ => none) (s.p.tile 0).wins = true ∧ (∀ w ∈ (s.p.tile 0).wins, w.1 < 256) ∧ s.p.win 0 255 = some w ∧
        s.p.win 0 0 = none ∧ w.perm.testBit 3 = false ∧ 1 ≤ (65535 + 65536 - w.expiry) % 65536 ∧
        (65535 + 65536 - w.expiry) % 65536 ≤ 32767 ∧ CmdsInRange s) ∧
    (let s := told ⟨0x50, 164, 165, [1]⟩; s.p.msgs.find? (fun m => m.kind == 0x50 && m.dst == 144 + 21) = some ⟨0x50, 164, 165, [1]⟩) ∧
    (let s := toKeeper 0x51 [7] (fun p => p.updKeep (fun k => { k with changes := [⟨[], [(0, 1)], true, 7, 0, [0]⟩] }));
      s.p.findMsg 0x51 (nodeNum (.tile 0)) s.p.keeperNode = some ⟨0x51, 0, 164, [7]⟩ ∧ CmdsInRange s) ∧
    (let s := settlingSince 50000;
      s.p.tget 0 R.tileMemb_lost = 0 ∧ s.p.tget 0 R.tileMemb_expelled = 0 ∧
        (∃ c ∈ s.p.keep.changes, c.made = true ∧ (0 : Nat) ∈ c.waits ∧ c.sent + 50000 ≤ s.p.now)) ∧
    (let s := settlingSince 20000 (fun p => p.updKeep (fun k => { k with reports := [(0, some ⟨0, 0, 0, 0⟩)] }));
      sget (fun _ => none) s.p.keep.reports 0 = some ⟨0, 0, 0, 0⟩ ∧ (s.p.tile 0).rails = true ∧ 0 + 20000 ≤ s.p.now) := by
  unfold CmdsInRange; refine ⟨?_, ?_, ?_, ?_, ?_, ?_, ?_⟩ <;> decide +kernel

/-- The governor holds a candidate of a stand that has just expelled tiles. -/
def held (f : Panel → Panel := id) : State :=
  toKeeper 0x52 [0, 2, 0] (fun p => f ((ring p).updKeep (fun k =>
    { k with expels := [(0, standOf 0), (0, standOf 0), (0, standOf 0), (0, standOf 0)], held := [0] })))

theorem witness_HealthAndGovernor :
    (∀ busy ∈ [999, 1000], let s := st (fun p => p.updHealth 0 (fun h => { h with busy := [(0, busy)] }));
      ([0, 2, 8].filter (fun i => decide (1000 ≤ sget (fun _ => 0) (s.p.health 0).busy i))).length = busy - 999) ∧
    (let s := st (fun p => { (powered p).tset 0 R.health_score 999 with now := 60000000 });
      (s.p.tile 0).rails = true ∧ (s.p.health 0).since + 60000000 ≤ s.p.now ∧ s.p.tget 0 R.health_score < 1000) ∧
    (∀ kind ∈ [0, 1, 2, 3, 4], let s := toKeeper 0x52 [0, kind, 0];
      s.p.findMsg 0x52 0 s.p.keeperNode = some ⟨0x52, 0, 164, [0, kind, 0]⟩ ∧ s.p.govHolds 0 = false ∧
        s.p.tget 0 R.tileMemb_expelled = 0 ∧ CmdsInRange s) ∧
    (held.p.govHolds 0 = true ∧ held.p.findMsg 0x52 0 held.p.keeperNode = some ⟨0x52, 0, 164, [0, 2, 0]⟩ ∧
      (∀ n ∈ held.p.keep.held, held.p.govHolds n = true)) ∧
    (let s := st (fun p => p.tset 0 R.health_cand 1); s.p.tget 0 R.health_cand = 1 ∧ s.p.govHolds 0 = false ∧ CmdsInRange s) ∧
    (let s := keeper (fun k => { k with held := [0, 143] });
      (∃ n ∈ s.p.keep.held, s.p.govHolds n = false) ∧ (∀ n ∈ s.p.keep.held, n < 144 ∧ s.p.tget n R.tileMemb_expelled = 0) ∧
        CmdsInRange s) := by
  unfold CmdsInRange; refine ⟨?_, ?_, ?_, ?_, ?_, ?_⟩ <;> decide +kernel

theorem witness_StandbyKeeper :
    (∀ now ∈ [10000, 10001], ∀ l ∈ [none, some 10000], let s := keeper (fun k => { k with
          lastInc := l, mirror := some ⟨[(keeperB + R.epoch, 3)], [], [], 0, 0, [], []⟩ }) (fun p => { p.gset R.keeperSts_b_state 3 with now := now });
      s.p.keeperState (1 - s.p.activeK) = 3 ∧ (s.p.now ≤ s.p.keep.beatMesh + 10000 ↔ now = 10000) ∧
        (s.p.keep.beatSkid + 10000 < s.p.now ↔ now = 10001) ∧ CmdsInRange s ∧
        s.p.keep.mirror = some ⟨[(keeperB + R.epoch, 3)], [], [], 0, 0, [], []⟩ ∧
        (∀ e ∈ [((keeperB + R.epoch, 3) : Nat × W32)], (keepCtr e.1 && mirrored e.1) = true)) := by
  unfold CmdsInRange; decide +kernel

/-! Witnesses: the commands of Ranger. -/

/-- A descriptor: opcode, target word, epoch, and parameter bytes as a number (R432). -/
def descOf (op target epoch params : Nat) : BitVec 512 :=
  BitVec.ofNat 512 (op + epoch * 2 ^ 48 + target * 2 ^ 96 + params * 2 ^ 128)
/-- A value at parameter byte a. -/
def at_ (a v : Nat) : Nat := v * 2 ^ (8 * a)
/-- A command of port 3 and SQ 63 with tag 7. -/
def cmdOf (d : BitVec 512) : Cmd := ⟨3, 63, 7, d, 0, false, [], 0, [], false⟩
/-- The name of that command. -/
def id7 : CmdId := ⟨3, 7⟩
/-- The state with it in flight. -/
def withCmd (d : BitVec 512) (f : Panel → Panel := id) : State :=
  st (fun p => { f p with host := { (f p).host with cmds := [cmdOf d] } })

/-- ListsInRange, decided entry by entry. -/
def listsOk (s : State) : Bool :=
  decide (∀ n ∈ s.p.keep.queue, n < 144) && decide (∀ n ∈ s.p.keep.held, n < 144) && s.p.tiles.all (fun e => e.2.wins.all (fun w => decide (w.1 < 256))) &&
    s.p.msgs.isEmpty && s.p.keep.mirror.isNone && s.p.keep.burn.isNone

theorem sget_all {α : Type} (d : Nat → α) (P : α → Prop) (hd : ∀ k, P (d k)) :
    ∀ (m : SMap α), (∀ e ∈ m, P e.2) → ∀ k, P (sget d m k)
  | [], _, k => hd k
  | (j, v) :: m, h, k => by
    have h1 : P v := h (j, v) (by simp)
    have h2 : P (sget d m k) := sget_all d P hd m (fun e he => h e (by simp [he])) k
    simp only [sget]
    split <;> assumption

theorem listsOk_sound {s : State} (h : listsOk s = true) : ListsInRange s := by
  simp only [listsOk, Bool.and_eq_true, decide_eq_true_eq, List.all_eq_true, List.isEmpty_iff, Option.isNone_iff_eq_none] at h
  obtain ⟨⟨⟨⟨⟨h1, h2⟩, h3⟩, h4⟩, h5⟩, h6⟩ := h
  refine ⟨h1, h2, ?_, ?_, ?_, ?_⟩
  · intro n
    exact sget_all (fun _ => TileSt.zero) (fun t => ∀ w ∈ t.wins, w.1 < 256) (by intro _ w hw; cases hw) s.p.tiles h3 n
  · simp [h4]
  · simp [h5]
  · simp [h6]

/-- Taken for the one command in flight, decided. -/
def takenB (s : State) (op : Nat) (d : BitVec 512) : Bool :=
  decide (s.p.begin op id7 = some (cmdOf d)) && (match opForm (cmdOf d) op with | some f => !(cmdOf d).soiled f.1 f.2 | none => false) &&
    !s.p.tileBusy (cmdOf d) && decide (s.p.host.cmds = [cmdOf d]) && listsOk s

theorem taken_ok {s : State} {op : Nat} {d : BitVec 512} (h : takenB s op d = true) : Taken s op id7 (cmdOf d) := by
  simp only [takenB, Bool.and_eq_true, decide_eq_true_eq, Bool.not_eq_true'] at h
  obtain ⟨⟨⟨⟨h1, h2⟩, h3⟩, h4⟩, h5⟩ := h
  refine ⟨h1, ?_, h3, ?_, listsOk_sound h5, rfl, rfl, rfl⟩
  · split at h2
    · next f hf => exact ⟨f, hf, by simpa using h2⟩
    · cases h2
  · unfold CmdsInRange
    rw [h4]
    refine ⟨?_, by simp⟩
    intro c hc
    rw [List.mem_singleton.1 hc]
    exact ⟨(by decide : 3 < 4), (by decide : 63 < 64)⟩

/-- A command in flight, with what else holds. -/
def cmdCase (op target epoch params : Nat) (f : Panel → Panel) (P : State → Cmd → Bool) : Bool :=
  let d := descOf op target epoch params
  takenB (withCmd d f) op d && P (withCmd d f) (cmdOf d)

theorem cmdCase_ok {op target epoch params : Nat} {f : Panel → Panel} {P : State → Cmd → Bool} (h : cmdCase op target epoch params f P = true) :
    ∃ s c, Taken s op id7 c ∧ P s c = true :=
  ⟨_, _, taken_ok (Bool.and_eq_true .. ▸ h : _ ∧ _).1, (Bool.and_eq_true .. ▸ h : _ ∧ _).2⟩

theorem witness_RangerFormsAndQueries :
    State.reset.p.begin 0x01 id7 = none ∧
    (∃ s c, Taken s 0x01 id7 c ∧ (!c.mute && decide (s.p.cqBase c.port (s.p.qget c.port c.sq R.sqCfg_cq) + 131072 ≤ 2 ^ 64)) = true) ∧
    (let d := descOf 0x01 0 0 1; (withCmd d).p.begin 0x01 id7 = some (cmdOf d) ∧ ¬ Formed (cmdOf d) 0x01) ∧
    (∃ s c, Taken s 0x02 id7 c ∧ decide (c.tile = 143) = true) ∧
    (∃ s c, Taken s 0x70 id7 c ∧ decide (c.tile = 0xFE) = true) ∧ (∃ s c, Taken s 0x70 id7 c ∧ decide (c.tile = 3) = true) ∧
    (∃ s c, Taken s 0x71 id7 c ∧ decide (c.tile = 0xFF ∧ c.pn 0 4 = 2 ^ 25 - 1) = true) ∧
    (∃ s c, Taken s 0x72 id7 c ∧ decide (c.tile = 0xFF ∧ c.pn 0 4 = 2 ^ 25 - 1 ∧ c.p 4 = 5) = true) ∧
    (∃ s c, Taken s 0x60 id7 c ∧ decide (c.tile = 0 ∧ s.p.gone c.tile = false ∧ c.p 0 = 3) = true) ∧
    (∃ s c, Taken s 0x60 id7 c ∧ decide (c.tile = 0xFF ∧ c.p 0 = 0) = true) ∧
    (∃ s c, Taken s 0x43 id7 c ∧ decide (c.pn 0 2 = 10000 ∧ c.pn 2 2 = 60) = true) ∧
    (∃ s c, Taken s 0x43 id7 c ∧ decide (c.pn 0 2 = 41676 ∧ c.pn 2 2 = 310) = true) ∧
    (∃ s c, Taken s 0x42 id7 c ∧ decide (c.tile = 0 ∧ s.p.gone c.tile = false ∧ c.pn 0 4 &&& 0x7000FF00 = 0 ∧ c.p 4 = 1) = true) ∧
    (∃ s c, Taken s 0xA1 id7 c ∧ decide (c.p 0 = 7 ∧ s.p.bootDone 1 = true ∧ c.pn 8 8 + (s.p.meas 7).length ≤ 2 ^ 64) = true) := by
  refine ⟨by decide +kernel, cmdCase_ok (target := 0) (epoch := 0) (params := 0) (f := id) (by decide +kernel), ⟨by decide +kernel, ?_⟩,
    cmdCase_ok (target := 143) (epoch := 0) (params := 0) (f := id) (by decide +kernel),
    cmdCase_ok (target := 0xFE) (epoch := 0) (params := 0) (f := id) (by decide +kernel),
    cmdCase_ok (target := 3) (epoch := 0) (params := 0) (f := id) (by decide +kernel),
    cmdCase_ok (target := 0xFF) (epoch := 0) (params := 2 ^ 25 - 1) (f := id) (by decide +kernel),
    cmdCase_ok (target := 0xFF) (epoch := 0) (params := 2 ^ 25 - 1 + at_ 4 5) (f := id) (by decide +kernel),
    cmdCase_ok (target := 0) (epoch := 0) (params := 3) (f := powered) (by decide +kernel),
    cmdCase_ok (target := 0xFF) (epoch := 0) (params := 0) (f := id) (by decide +kernel),
    cmdCase_ok (target := 0) (epoch := 0) (params := 10000 + at_ 2 60) (f := id) (by decide +kernel),
    cmdCase_ok (target := 0) (epoch := 0) (params := 41676 + at_ 2 310) (f := id) (by decide +kernel),
    cmdCase_ok (target := 0) (epoch := 0) (params := 0x8FFF0055 + at_ 4 1) (f := powered) (by decide +kernel),
    cmdCase_ok (target := 0) (epoch := 0) (params := 7) (f := fun p => p.gset R.bootSts_done 1) (by decide +kernel)⟩
  rintro ⟨f, hf, hs⟩
  have : opForm (cmdOf (descOf 0x01 0 0 1)) 0x01 = some ({}, []) := rfl
  rw [this] at hf
  injection hf with hf
  subst hf
  revert hs
  decide +kernel

/-- Tile 0 powered, every region in a state, no core of tiles 0 and 10 fenced, with an epoch. -/
def live (state : Nat) (p : Panel) : Panel :=
  (List.range 4).foldl (fun (p : Panel) r => p.rset 0 r R.regionState_state state)
    ((((((powered p).wr (tileB 0 + R.fenceMap) 0).wr (tileB 0 + R.fenceMap + 4) 0).tset 0 R.tileSts_ncore 64)).wr (keeperB + R.epoch) 9)

/-- The witness of a command: its target, the epoch 9, its parameters, what else holds. -/
theorem case_of (target params : Nat) (f : Panel → Panel) {op : Nat} {P : State → Cmd → Bool} (h : cmdCase op target 9 params f P = true) :
    ∃ s c, Taken s op id7 c ∧ P s c = true := cmdCase_ok h

/-- What the recovery commands want of the epoch and of settling changes. -/
def currentB (s : State) (c : Cmd) (tiles : List Nat) : Bool := decide (c.epoch = s.p.epoch) && !s.p.settling tiles

theorem witness_TileAndFenceCommands :
    (∃ s c, Taken s 0x10 id7 c ∧ (decide (c.tile = 0) && !s.p.gone 0 && s.p.serving 0 && (List.range 4).all (fun r => !s.p.tooHot 0 r &&
      decide (s.p.rget 0 r R.regionState_state = 2))) = true) ∧
    (∃ s c, Taken s 0x10 id7 c ∧ (decide (c.tile = 0) && !s.p.gone 0 && s.p.serving 0 && (List.range 4).all (fun r => !s.p.tooHot 0 r &&
      decide (s.p.rget 0 r R.regionState_state = 1))) = true) ∧
    (∃ s c, Taken s 0x11 id7 c ∧ (decide (c.tile = 0) && (List.range 64).all (fun k => s.p.fenced (cid 0 k))) = true) ∧
    (∃ s c, Taken s 0x11 id7 c ∧ (decide (c.tile = 0) && !s.p.fenced (cid 0 63) && currentB s c [0] && !s.p.gone 0) = true) ∧
    (∃ s c, Taken s 0x11 id7 c ∧ (decide (c.tile = 0) && !s.p.fenced (cid 0 63) && decide (c.epoch ≠ s.p.epoch)) = true) ∧
    (∃ s c, Taken s 0x12 id7 c ∧ (decide (c.tile = 0) && s.p.readmittable (cid 0 63) && currentB s c [0]) = true) ∧
    (∃ s c, Taken s 0x13 id7 c ∧ (decide (c.tile = 0 ∧ c.core = 63) && s.p.fenced (cid 0 63)) = true) ∧
    (∃ s c, Taken s 0x13 id7 c ∧ (decide (c.tile = 0 ∧ c.core = 63) && !s.p.fenced (cid 0 63) && currentB s c [0] && !s.p.gone 0 &&
      s.p.usable (cid 0 63) && decide (60 < (s.p.liveCores 0).length)) = true) ∧
    (∃ s c, Taken s 0x14 id7 c ∧ (decide (c.tile = 0 ∧ c.core = 63) && !s.p.fenced (cid 0 63)) = true) ∧
    (∃ s c, Taken s 0x14 id7 c ∧ (decide (c.tile = 0 ∧ c.core = 63) && s.p.readmittable (cid 0 63) && currentB s c [0] && !s.p.gone 0) = true) ∧
    (∀ e ∈ [(2, 0), (2, 1023), (3, 0)], ∃ s c, Taken s 0x18 id7 c ∧ (decide (c.p 0 = standCentre 0 ∧ c.p 1 = 0 ∧ c.p 0 < 144 ∧ c.p 0 ≠ 0 ∧ standOf 0 = 0) &&
      decide (s.p.tget (c.p 0) R.tileMemb_in_service = 0) && currentB s c [c.p 0, 0] && !s.p.swapConflict (c.p 0) 0 &&
      decide (s.p.segmentUp 0 = decide (e.1 < 3)) && (s.p.tilePeak (c.p 0)).isEmpty == decide (e.2 = 0)) = true) := by
  have fenceAll : Panel → Panel := fun p => (p.wr (tileB 0 + R.fenceMap) 0xFFFFFFFF).wr (tileB 0 + R.fenceMap + 4) 0xFFFFFFFF
  refine ⟨case_of 0 0 (live 2) (by decide +kernel), case_of 0 0 (live 1) (by decide +kernel),
    case_of 0 0 (fun p => ((live 0 p).wr (tileB 0 + R.fenceMap) 0xFFFFFFFF).wr (tileB 0 + R.fenceMap + 4) 0xFFFFFFFF) (by decide +kernel),
    case_of 0 0 (live 0) (by decide +kernel), cmdCase_ok (target := 0) (epoch := 8) (params := 0) (f := live 0) (by decide +kernel),
    case_of 0 0 (fun p => (live 0 p).wr (tileB 0 + R.fenceMap + 4) 0x80000000) (by decide +kernel),
    case_of (63 * 256) 0 (fun p => (live 0 p).wr (tileB 0 + R.fenceMap + 4) 0x80000000) (by decide +kernel),
    case_of (63 * 256) 0 (live 0) (by decide +kernel), case_of (63 * 256) 0 (live 0) (by decide +kernel),
    case_of (63 * 256) 0 (fun p => (live 0 p).wr (tileB 0 + R.fenceMap + 4) 0x80000000) (by decide +kernel), ?_⟩
  intro e he
  refine case_of 0 (standCentre 0) (fun p => (((((live 0 p).wr (tileB 0 + R.fenceMap) 0xFFFFFFFF).wr (tileB 0 + R.fenceMap + 4) 0xFFFFFFFF).updTile
    (standCentre 0) (fun t => { t with rails := true })).tset (standCentre 0) R.tileSts_reserve 1).updTile 1 (fun t => { t with rails := true })
    |>.updKeep (fun k => { k with img := some (0, []), ibc := [(0, e.1)], reports := [(1, some ⟨0, 0, e.2, 0⟩)] })) ?_
  revert e
  decide +kernel

theorem sget_absent {α : Type} (d : Nat → α) (k : Nat) : ∀ (m : SMap α), (∀ e ∈ m, e.1 ≠ k) → sget d m k = d k
  | [], _ => rfl
  | (j, v) :: m, h => by
    have h1 : j ≠ k := h (j, v) (by simp)
    have h2 : sget d m k = d k := sget_absent d k m (fun e he => h e (by simp [he]))
    simp only [sget]
    split
    · next h => exact absurd h (Ne.symm h1)
    · exact h2

/-- No register of a core page has been written. -/
def coresQuiet (p : Panel) : Bool := p.regs.all (fun e => match blkOf e.1 with | .core _ _ _ => false | _ => true)

theorem anyRuns_quiet {p : Panel} (h : coresQuiet p = true) : p.anyRuns = false := by
  have key (x : Cid) : p.seqState x = 0 := by
    have hr : p.rd (coreB x.t x.c + R.seqStatus_state.off) = 0 := by
      unfold Panel.rd
      rw [sget_absent, regReset_seqStatus]
      intro e he hk
      have := List.all_eq_true.1 h e he
      rw [hk, blkOf_core x.t.isLt x.c.isLt (by decide)] at this
      cases this
    unfold Panel.seqState Panel.cget Panel.fget
    rw [hr]
    rfl
  simp [Panel.anyRuns, Panel.running, key]

theorem quiet_case {op : Nat} {P : State → Cmd → Bool} (h : ∃ s c, Taken s op id7 c ∧ (P s c && coresQuiet s.p) = true) :
    ∃ s c, Taken s op id7 c ∧ s.p.anyRuns = false ∧ P s c = true := by
  obtain ⟨s, c, h1, h2⟩ := h
  rw [Bool.and_eq_true] at h2
  exact ⟨s, c, h1, anyRuns_quiet h2.2, h2.1⟩

theorem witness_ProgramCommands :
    (∃ s c, Taken s 0x20 id7 c ∧ s.p.anyRuns = false ∧ (decide (c.pn 0 8 = 4096 ∧ c.p 12 = 0 ∧ c.pn 8 4 = 64) && !s.p.loadBusy && s.p.bootDone 4 &&
      decide (verifyImage s.fuses s.p.activeK 2 (s.p.hostRd c.port (c.pn 0 8) (min (c.pn 8 4) 16544)) = none)) = true) ∧
    (∃ s c, Taken s 0x20 id7 c ∧ (decide (c.pn 0 8 = 0 ∧ c.p 12 = 1 ∧ c.pn 8 4 = 65536) && !s.p.loadBusy && s.p.bootDone 1) = true) ∧
    (∃ s c, Taken s 0x20 id7 c ∧ (decide (c.pn 0 8 = 0 ∧ c.p 12 = 1 ∧ c.pn 8 4 = 16 * 2 ^ 20) && !s.p.loadBusy && s.p.bootDone 1) = true) ∧
    (∃ s c, Taken s 0x21 id7 c ∧ ((progChecks c s.p).find? (·.1)).isNone = true) ∧
    (∃ s c, Taken s 0x22 id7 c ∧ (decide (c.tile = 0 ∧ c.pn 0 2 = 2047) && !s.p.gone 0 && decide (s.p.rd (keeperB + R.panelState) = 0) &&
      decide (s.p.launchable c = [x0]) && decide (s.p.regionState x0 = 0) && !s.p.running x0 && !s.p.startBusy x0) = true) ∧
    (∀ st_ ∈ [1, 3], ∃ s c, Taken s 0x23 id7 c ∧ (decide (s.p.keep.launch = [0]) && decide (s.p.allHalted = decide (st_ = 3)) &&
      s.p.host.cmds.all (fun d => decide (d.key = c.key))) = true) ∧
    (∃ s c, Taken s 0x24 id7 c ∧ (decide (w32 (c.pn 0 4) = s.p.rd (keeperB + R.stepSts) + 1) &&
      currentB s c ((s.p.launchSet.map (·.t.val)).eraseDups) && decide (s.p.launchSet = [x0]) && !s.p.heldRegion x0 &&
      decide (s.p.regionState x0 = 1) && !s.p.bad.contains x0.key) = true) := by
  refine ⟨quiet_case (case_of 0 (4096 + at_ 8 64) (fun p => p.gset R.bootSts_done 15) (by decide +kernel)),
    case_of 0 (at_ 8 65536 + at_ 12 1) (fun p => p.gset R.bootSts_done 1) (by decide +kernel),
    case_of 0 (at_ 8 (16 * 2 ^ 20) + at_ 12 1) (fun p => p.gset R.bootSts_done 1) (by decide +kernel),
    case_of 0 (at_ 8 65536 + at_ 16 1) (live 0) (by decide +kernel),
    case_of 0 (2047 + at_ 8 1) (fun p => (live 0 p).wr (keeperB + R.panelState) 0) (by decide +kernel), ?_,
    case_of 0 0 (fun p => (live 1 p).updKeep (fun k => { k with launch := [0] })) (by decide +kernel)⟩
  intro state hs
  refine case_of 0 0 (fun p => ((live 1 p).updKeep (fun k => { k with launch := [0] })).cset x0 R.seqStatus_state state) ?_
  revert state
  decide +kernel

/-- Parameters of WINDOW_OPEN: unit 6 of core 63 of tile 0, all of its channel but for the last 64 bytes. -/
def openArgs : Nat := at_ 0 255 + at_ 1 15 + at_ 4 1 + at_ 8 0 + at_ 16 (384 * 2 ^ 20) + at_ 24 (63 * 8 + 6) + at_ 28 65535

theorem witness_WindowCopyPowerCommands :
    (∃ s c, Taken s 0x30 id7 c ∧ (decide (c.tile = 0) && !s.p.winBad c && !s.p.gone 0 && decide (s.p.win 0 (c.p 0) = none)) = true) ∧
    (∃ s c, Taken s 0x30 id7 c ∧ (decide (c.tile = 0) && !s.p.winBad c && !s.p.gone 0 && decide (s.p.win 0 (c.p 0) = some (winOf c))) = true) ∧
    (∃ s c, Taken s 0x31 id7 c ∧ (decide (c.tile = 0) && !s.p.gone 0 && decide (s.p.win 0 (c.p 0) = none)) = true) ∧
    (∃ s c, Taken s 0x31 id7 c ∧ (decide (c.tile = 0) && !s.p.gone 0 && (s.p.win 0 (c.p 0)).isSome && !s.p.winBusy 0 (c.p 0) &&
      s.p.host.cmds.all (fun d => decide (d.key = c.key))) = true) ∧
    (∀ n ∈ [64, 4096], ∃ s c, Taken s 0x32 id7 c ∧ (((copyChecks c s.p).find? (·.1)).isNone && isHostMem (c.pn 16 4) && decide (c.pn 24 4 = n) &&
      decide ((s.p.die (16 + c.port)).jobs = []) && decide ((s.p.die (16 + c.port)).apers = []) && decide (s.p.dieTag (16 + c.port) = some 0) &&
      s.p.check3 (rtrDie (16 + c.port)) { Header.blank with
        cls := clsStream, kind := kWrite, length := c.pn 24 4 / 64, dst := c.pn 20 4, src := s.p.dieDma (16 + c.port), xfer := 0,
        offset := c.pn 8 8 }) = true) ∧
    (∀ at_to ∈ [(0, 0), (2, 0), (3, 0), (1, 0), (0, 1), (0, 2), (1, 3), (0, 3)], ∃ s c, Taken s 0x40 id7 c ∧
      (((powerChecks c s.p).find? (·.1)).isNone && decide (c.p 0 = 0 ∧ c.p 1 = at_to.2) && decide (s.p.rget c.tile c.region R.regionState_state = at_to.1)) = true) ∧
    (∀ e ∈ [(false, 0), (true, 0), (false, 3)], ∃ s c, Taken s 0x40 id7 c ∧ (((powerChecks c s.p).find? (·.1)).isNone && decide (c.p 0 = 1 ∧ c.p 1 = e.2) &&
      decide ((s.p.tile c.tile).rails = e.1) && s.p.segmentUp (standOf c.tile)) = true) ∧
    (∀ at_to ∈ [(0, 1), (1, 0)], ∃ s c, Taken s 0x40 id7 c ∧ (((powerChecks c s.p).find? (·.1)).isNone && decide (c.p 0 = 2 ∧ c.p 1 = at_to.2) &&
      decide (s.p.rd (keeperB + R.panelState) = w32 at_to.1)) = true) ∧
    (∃ s c, Taken s 0x40 id7 c ∧ s.p.anyRuns = false ∧ (decide (c.p 0 = 2 ∧ c.p 1 = 2 ∧ (powerChecks c s.p).head? = some (false, stBadParam)) &&
      decide (s.p.rd (keeperB + R.panelState) = 1)) = true) ∧
    (∀ code ∈ [32, 132], ∃ s c, Taken s 0x41 id7 c ∧ (decide (c.tile = 0 ∧ c.p 0 = 3 ∧ c.p 1 = code) && !s.p.gone 0 &&
      decide (code ≤ bits (s.p.rd (tileB 0 + R.vfPoint + 28)) 7 0) && !s.p.pinLow 0 0 code && s.p.pinLow 0 1 code && !s.p.dcoOn 0 0) = true) := by
  refine ⟨case_of 0 openArgs (live 0) (by decide +kernel),
    case_of 0 openArgs (fun p => (live 0 p).updTile 0 (fun t => { t with wins := [(255, some ⟨63, 6, 0, 384 * 2 ^ 20, 1, 15, 65535⟩)] }))
      (by decide +kernel),
    case_of 0 0 (live 0) (by decide +kernel),
    case_of 0 0 (fun p => (live 0 p).updTile 0 (fun t => { t with wins := [(0, some ⟨63, 6, 0, 64, 1, 15, 0⟩)] })) (by decide +kernel), ?_, ?_, ?_, ?_,
    quiet_case (case_of 0 (2 + at_ 1 2) (fun p => (live 2 p).wr (keeperB + R.panelState) 1) (by decide +kernel)), ?_⟩
  · intro n hn
    refine case_of 0 (at_ 16 (Ep.dieUnit 0 19 3).addr + at_ 20 2 + at_ 24 n) (fun p => (live 0 p).updDie 19 (fun d => { d with rails := true, pll := true })) ?_
    revert n
    decide +kernel
  · intro e he
    refine case_of 0 (at_ 1 e.2) (fun p => live e.1 p) ?_
    revert e
    decide +kernel
  · intro e he
    refine case_of 1 (1 + at_ 1 e.2) (fun p => p.updTile 1 (fun t => { t with rails := e.1 })) ?_
    revert e
    decide +kernel
  · intro e he
    refine case_of 0 (2 + at_ 1 e.2) (fun p => (live 2 p).wr (keeperB + R.panelState) (w32 e.1)) ?_
    revert e
    decide +kernel
  · intro code hc
    refine case_of 0 (3 + at_ 1 code) (fun p => ((live 2 p).wr (tileB 0 + R.vfPoint + 28) (w32 (132 + 700 * 2 ^ 16))).rset 0 1 R.vcoreSet_pin 1) ?_
    revert code
    decide +kernel

/-- Parameters of SELFTEST, RESET_SCOPE and the like: all bytes by place. -/
def args (l : List (Nat × Nat)) : Nat := (l.map (fun e => at_ e.1 e.2)).foldl (· + ·) 0

theorem aliasCert_short (p : Panel) (f : Fuses) : (p.aliasCertNow f).length ≤ 32768 := by
  unfold Panel.aliasCertNow Config.aliasCert
  rw [List.length_take]
  omega

/-! Two route images of one record each, and their checks. -/

theorem drop_range {α : Type} (g : Nat → α) (d n : Nat) : ((List.range n).map g).drop d = (List.range (n - d)).map (fun i => g (d + i)) := by
  apply List.ext_getElem
  · simp
  · intro i h1 h2
    simp

theorem num_range (g : Nat → BitVec 8) {n a k : Nat} (h : a + k ≤ n) :
    num ((List.range n).map g) a k = ofBytes ((List.range k).map (fun i => g (a + i))) := by
  unfold num slice
  rw [drop_range, ← List.map_take, List.take_range, Nat.min_eq_left (by omega)]

/-- A route image of one record, for core 9 of tile 0: every entry leads north but its own. -/
def routeMem : SMap (BitVec 8) :=
  [(hostKey 3 4096 + 1, 9), (hostKey 3 4096 + 2, 1), (hostKey 3 4096 + 64, 7), (hostKey 3 4096 + 65, 7), (hostKey 3 4096 + 2368 + 144, 4)]
/-- A byte of that image. -/
def routeByte (i : Nat) : BitVec 8 := sget hostReset routeMem (hostKey 3 (4096 + i))
/-- An entry of its tables. -/
def routeEntry (base i : Nat) (port : Bool) : RtEntry :=
  ⟨(routeByte (base + 16 * i)).toNat, if port then 7 else (routeByte (base + 16 * i + 1)).toNat, 0⟩

theorem routeTable (base n : Nat) (port : Bool) (h : ∀ i, i < n → ∀ j, j < 8 → routeByte (base + 16 * i + 8 + j) = 0) (hb : base + 16 * n ≤ 3392) :
    tableAt (((List.range 3392).map routeByte).drop base) n port = (List.range n).map (fun i => routeEntry base i port) := by
  unfold tableAt
  apply List.map_congr_left
  intro i hi
  have hi : i < n := List.mem_range.1 hi
  rw [drop_range, num_range _ (by omega), num_range _ (by omega), num_range _ (by omega)]
  have z : (List.range 8).map (fun j => routeByte (base + (16 * i + 8 + j))) = List.replicate 8 0 := by
    apply List.ext_getElem
    · simp
    · intro j h1 h2
      have hj : j < 8 := by simpa using h1
      simp only [List.getElem_map, List.getElem_range, List.getElem_replicate]
      rw [← h i hi j hj]
      congr 1
      omega
  rw [z]
  have one (b : BitVec 8) : ofBytes [b] = b.toNat := by simp [ofBytes]
  simp only [List.range_one, List.map_cons, List.map_nil, one, Nat.add_zero, routeEntry, ← Nat.add_assoc]
  rfl

/-- The record of that image. -/
def routeRec1 : RouteRec :=
  ⟨0, 9, some ((List.range 144).map (fun i => routeEntry 64 i false)), some ((List.range 64).map (fun i => routeEntry 2368 i true)), none⟩

theorem routeRecs1 : routeRecs false 2 ((List.range 3392).map routeByte) = ([routeRec1], false, false) := by
  have h1 : ((List.range 3392).map routeByte).isEmpty = false := by simp
  have h2 : ¬ ((List.range 3392).map routeByte).length < 64 := by simp
  have h3 : num ((List.range 3392).map routeByte) 2 1 = 1 := by rw [num_range _ (by omega)]; decide +kernel
  have h4 : num ((List.range 3392).map routeByte) 0 1 = 0 := by rw [num_range _ (by omega)]; decide +kernel
  have h5 : num ((List.range 3392).map routeByte) 1 1 = 9 := by rw [num_range _ (by omega)]; decide +kernel
  have h6 : ((((List.range 3392).map routeByte).drop 3).take 61).all (· == 0) = true := by
    rw [drop_range, ← List.map_take, List.take_range]; decide +kernel
  have h7 : ¬ ((List.range 3392).map routeByte).length < 3392 := by simp
  have h8 : ((List.range 3392).map routeByte).drop 3392 = [] := by simp
  have h9 : routeRecs false 1 [] = ([], false, false) := rfl
  have ha := routeTable 64 144 false (by decide +kernel) (by omega)
  have hb := routeTable 2368 64 true (by decide +kernel) (by omega)
  rw [routeRecs]
  simp only [h1, h2, h3, h4, h5, h6, ha, List.drop_drop, Nat.reduceAdd, hb, Nat.reduceMod, Nat.reduceDiv, if_true]
  simp only [reduceIte, Bool.false_eq_true, Nat.zero_ne_one, Nat.one_ne_zero, false_or, Nat.reduceLT, Nat.add_zero, h7, h8, h9]
  unfold routeRec1
  rfl

theorem routeCheck1 : routeCheck false 3392 ((List.range 3392).map routeByte) = (stOk, [routeRec1]) := by
  have h : recOk routeRec1 = true := by decide +kernel
  unfold routeCheck
  rw [if_neg (by decide), show 3392 / 3392 + 1 = 2 from rfl, routeRecs1]
  have a : [routeRec1].all recOk = true := by rw [List.all_cons, h]; rfl
  have e : ([routeRec1].map (fun r => 64 * r.t + r.c)).eraseDups.length = 1 := by decide +kernel
  simp only [a, e]
  rfl

/-- A route image of FABRIC_ROUTE_LOAD of one record, for core 0 of tile 0, every entry invalid. -/
def fabMem : SMap (BitVec 8) := [(hostKey 3 4096 + 2, 2)]
/-- A byte of that image. -/
def fabByte (i : Nat) : BitVec 8 := sget hostReset fabMem (hostKey 3 (4096 + i))

theorem fabByte_high {i : Nat} (h : 3 ≤ i) (hi : i < 8256) : fabByte i = 0 := by
  unfold fabByte fabMem sget
  rw [if_neg (by unfold hostKey; omega)]
  rfl

/-- The record of that image. -/
def fabRec1 : RouteRec := ⟨0, 0, none, none, some ((List.range 4096).map (fun _ => ⟨false, 0⟩))⟩

theorem fabTable : (List.range 4096).map (fun i => (⟨(num ((((List.range 8256).map fabByte).drop 64).drop 0) (2 * i) 2).testBit 15,
    num ((((List.range 8256).map fabByte).drop 64).drop 0) (2 * i) 1⟩ : RemEntry)) = (List.range 4096).map (fun _ => ⟨false, 0⟩) := by
  apply List.map_congr_left
  intro i hi
  have hi : i < 4096 := List.mem_range.1 hi
  rw [List.drop_zero, drop_range, num_range _ (by omega), num_range _ (by omega)]
  have h0 : fabByte (64 + (2 * i + 0)) = 0 := fabByte_high (by omega) (by omega)
  have h1 : fabByte (64 + (2 * i + 1)) = 0 := fabByte_high (by omega) (by omega)
  have r2 : List.range 2 = [0, 1] := rfl
  simp only [r2, List.range_one, List.map_cons, List.map_nil, h0, h1]
  rfl

theorem fabRecs1 : routeRecs true 3 ((List.range 8256).map fabByte) = ([fabRec1], false, false) := by
  have h1 : ((List.range 8256).map fabByte).isEmpty = false := by simp
  have h2 : ¬ ((List.range 8256).map fabByte).length < 64 := by simp
  have h3 : num ((List.range 8256).map fabByte) 2 1 = 2 := by rw [num_range _ (by omega)]; decide +kernel
  have h4 : num ((List.range 8256).map fabByte) 0 1 = 0 := by rw [num_range _ (by omega)]; decide +kernel
  have h5 : num ((List.range 8256).map fabByte) 1 1 = 0 := by rw [num_range _ (by omega)]; decide +kernel
  have h6 : ((((List.range 8256).map fabByte).drop 3).take 61).all (· == 0) = true := by
    rw [drop_range, ← List.map_take, List.take_range]; decide +kernel
  have h7 : ¬ ((List.range 8256).map fabByte).length < 8256 := by simp
  have h8 : ((List.range 8256).map fabByte).drop 8256 = [] := by simp
  have h9 : routeRecs true 2 [] = ([], false, false) := rfl
  rw [routeRecs]
  simp only [h1, h2, h3, h4, h5, h6, Nat.reduceMod, Nat.reduceDiv, if_true, reduceIte, Nat.zero_ne_one, Nat.reduceAdd, fabTable]
  simp only [reduceIte, Bool.false_eq_true, show ¬ (2 : Nat) = 0 by decide, show ¬ 3 < 2 by decide, or_self, Nat.reduceLT, h7, h8, h9]
  unfold fabRec1
  rfl

theorem fabCheck1 : routeCheck true 8256 ((List.range 8256).map fabByte) = (stOk, [fabRec1]) := by
  have h : recOk fabRec1 = true := by
    simp only [recOk, fabRec1, Bool.and_self, List.all_map, Bool.true_and, List.all_eq_true, List.mem_range, Function.comp_apply,
      Bool.not_false, Nat.zero_le, decide_true, Bool.or_self, implies_true]
  unfold routeCheck
  rw [if_neg (by decide), show 8256 / 3392 + 1 = 3 from rfl, fabRecs1]
  have a : [fabRec1].all recOk = true := by rw [List.all_cons, h]; rfl
  have e : ([fabRec1].map (fun r => 64 * r.t + r.c)).eraseDups.length = 1 := by decide +kernel
  simp only [a, e]
  rfl

/-- The checks of ROUTE_TABLE_LOAD on the first image. -/
def routesReady (s : State) (c : Cmd) : Bool :=
  decide (c.port = 3 ∧ s.p.host.mem = routeMem ∧ c.pn 0 8 = 4096 ∧ c.pn 8 4 = 3392) && !c.soiled {} (span 0 12) && s.p.bootDone 2 && (s.p.tile 0).rails &&
    !s.p.loadBusy

theorem routes_ready {s : State} {c : Cmd} (h : routesReady s c = true) : (routeChecks false false 2 c s.p).find? (·.1) = none := by
  simp only [routesReady, Bool.and_eq_true, decide_eq_true_eq, Bool.not_eq_true'] at h
  obtain ⟨⟨⟨⟨⟨h1, h2, h3, h4⟩, h5⟩, h6⟩, h7⟩, h8⟩ := h
  have hr : s.p.hostRd c.port (c.pn 0 8) 3392 = (List.range 3392).map routeByte := by
    unfold Panel.hostRd
    rw [h1, h2, h3]
    rfl
  have h7 : (s.p.tile routeRec1.t).rails = true := h7
  unfold routeChecks
  have hz : (false || (3392 : Nat) == 0 || decide (128 * 2 ^ 20 < 3392)) = false := by decide
  simp only [h4, hz, Bool.false_eq_true, if_false, hr, routeCheck1, h5, h6, h8, List.any_cons, List.any_nil, h7]
  rfl

/-- The checks of FABRIC_ROUTE_LOAD on the second. -/
def fabReady (s : State) (c : Cmd) : Bool :=
  decide (c.port = 3 ∧ s.p.host.mem = fabMem ∧ c.pn 0 8 = 4096 ∧ c.pn 8 4 = 8256) && !c.soiled {} (span 0 12) && s.p.bootDone 4 && !s.p.loadBusy

theorem fab_ready {s : State} {c : Cmd} (h : fabReady s c = true) : (routeChecks true false 4 c s.p).find? (·.1) = none := by
  simp only [fabReady, Bool.and_eq_true, decide_eq_true_eq, Bool.not_eq_true'] at h
  obtain ⟨⟨⟨⟨h1, h2, h3, h4⟩, h5⟩, h6⟩, h8⟩ := h
  have hr : s.p.hostRd c.port (c.pn 0 8) 8256 = (List.range 8256).map fabByte := by
    unfold Panel.hostRd
    rw [h1, h2, h3]
    rfl
  unfold routeChecks
  have hz : (false || (8256 : Nat) == 0 || decide (128 * 2 ^ 20 < 8256)) = false := by decide
  simp only [h4, hz, Bool.false_eq_true, if_false, hr, fabCheck1, h5, h6, h8]
  rfl

theorem ready {op : Nat} {P : State → Cmd → Bool} {Q : State → Cmd → Prop} (hq : ∀ {s c}, P s c = true → Q s c)
    (h : ∃ s c, Taken s op id7 c ∧ P s c = true) : ∃ s c, Taken s op id7 c ∧ Q s c := by
  obtain ⟨s, c, h1, h2⟩ := h
  exact ⟨s, c, h1, hq h2⟩

theorem witness_ResetRouteFabricCommands :
    (∃ s c, Taken s 0x50 id7 c ∧ (((scopeChecks c s.p).find? (·.1)).isNone && decide (c.p 0 = 0 ∧ s.p.scopeCores c = [x0]) &&
      decide (s.p.regionState x0 = 1) && !s.p.bad.contains x0.key && (s.p.region 0 0).up.isNone) = true) ∧
    (∃ s c, Taken s 0x50 id7 c ∧ (((scopeChecks c s.p).find? (·.1)).isNone && decide (c.p 0 = 8)) = true) ∧
    (∃ s c, Taken s 0x51 id7 c ∧ (decide (c.tile = 0 ∧ c.core = 0 ∧ c.p 0 = 0) && !s.p.gone 0 && !s.p.routerFree x0) = true) ∧
    (∃ s c, Taken s 0x51 id7 c ∧ (decide (c.tile = 0 ∧ c.core = 0 ∧ c.p 0 = 1) && !s.p.gone 0 && !s.p.inReset x0) = true) ∧
    (∃ s c, Taken s 0x58 id7 c ∧ (routeChecks false false 2 c s.p).find? (·.1) = none) ∧
    (∃ s c, Taken s 0x91 id7 c ∧ (routeChecks true false 4 c s.p).find? (·.1) = none) ∧
    (∃ s c, Taken s 0x58 id7 c ∧ ((routeChecks false true 2 c s.p).find? (·.1)).isNone = true) ∧
    (∃ s c, Taken s 0x91 id7 c ∧ ((routeChecks true true 4 c s.p).find? (·.1)).isNone = true) ∧
    (∃ s c, Taken s 0x61 id7 c ∧ (decide (c.tile = 0) && !s.p.gone 0 && decide (s.p.testTargets c = [x0]) && decide (s.p.regionState x0 = 0) &&
      !s.p.running x0 && !s.p.startBusy x0 && !s.p.testing x0) = true) ∧
    (∃ s c, Taken s 0x80 id7 c ∧ (decide (c.p 0 = 1 ∧ c.p 1 = 3 ∧ c.p 2 = 63) && s.p.bootDone 1 && !s.p.dieTime 15 &&
      decide (s.p.ptc s.p.keeperNode = none)) = true) ∧
    (∃ s c, Taken s 0x80 id7 c ∧ (decide (c.p 0 = 1 ∧ c.p 1 = 2 ∧ c.p 2 = 0) && s.p.bootDone 1 &&
      decide (s.p.ptc s.p.keeperNode = some ⟨0, 0, 0⟩)) = true) ∧
    (∃ s c, Taken s 0x90 id7 c ∧ (decide (c.p 8 = 1 ∧ c.pn 10 2 = 4095) && s.p.bootDone 4 && !s.p.loadBusy && s.p.keep.fab.disc.isNone &&
      (c.pn 0 8).testBit 63 && !(c.pn 0 8).testBit 0 && decide (s.p.ykState 63 = 5)) = true) ∧
    (∃ s c, Taken s 0xA0 id7 c ∧ 16624 + (s.p.aliasCertNow s.fuses).length ≤ c.pn 8 4 ∧ (s.p.bootDone 1 && s.p.canSign) = true) := by
  refine ⟨case_of 0 0 (live 1) (by decide +kernel), case_of 0 8 (live 1) (by decide +kernel), case_of 0 0 (live 0) (by decide +kernel),
    case_of 0 1 (live 0) (by decide +kernel),
    ready routes_ready (case_of 0 (args [(0, 4096), (8, 3392)]) (fun p => (let q := (live 0 p).gset R.bootSts_done 15;
      { q with host := { q.host with mem := routeMem } })) (by decide +kernel)),
    ready fab_ready (case_of 0 (args [(0, 4096), (8, 8256)]) (fun p => (let q := p.gset R.bootSts_done 15;
      { q with host := { q.host with mem := fabMem } })) (by decide +kernel)),
    case_of 0 (args [(8, 3392)]) (fun p => (live 0 p).gset R.bootSts_done 15) (by decide +kernel),
    case_of 0 (args [(8, 3392)]) (fun p => (live 0 p).gset R.bootSts_done 15) (by decide +kernel),
    case_of 0 1 (live 0) (by decide +kernel),
    case_of 0 (args [(0, 1), (1, 3), (2, 63)]) (fun p => p.gset R.bootSts_done 1) (by decide +kernel),
    case_of 0 (args [(0, 1), (1, 2)]) (fun p => (p.gset R.bootSts_done 1).setPtc p.keeperNode (some ⟨0, 0, 0⟩)) (by decide +kernel),
    case_of 0 (args [(0, 2 ^ 63), (8, 1), (10, 4095)]) (fun p => (p.gset R.bootSts_done 15).wr (ykReg 63) (w32 (5 * 2 ^ 28))) (by decide +kernel), ?_⟩
  have h := case_of (op := 0xA0) (P := fun s c => decide (c.pn 8 4 = 49392) && (s.p.bootDone 1 && s.p.canSign)) 0 (args [(8, 49392)])
    (fun p => (p.gset R.bootSts_done 1).updKeep (fun k => { k with trustA := { k.trustA with akey := true } })) (by decide +kernel)
  obtain ⟨s, c, h1, h2⟩ := h
  rw [Bool.and_eq_true, decide_eq_true_eq] at h2
  exact ⟨s, c, h1, by rw [h2.1]; have := aliasCert_short s.p s.fuses; omega, h2.2⟩

/-- Port 3 is up and serves, with an SQ and a CQ of number 63. -/
def queues (f : Panel → Panel) : State :=
  st (fun p => (let q := ((ring p).gset R.bootSts_done 15).qset 3 63 R.sqCfg_cq 63; f { q with host := { q.host with up := [(3, true)] } }))

theorem witness_QueuesAndApertures :
    (∀ en ∈ [0, 1], ∀ size ∈ [0, 4095], ∀ base ∈ [0, 4096, 64], let s := queues (fun p => ((((p.qset 3 63 R.sqCfg_en en).qset 3 63 R.cqCfg_en en).qset 3 63
        R.sqCfg_size size).qset 3 63 R.cqCfg_size size).wr (hostB 3 + qOff R.sqBaseLo 63) (w32 base));
      s.p.portUp 3 = true ∧ s.p.qget 3 63 R.sqCfg_en = en ∧ s.p.qget 3 63 R.cqCfg_en = en ∧ s.p.qget 3 63 R.sqCfg_size = size ∧
        s.p.qget 3 63 R.cqCfg_size = size ∧ s.p.sqBase 3 63 = base ∧ s.p.cqBase 3 63 = 0 ∧ s.p.sqN 3 63 = max size 1 + 1) ∧
    (let s := queues (fun p => p.wr (hostB 3 + qOff R.cqBaseLo 63) (w32 64)); s.p.cqBase 3 63 % 4096 ≠ 0 ∧ s.p.qget 3 63 R.cqCfg_en = 0) ∧
    (let s := queues (fun p => (p.qset 3 63 R.cqCfg_en 1).qset 3 0 R.cqCfg_en 1);
      (∀ k, k < 64 → s.p.qget 3 k R.sqCfg_en = 0 ∨ s.p.qget 3 k R.sqCfg_cq ≠ 63) ∧ s.p.qget 3 63 R.cqCfg_en = 1) ∧
    (∀ op ∈ [0x01, 0x03], let s := queues (fun p => (let q := ((p.qset 3 63 R.sqCfg_en 1).qset 3 63 R.cqCfg_en 1);
          { q with host := { q.host with sqTail := [(255, 1)], mem := [(hostKey 3 0, BitVec.ofNat 8 op)] } }));
      s.p.host.arb.pick 256 s.p.ready = some (64 * 3 + 63) ∧ s.p.host.cmds.length < 4096 ∧
        bits (BitVec.ofNat 512 (ofBytes (s.p.hostRd 3 0 64))) 15 0 = op ∧ s.p.cmd (3, 0) = none ∧
        opcodes.contains op = decide (op = 1)) ∧
    (∀ now ∈ [9999999, 10000000], ∀ started ∈ [false, true], let s := queues (fun p => { p with now := now, host := { p.host with cmds := [{ cmdOf 1 with started := started }] } });
      s.p.cmd (3, (7 : BitVec 16).toNat) = some { cmdOf 1 with started := started } ∧ CmdsInRange s ∧
        (s.p.now < 0 + 1000 * (cmdOf 1).tmo ↔ now = 9999999)) ∧
    (∀ bits_ ∈ [0, 1, 2, 3], ∀ unit ∈ [2, 6], let m : BitVec 32 := BitVec.ofNat 32 (bits_ * 2 ^ 30 + unit);
      (queues (fun p => p.wr (hostB 3 + R.aperMap + 4 * 63) m)).p.aperMap 3 63 = m ∧ m.getLsbD 31 = decide (2 ≤ bits_) ∧
        m.getLsbD 30 = decide (bits_ % 2 = 1) ∧ bits m 28 0 = unit ∧
        aperSize unit = (if unit = 2 then 4 * 2 ^ 20 else 384 * 2 ^ 20) ∧ (4 * 2 ^ 20 - 64 : BitVec 30).toNat < aperSize unit) := by
  refine ⟨?_, ?_, ?_, ?_, ?_, ?_⟩
  all_goals (try unfold CmdsInRange)
  all_goals decide +kernel

/-! Witnesses: Yelkor, trust, and the register map. -/

/-- A panel whose lists are in range, with no command in flight, and of which more holds. -/
def stateCase (f : Panel → Panel) (P : State → Bool) : Bool := decide ((st f).p.host.cmds = []) && listsOk (st f) && P (st f)

theorem stateCase_ok (f : Panel → Panel) {P : State → Bool} (h : stateCase f P = true) : ∃ s, CmdsInRange s ∧ ListsInRange s ∧ P s = true := by
  simp only [stateCase, Bool.and_eq_true, decide_eq_true_eq] at h
  refine ⟨st f, ?_, listsOk_sound h.1.2, h.2⟩
  unfold CmdsInRange
  rw [h.1.1]
  exact ⟨by simp, by simp⟩

/-- Port 63 in a state, with its link. -/
def port63 (state : Nat) (f : LinkSt → LinkSt := id) (p : Panel) : Panel := ((ring p).wr (ykReg 63) (w32 (state * 2 ^ 28))).updYk 63 f
/-- A cell with its check value. -/
def goodCell (body : BitVec 704) : BitVec 704 := body ||| ((cellCrc body).setWidth 704 <<< 672)

theorem witness_YelkorPorts :
    (∃ s, CmdsInRange s ∧ ListsInRange s ∧ decide (s.p.ykState 63 = 0 ∧ s.p.ykUp 63 = false) = true) ∧
    (∃ s, CmdsInRange s ∧ ListsInRange s ∧ decide (s.p.ykState 63 = 1 ∧ sget (fun _ => 0) s.p.keep.fab.since 63 + 1000000 ≤ s.p.now) = true) ∧
    (∃ s, CmdsInRange s ∧ ListsInRange s ∧ decide (s.p.ykState 63 = 1 ∧ s.p.now < sget (fun _ => 0) s.p.keep.fab.since 63 + 1000000) = true) ∧
    (cellCrc 0 ≠ (0 : BitVec 704).extractLsb' 672 32) ∧
    (let c := goodCell (1 <<< 622);
      cellCrc c = c.extractLsb' 672 32 ∧ bits c 653 652 = 0 ∧ bits c 623 622 = 1 ∧ bits c 635 624 = 0) ∧
    (let c := goodCell (5 ||| 2 <<< 622);
      cellCrc c = c.extractLsb' 672 32 ∧ bits c 653 652 = 0 ∧ bits c 623 622 = 2 ∧ ykByte (c.extractLsb' 0 256) 0 = 5) ∧
    (∃ s, CmdsInRange s ∧ ListsInRange s ∧ decide (s.p.ykUp 63 = true ∧ s.p.ykActive 63 = true ∧ (s.p.yk 63).expect = 0) = true) ∧
    (∃ s, CmdsInRange s ∧ ListsInRange s ∧ decide (s.p.ykUp 63 = true ∧ s.p.ykActive 63 = true ∧ (s.p.yk 63).expect = 1) = true) ∧
    (∃ s, CmdsInRange s ∧ ListsInRange s ∧ decide (s.p.ykActive 63 = true ∧ (s.p.yk 63).replay = [] ∧ s.p.now < (s.p.yk 63).ackAt + 20) = true) ∧
    (∃ s, CmdsInRange s ∧ ListsInRange s ∧ decide (s.p.ykActive 63 = true ∧ (s.p.yk 63).replay ≠ [] ∧ (s.p.yk 63).ackAt + 20 ≤ s.p.now ∧
      ((s.p.yk 63).replay.foldl (fun (m : SMap Nat) f => supd (fun _ => 0) m f.1 (· + 1)) (s.p.yk 63).resent) = [(7, 15)]) = true) ∧
    (∃ s, CmdsInRange s ∧ ListsInRange s ∧ decide (s.p.ykActive 63 = true ∧ (s.p.yk 63).replay ≠ [] ∧ (s.p.yk 63).ackAt + 20 ≤ s.p.now ∧
      ((s.p.yk 63).replay.foldl (fun (m : SMap Nat) f => supd (fun _ => 0) m f.1 (· + 1)) (s.p.yk 63).resent) = [(7, 16)]) = true) ∧
    (∃ s, CmdsInRange s ∧ ListsInRange s ∧ decide (s.p.ykUp 63 = true ∧ s.p.kget R.ykMarginTh_limit < (65535 : BitVec 32).toNat ∧
      (0 : BitVec 32).toNat ≤ s.p.kget R.ykMarginTh_limit) = true) ∧
    (∃ s, CmdsInRange s ∧ ListsInRange s ∧ decide (s.p.ykUp 63 = true ∧ (s.p.die (63 / 4)).peer = none) = true) ∧
    (∃ s, CmdsInRange s ∧ ListsInRange s ∧ decide (s.p.ykUp 63 = true ∧ (s.p.die (63 / 4)).peer = some (1, 2)) = true) ∧
    (ykByte 0 1 / 16 = 0 ∧ ykByte 0x1200 1 % 16 = 2 ∧ 1 ≤ ykByte 0xF100 1 / 16 ∧ ykByte 0xF100 1 % 16 ≤ 1 ∧
      (bits (0x10000000002001000 : BitVec 256) 127 64, ykByte 0x10000000002001000 3) = (1, 2) ∧ ykByte 0x10000000002001000 1 / 16 = 1) := by
  refine ⟨stateCase_ok id (by decide +kernel), stateCase_ok (fun p => { port63 1 id p with now := 1000000 }) (by decide +kernel),
    stateCase_ok (fun p => { port63 1 id p with now := 999999 }) (by decide +kernel), by decide +kernel, by decide +kernel, by decide +kernel,
    stateCase_ok (port63 3) (by decide +kernel), stateCase_ok (port63 6 (fun l => { l with expect := 1 })) (by decide +kernel),
    stateCase_ok (port63 3) (by decide +kernel),
    stateCase_ok (fun p => { port63 3 (fun l => { l with replay := [(7, ⟨[], 0, true, true⟩)], resent := [(7, 14)] }) p with now := 20 }) (by decide +kernel),
    stateCase_ok (fun p => { port63 3 (fun l => { l with replay := [(7, ⟨[], 0, true, true⟩)], resent := [(7, 15)] }) p with now := 20 }) (by decide +kernel),
    stateCase_ok (port63 2) (by decide +kernel), stateCase_ok (port63 4) (by decide +kernel),
    stateCase_ok (fun p => (port63 3 id p).updDie 15 (fun d => { d with peer := some (1, 2) })) (by decide +kernel), by decide +kernel⟩

theorem ofBytes_lt : ∀ l : List (BitVec 8), ofBytes l < 256 ^ l.length
  | [] => by simp [ofBytes]
  | b :: l => by
    have h : ofBytes l < 256 ^ l.length := ofBytes_lt l
    have hb := b.isLt
    have e : ofBytes (b :: l) = b.toNat + 256 * ofBytes l := rfl
    rw [e, List.length_cons, Nat.pow_succ]
    omega

/-- Every panel's own identity is one that a message can carry, and another is too. -/
theorem identOf_carried (f : Fuses) : (∃ i : BitVec 64, i.toNat = identOf f) ∧ ∃ i : BitVec 64, i.toNat ≠ identOf f := by
  have h : identOf f < 2 ^ 64 := by
    unfold identOf
    refine Nat.lt_of_lt_of_le (ofBytes_lt _) ?_
    have : ((sha256 (devicePub f)).take 8).length ≤ 8 := List.length_take_le ..
    exact Nat.le_trans (Nat.pow_le_pow_right (by decide) this) (by decide)
  refine ⟨⟨BitVec.ofNat 64 (identOf f), by rw [BitVec.toNat_ofNat]; exact Nat.mod_eq_of_lt h⟩, ?_⟩
  by_cases hz : identOf f = 0
  · exact ⟨1, by rw [hz]; decide⟩
  · exact ⟨0, Ne.symm hz⟩

/-- Port 63 ACTIVE, with the fabric's state changed. -/
def fab63 (f : FabSt → FabSt) (g : Panel → Panel := id) (p : Panel) : Panel := g ((port63 3 id p).updFab f)
/-- A packet from Yelkor at die 15, from port 63. -/
def fromYelkor (p : Panel) : Panel := { p with flights := [⟨0, mkFlits (wr1 2) (ones.map ssc76Enc), 9216 + 15, 5, .yelkor, 0, 0, 63⟩] }
/-- The master is valid and hears YTIME on port 63. -/
def hears (valid : Bool) (p : Panel) : Panel :=
  let e := timeEnd 159 0 0
  (((((fab63 (fun b => { b with delay := [(63, some 10)] }) id p).setPtc 164 (some ⟨0, 0, 0⟩)).setPtcBit 164 31 valid).kset R.ptcCtl_src 3).kset
    R.ptcCtl_yport 63).setLinkState e 8 |>.nset e R.linkSts_feat 2

theorem witness_YelkorFabricAndTime :
    (∃ s, CmdsInRange s ∧ ListsInRange s ∧ (s.p.keep.fab.heard.all (fun e => match e.2 with | some r => decide (s.p.now < r.at_ + 50000) | none => true) &&
      decide (s.p.keep.fab.heard = [(63, some ⟨1, 2, 0⟩)])) = true) ∧
    (∃ s, CmdsInRange s ∧ ListsInRange s ∧ (decide (s.p.keep.fab.heard = [(63, some ⟨1, 2, 0⟩)]) && decide (0 + 50000 ≤ s.p.now) &&
      swf (fun _ => none) s.p.keep.fab.heard) = true) ∧
    (∃ s, CmdsInRange s ∧ ListsInRange s ∧ (!s.p.ykActive 63 && decide (s.p.kget R.ykFabSts_held = 0)) = true) ∧
    (∃ s, CmdsInRange s ∧ ListsInRange s ∧ (s.p.ykActive 63 && s.p.isRoot && decide (s.p.freeId = some 1) &&
      decide (s.p.keep.fab.claims.find? (fun c => c.2 == 4095) = none) && decide (s.p.keep.fab.claims.find? (fun c => c.2 == 0) = some (9, 0))) = true) ∧
    (∃ s, CmdsInRange s ∧ ListsInRange s ∧ (s.p.ykActive 63 && !s.p.isRoot && decide (s.p.keep.fab.parent = some 7) &&
      decide (s.p.kget R.ykFabSts_auto = 1)) = true) ∧
    (∃ s, CmdsInRange s ∧ ListsInRange s ∧ decide (s.p.kget R.ykFabSts_held = 1 ∧ s.p.kget R.ykFabSts_auto = 0) = true) ∧
    ((∃ i : BitVec 64, i.toNat = identOf Fuses.zero) ∧ ∃ i : BitVec 64, i.toNat ≠ identOf Fuses.zero) ∧
    (∀ i : BitVec 64, ∃ s, CmdsInRange s ∧ ListsInRange s ∧ s.p.keep.fab.paths.find? (fun e => e.1 == i.toNat) = some (i.toNat, 63)) ∧
    (∃ s, CmdsInRange s ∧ ListsInRange s ∧ (decide ((s.p.flight 0).map (·.stage) = some .yelkor) && decide (s.p.kget R.ykFabSts_held = 0)) = true) ∧
    (∃ s, CmdsInRange s ∧ ListsInRange s ∧ (decide ((s.p.flight 0).map (·.stage) = some .yelkor) && decide (s.p.kget R.ykFabSts_held = 1) &&
      decide (s.p.kget R.ykFabSts_dup = 0) && decide ((s.p.flight 0).map (·.hdrOk) = some true)) = true) ∧
    (∃ s, CmdsInRange s ∧ ListsInRange s ∧ (!s.p.ptcBit s.p.keeperNode 31) = true) ∧
    (∃ s, CmdsInRange s ∧ ListsInRange s ∧ (s.p.ptcBit s.p.keeperNode 31 && s.p.ytimeOk 63 0x1000E00 == false && s.p.ytimeOk 63 0x10E00 &&
      decide (s.p.ptc s.p.keeperNode = some ⟨0, 0, 0⟩)) = true) ∧
    (∃ s, CmdsInRange s ∧ ListsInRange s ∧ (!s.p.ptcBit s.p.keeperNode 31 && s.p.ytimeOk 63 0x10E00 &&
      decide (s.p.ptc s.p.keeperNode = some ⟨0, 0, 0⟩)) = true) ∧
    (∃ s, CmdsInRange s ∧ ListsInRange s ∧ (decide (s.p.timeSrc = 3) && (s.p.ptc s.p.keeperNode).isSome && decide (s.p.keep.fab.ytAt + 3000 ≤ s.p.now)) = true) ∧
    (∃ s, CmdsInRange s ∧ ListsInRange s ∧ s.p.ykActive 63 = true) := by
  refine ⟨stateCase_ok (fun p => { fab63 (fun b => { b with heard := [(63, some ⟨1, 2, 0⟩)] }) id p with now := 49999 }) (by decide +kernel),
    stateCase_ok (fun p => { fab63 (fun b => { b with heard := [(63, some ⟨1, 2, 0⟩)] }) id p with now := 50000 }) (by decide +kernel),
    stateCase_ok id (by decide +kernel),
    stateCase_ok (fab63 (fun b => { b with claims := [(9, 0)] }) (fun p => p.kset R.ykFabSts_root 1)) (by decide +kernel),
    stateCase_ok (fab63 (fun b => { b with parent := some 7 }) (fun p => p.kset R.ykFabSts_auto 1)) (by decide +kernel),
    stateCase_ok (fun p => (p.kset R.ykFabSts_held 1).kset R.ykFabSts_auto 0) (by decide +kernel), identOf_carried _, ?_,
    stateCase_ok fromYelkor (by decide +kernel), stateCase_ok (fun p => (fromYelkor p).kset R.ykFabSts_held 1) (by decide +kernel),
    stateCase_ok id (by decide +kernel), stateCase_ok (hears true) (by decide +kernel), stateCase_ok (hears false) (by decide +kernel),
    stateCase_ok (fun p => { hears true p with now := 3000 }) (by decide +kernel), stateCase_ok (port63 3) (by decide +kernel)⟩
  intro i
  refine ⟨st (fun p => p.updFab (fun b => { b with paths := [(i.toNat, 63)] })), ?_, listsOk_sound rfl, by simp [st, Panel.updFab, Panel.updKeep]⟩
  unfold CmdsInRange
  exact ⟨(by intro c h; cases h), List.nodup_nil⟩

/-- The active keeper runs its image with its keys, and port 3 is up; its connection is at a stage. -/
def speaks (stage : Nat) (ext : Bool) (f : Spdm → Spdm := id) : State :=
  st (fun p => (let q := (ring p).setConn 3 (f { Spdm.zero with stage := stage, ext := ext });
    { q.updKeep (fun k => { k with trustA := ⟨true, some [], 0, 0, true⟩ }) with host := { q.host with up := [(3, true)] } }))
/-- A request is queued for a signature. -/
def queued (r : SignReq) : State := { withCmd 0xA0 (fun p => p.updKeep (fun k => { k with signs := [r] })) with fuses := Fuses.zero }

theorem slhSign_length (a b : List (BitVec 8)) : (Config.slhSign a b).length = 16224 := by simp [Config.slhSign]

theorem certChain_ne (p : Panel) (f : Fuses) : 0 < (p.certChain f).length := by
  unfold Panel.certChain
  simp [toBytes]

theorem witness_TrustServices :
    (∀ k : Fin 2, let s := st (fun p => ((ring p).updKeep (fun b => { b with trustA := ⟨true, some [], 0, 0, false⟩, trustB := ⟨true, some [], 0, 0, false⟩ })).gset
        R.keeperSts_b_state 3);
      s.p.keep.ring = true ∧ (s.p.trust k).devid = true ∧ (s.p.trust k).header.isSome = true ∧ 2 ≤ s.p.keeperState k) ∧
    (∀ k : Fin 2, State.reset.p.keep.ring = false ∧ (State.reset.p.trust k).devid = false ∧ State.reset.p.keep.signs = []) ∧
    (let r : SignReq := ⟨some (3, 7), 3, [], [], [], 4096⟩; let s := queued r; let c : Cmd := { cmdOf 0xA0 with waits := [partSign] };
      let t : State := { s with p := { s.p with host := { s.p.host with cmds := [c] } } };
      t.p.keep.signs = [r] ∧ t.p.cmd (3, 7) = some c ∧ c.waits = [partSign] ∧ CmdsInRange t) ∧
    (∀ a b, 4096 + (([] : List (BitVec 8)) ++ Config.slhSign a b ++ []).length ≤ 2 ^ 64) ∧
    (let r : SignReq := ⟨none, 3, [], [], [], 0⟩; (queued r).p.keep.signs = [r]) ∧
    (Responds (speaks 0 false) 3 ∧ ¬ Responds (speaks 0 false) 2) ∧
    (∀ n ∈ [0, 1, 2, 3], ∀ e ∈ [false, true], ((speaks n e).p.conn 3).stage = n ∧ ((speaks n e).p.conn 3).ext = e ∧
      ((speaks n e).p.trust (speaks n e).p.activeK).akey = true ∧ (speaks n e).p.canSign = true) ∧
    (num (List.replicate 44 0) 4 2 = 0 ∧ num (List.replicate 44 0) 2 1 = 0 ∧ num (List.replicate 44 0) 3 1 = 0 ∧
      num [0x13, 0xE0, 0, 8] 3 1 = 8 ∧ num [0x13, 0xE0, 0, 8] 2 1 % 2 = 0) ∧
    (∀ p f, 0 < (Panel.certChain p f).length) ∧
    (let req : List (BitVec 8) := List.replicate 8 0 ++ [2, 0, 0, 0] ++ [9, 0, 0, 0] ++ [1, 2];
      slice req 16 (num req 8 4) = [1, 2] ∧ (slice req 16 (num req 8 4)).length = num req 8 4 ∧ num req 4 2 = 0) ∧
    ((speaks 3 true).p.conn 3).inbound.length + 2 ≤ 65536 ∧
    (let s := speaks 3 true (fun c => { c with outbound := List.replicate 4081 0 });
      (s.p.conn 3).outbound ≠ [] ∧ (s.p.conn 3).outSeq = 0 ∧ 4080 < (s.p.conn 3).outbound.length) := by
  refine ⟨by decide +kernel, by decide +kernel, ?_, ?_, by decide +kernel, ?_, by decide +kernel, by decide +kernel, certChain_ne,
    by decide +kernel, by decide +kernel, by decide +kernel⟩
  · unfold CmdsInRange; decide +kernel
  · intro a b
    simp [slhSign_length]
  · unfold Responds; decide +kernel

/-- Port 3's view of tile 13: its die's link is ACTIVE, and so is the path. -/
def reaches (p : Panel) : Panel :=
  (let q := ((ring p).gset R.bootSts_done 15).setLinkState (mkDieEnd 19 0) 8; { q with host := { q.host with up := [(3, true)] } })

theorem witness_RegistersAndSideband :
    ((reg id).p.computeDead x0 = false ∧ State.reset.p.computeDead x0 = true) ∧
    (State.reset.p.portUp 3 = false ∧ (st reaches).p.portUp 3 = true) ∧
    (let s := st (fun p => { p with host := { p.host with up := [(3, true)] } });
      s.p.portUp 3 = true ∧ s.p.blkReachable 3 (blkOf (4 * (1 : BitVec 24).toNat)) = false) ∧
    (∀ a ∈ [keeperB + R.kPtcVal, globB + R.bootSts], (st reaches).p.blkReachable 3 (blkOf a) = true ∧ farMsix 3 (blkOf a) = false ∧
      a ≠ globB + R.tallyData ∧ a ≠ globB + R.tallyData + 4 ∧ 4 * (BitVec.ofNat 24 (a / 4)).toNat = a ∧
      isLo a = decide (a = keeperB + R.kPtcVal) ∧ (st reaches).p.latches = []) ∧
    ((st (fun p => { reaches p with latches := [(3, 4, 7)] })).p.latches.find? (fun l => l.1 == 3 && l.2.1 == 4) = some (3, 4, 7)) ∧
    (let t := dieTile 19; let a := tileB t + R.pwrHsLimit;
      (st reaches).p.blkReachable 3 (blkOf a) = true ∧ blkOf a = .tile t R.pwrHsLimit ∧
        (R.pwrHsLimit < R.fcReact ∨ R.fcReact + 16 ≤ R.pwrHsLimit) ∧ R.pwrHsLimit ≠ R.fcSticky ∧ R.pwrHsLimit ≠ R.checkCtl ∧
        R.pwrHsLimit ≠ R.thermCtl ∧ 4 * (BitVec.ofNat 24 (a / 4)).toNat = a) ∧
    (blkOf (hostB 3 + 0x900) = .host 3 0x900 ∧ (st reaches).p.blkReachable 3 (.host 3 0x900) = true ∧ R.evtCfg ≤ 0xFFF) ∧
    ((st reaches).p.blkReachable 3 (blkOf (keeperB + R.alertSts)) = true ∧ (15 : BitVec 4) = 15 ∧ (14 : BitVec 4) ≠ 15) ∧
    (∀ n ∈ [0, 5, 3, 1], ∃ s, CmdsInRange s ∧ ListsInRange s ∧ (s.p.keep.ring && decide (s.p.ykState 63 = n)) = true) ∧
    ((st ring).p.keep.ring = true ∧ State.reset.p.keep.ring = false) ∧
    (let s := st (fun p => (ring p).wr (keeperB + R.panelState) 2); s.p.keep.ring = true ∧ s.p.standby = true ∧ (1 : BitVec 32).getLsbD 0 = true) := by
  refine ⟨by decide +kernel, by decide +kernel, by decide +kernel, by decide +kernel, by decide +kernel, by decide +kernel, by decide +kernel,
    by decide +kernel, ?_, by decide +kernel, by decide +kernel⟩
  intro n hn
  refine stateCase_ok (port63 n) ?_
  revert n
  decide +kernel

/-! The operands that a command demands: an ill-formed term for each check. -/

theorem test_wf_bad_requests :
    (Instr.bundleIssue x0 [⟨11, 0, 0, true⟩]).wf = false ∧
    (Instr.packetInject (.core x0) 0 0 0 0 [0]).wf = false ∧ (Instr.packetInject (.core x0) 0 0 0 0 (List.replicate 520 0)).wf = false ∧
    (Instr.apertureWrite 0 0 0 []).wf = false ∧ (Instr.apertureWrite 0 0 0 (List.replicate 4097 0)).wf = false ∧
    (Instr.apertureRead 0 0 0 0).wf = false := by decide +kernel

theorem test_wf_bad_samples :
    (Instr.wardenSample 0 (List.replicate 23 0) (List.replicate 4 0) (List.replicate 4 0) 0).wf = false ∧
    (Instr.wardenSample 0 (List.replicate 24 0) (List.replicate 5 0) (List.replicate 4 0) 0).wf = false ∧
    (Instr.wardenSample 0 (List.replicate 24 0) (List.replicate 4 0) [] 0).wf = false ∧
    (Instr.censusEnd e0 [169, 169]).wf = false ∧ (Instr.trainLoadedEnd e0 [(0, 1), (0, 2)]).wf = false ∧
    (Instr.retrainDone e0 [3, 3] true).wf = false := by decide +kernel

theorem test_wf_bad_spdm : ∀ req ∈ [[0x13, 0xE0, 0], List.replicate 4089 (0 : BitVec 8)],
    (Instr.getVersion 0 req).wf = false ∧ (Instr.getCapabilities 0 req).wf = false ∧ (Instr.negotiateAlgorithms 0 req).wf = false ∧
      (Instr.getDigests 0 req).wf = false ∧ (Instr.getCertificate 0 req).wf = false ∧ (Instr.challenge 0 req).wf = false ∧
      (Instr.getMeasurements 0 req).wf = false ∧ (Instr.chunkSend 0 req).wf = false ∧ (Instr.chunkGet 0 req).wf = false := by
  decide +kernel

/-! Worked examples of the spec. -/

/-- Table 1.8: the channel above core 45 of tile (8,4) on panel 3. -/
theorem test_worked_address :
    tileAt 8 4 = 56 ∧ regionOf 45 = 3 ∧ standOf 56 = 6 ∧ standCentre 6 = tileAt 7 4 ∧ (Ep.tileUnit 3 56 45 6).addr = 0x0007096E ∧
      tileB 56 = 0x01E00000 := by decide

/-- Table 20.12's ARB_WAIT of input LOCAL at output W of that tile's core 45. -/
theorem test_counter_address : coreB 56 45 + 0x688 = 0x01E36E88 ∧ blkOf 0x01E36E88 = .core 56 45 0x688 ∧ isLo 0x01E36E88 = true := by
  decide +kernel

/-- Table 2.7: the block with and without its outlier, in MXFP4. -/
theorem test_outlier_block :
    let row : List (Bool × Q) := [(false, ⟨4, 10⟩), (false, ⟨1, 10⟩), (false, ⟨25, 100⟩), (false, ⟨0, 1⟩), (false, ⟨0, 1⟩)]
    let ts : ScaleRd := ⟨Q.int 1, false, false⟩
    let c : Conv := ⟨0, 0⟩
    let a := convert ⟨false, 0, false, 2, false⟩ ts (row ++ [(false, ⟨22, 1⟩)]) c
    let b := convert ⟨false, 0, false, 2, false⟩ ts (row ++ [(true, ⟨22, 1⟩)]) c
    a.scales = [0x81] ∧ (a.els.map (·.code)) = [0, 0, 0, 0, 0, 7] ∧ b.scales = [0x7C] ∧ (b.els.map (·.code)) = [5, 2, 4, 0, 0, 0] ∧
      a.c.alarms = 0 ∧ b.c.alarms = 0 := by decide +kernel

/-- HN4 beyond its scale: 60 with a tensor scale of 2^-6 clamps and counts (the example before R56). -/
theorem test_hn4_saturates :
    let r := convert ⟨false, 0, false, 3, false⟩ ⟨Q.dy 1 (-6), false, false⟩ [(false, ⟨60, 1⟩), (false, ⟨31, 10⟩)] ⟨0, 0⟩
    r.scales = [0xFE] ∧ r.els.map (·.code) = [7, 1] ∧ r.c.alarms = 1 := by decide +kernel

/-- Table 3.6: the dot product inside the window, W = -20; and block 3 with S = -21, tested product by product. -/
theorem test_dot_product :
    (Acc.zero.add (-20) [Q.dy 55 (-11), Q.dy (-13) (-8), Q.dy 85 (-9), Q.dy (-81) (-12)]).1 = ⟨128256, false, false⟩ ∧
    (Acc.zero.add (-20) [Q.dy 148992 (-20), Q.dy (-36) (-21), Q.dy (-3) (-21), Q.dy (-3) (-22)]).1 = ⟨148971, true, false⟩ := by
  decide +kernel

/-- R335's example: 1,000 W over demands of 200, 250, 300 and 310 W. -/
theorem test_water_level :
    divide 1000 310 [(0, 200), (1, 250), (2, 300), (3, 310)] = [(0, 200), (1, 250), (2, 275), (3, 275)] := by decide +kernel

/-! The queue. -/

/-- The front command runs on the state with the queue's rest, and an idle step is a microsecond. -/
theorem test_queue : (match step { State.reset with pending := [.ppsLost, .timeTick] } with | .next t => t.pending | _ => []) = [.timeTick] ∧
    (match step State.reset with | .next t => t.p.now | _ => 0) = 1 := by decide +kernel

/-- A voltage beyond the absolute maximum rating stops the machine (R514). -/
theorem test_absolute_maximum : (match exec (.feedSample 80001 0 0 0) State.reset with | .fault f => f == .beyondAbsoluteMax | _ => false) = true := by decide +kernel
end Sys2Proof.Tests
end

section
/-!
SUPPORT. Fields of words: the bits of a field, and what a field reads after its own or another's replacement (R9).
-/
namespace Sys2Proof.Machine

open Sys2Proof

/-- Bit i of a field is bit lo + i of its word. -/
theorem testBit_bits {w : Nat} (x : BitVec w) (hi lo i : Nat) :
    (bits x hi lo).testBit i = (decide (i < hi + 1 - lo) && x.getLsbD (lo + i)) := by
  simp [bits, Nat.testBit_mod_two_pow, Nat.testBit_shiftRight, BitVec.getLsbD]

/-- A field is below the power of two of its width. -/
theorem bits_lt {w : Nat} (x : BitVec w) (hi lo : Nat) : bits x hi lo < 2 ^ (hi + 1 - lo) :=
  Nat.mod_lt _ (Nat.two_pow_pos _)

/-- Replacing a field replaces its own bits alone. -/
theorem getLsbD_setBits {w : Nat} (x : BitVec w) (hi lo v i : Nat) (hi_lt : hi < w) :
    (setBits x hi lo v).getLsbD i = if lo ≤ i ∧ i ≤ hi then v.testBit (i - lo) else x.getLsbD i := by
  have mask : (BitVec.ofNat w ((2 ^ (hi + 1 - lo) - 1) <<< lo)).getLsbD i = decide (lo ≤ i ∧ i ≤ hi) := by
    rw [BitVec.getLsbD_ofNat, Nat.testBit_shiftLeft, Nat.testBit_two_pow_sub_one]
    by_cases h : lo ≤ i ∧ i ≤ hi <;> simp [h] <;> omega
  have value : (BitVec.ofNat w (v <<< lo)).getLsbD i = (decide (i < w) && (decide (lo ≤ i) && v.testBit (i - lo))) := by
    rw [BitVec.getLsbD_ofNat, Nat.testBit_shiftLeft]
  simp only [setBits, BitVec.getLsbD_or, BitVec.getLsbD_and, BitVec.getLsbD_not, mask, value]
  by_cases h : lo ≤ i ∧ i ≤ hi
  · have iw : i < w := by omega
    simp [h, iw]
  · by_cases iw : i < w
    · simp [h, iw]
    · simp [h, iw, BitVec.getLsbD_of_ge x i (Nat.le_of_not_lt iw)]

/-- A replaced field reads what was put, where that fits. -/
theorem bits_setBits {w : Nat} (x : BitVec w) {hi lo v : Nat} (hi_lt : hi < w) (hv : v < 2 ^ (hi + 1 - lo)) :
    bits (setBits x hi lo v) hi lo = v := by
  refine Nat.eq_of_testBit_eq fun i => ?_
  rw [testBit_bits, getLsbD_setBits _ _ _ _ _ hi_lt]
  by_cases h : i < hi + 1 - lo
  · simp [h, show lo + i ≤ hi by omega]
  · simp [h, Nat.testBit_lt_two_pow (Nat.lt_of_lt_of_le hv (Nat.pow_le_pow_right (by decide) (Nat.le_of_not_lt h)))]

/-- Another field reads what it did. -/
theorem bits_setBits_ne {w : Nat} (x : BitVec w) {hi lo v hi' lo' : Nat} (hi_lt : hi < w) (h : hi' < lo ∨ hi < lo') :
    bits (setBits x hi lo v) hi' lo' = bits x hi' lo' := by
  refine Nat.eq_of_testBit_eq fun i => ?_
  rw [testBit_bits, testBit_bits, getLsbD_setBits _ _ _ _ _ hi_lt]
  by_cases hi1 : i < hi' + 1 - lo'
  · rw [if_neg (by omega)]
  · simp [hi1]

/-- A sum of distinct powers of two below 2^n, by a choice of them. -/
theorem powSum_lt (f : Nat → Bool) (n : Nat) :
    (List.range n).foldl (fun v k => if f k then v + 2 ^ k else v) 0 < 2 ^ n := by
  induction n with
  | zero => exact Nat.one_pos
  | succ n ih =>
    rw [List.range_succ, List.foldl_append, List.foldl_cons, List.foldl_nil]
    split <;> omega

/-- Such a sum has the bits of the powers chosen. -/
theorem testBit_powSum (f : Nat → Bool) (n i : Nat) :
    ((List.range n).foldl (fun v k => if f k then v + 2 ^ k else v) 0).testBit i = (decide (i < n) && f i) := by
  induction n with
  | zero => simp
  | succ n ih =>
    have lt := powSum_lt f n
    rw [List.range_succ, List.foldl_append, List.foldl_cons, List.foldl_nil]
    cases hf : f n
    · have e : (decide (i < n + 1) && f i) = (decide (i < n) && f i) := by
        by_cases h : i = n
        · simp [h, hf]
        · rw [decide_eq_decide.2 (show i < n + 1 ↔ i < n by omega)]
      rw [e, ← ih]
      rfl
    · rw [if_pos rfl, Nat.add_comm, ← Nat.mul_one (2 ^ n), Nat.testBit_two_pow_mul_add 1 lt, ih]
      by_cases h : i < n
      · simp [h, Nat.lt_succ_of_lt h]
      · by_cases e : i = n
        · simp [e, hf]
        · have := Nat.testBit_lt_two_pow (Nat.one_lt_two_pow (n := i - n) (by omega))
          simp [h, show ¬ i < n + 1 by omega, this]

end Sys2Proof.Machine
end

section
/-!
SUPPORT. Host memory, MSI-X vectors and completion entries (R430, R434): what an entry writes, and what it leaves.
-/
namespace Sys2Proof.Machine

open Sys2Proof

/-! Bytes. -/

@[simp] theorem length_toBytes (n v : Nat) : (toBytes n v).length = n := by
  induction n generalizing v with
  | zero => rfl
  | succ n ih => simp [toBytes, ih]

/-- Panels whose host memory is the same give the same bytes. -/
theorem hostRd_congr {p q : Panel} (h : p.host.mem = q.host.mem) (port a n : Nat) : p.hostRd port a n = q.hostRd port a n := by
  unfold Panel.hostRd
  rw [h]

/-- Bytes written to host memory are read back where they stand below 2^64. -/
theorem hostRd_hostWr (p : Panel) (port a : Nat) (bs : List Byte) (h : a + bs.length ≤ 2 ^ 64) :
    (p.hostWr port a bs).hostRd port a bs.length = bs := by
  refine List.ext_getElem (by simp [Panel.hostRd]) fun i hi hb => ?_
  have key : hostKey port (a + i) = hostKey port a + i := by
    unfold hostKey
    rw [Nat.mod_eq_of_lt (by omega), Nat.mod_eq_of_lt (by omega), Nat.add_assoc]
  simp only [Panel.hostRd, List.getElem_map, List.getElem_range, key, hostWr_byte]
  rw [dif_pos ⟨by omega, by omega⟩]
  simp

@[simp] theorem qset_eq (p : Panel) (port q : Nat) (f : Fld) (v : Nat) : p.qset port q f v = p.fset (hostB port + 0x20 * q) f v := rfl

section Write

variable (p : Panel) (port a : Nat) (bs : List Byte)

@[simp] theorem hostWr_rd (b : Nat) : (p.hostWr port a bs).rd b = p.rd b := rfl
@[simp] theorem hostWr_cmds : (p.hostWr port a bs).host.cmds = p.host.cmds := rfl
@[simp] theorem hostWr_msix : (p.hostWr port a bs).host.msix = p.host.msix := rfl

end Write

/-! MSI-X. -/

/-- A vector whose table entry is not masked is sent. -/
theorem msix_of_unmasked {p : Panel} {port v : Nat} (h : bit (p.rd (hostB port + 0x8000 + 16 * v + 12)) 0 = false) :
    p.msix port v = { p with host := { p.host with msix := p.host.msix ++ [(port, v)] } } := if_neg (by simp [h])

/-- Of the host's side a vector changes what has been sent alone. -/
theorem msix_host (p : Panel) (port v : Nat) : ∃ l, (p.msix port v).host = { p.host with msix := l } := by
  unfold Panel.msix
  split
  · exact ⟨p.host.msix, by rw [orReg_eq, wr_host]⟩
  · exact ⟨_, rfl⟩

@[simp] theorem msix_mem (p : Panel) (port v : Nat) : (p.msix port v).host.mem = p.host.mem := by
  obtain ⟨l, h⟩ := msix_host p port v
  rw [h]
@[simp] theorem msix_phase (p : Panel) (port v : Nat) : (p.msix port v).host.phase = p.host.phase := by
  obtain ⟨l, h⟩ := msix_host p port v
  rw [h]
@[simp] theorem msix_cmds (p : Panel) (port v : Nat) : (p.msix port v).host.cmds = p.host.cmds := by
  obtain ⟨l, h⟩ := msix_host p port v
  rw [h]

/-- A vector leaves every register but its port's pending bits. -/
theorem rd_msix {p : Panel} {port v a : Nat} (h : a ≠ hostB port + 0x1000 + 4 * (v / 32)) : (p.msix port v).rd a = p.rd a := by
  unfold Panel.msix
  split
  · rw [orReg_eq, rd_wr, if_neg h]
  · rfl

theorem msix_only {p q : Panel} {m : May} (h : p.Only m q) (hr : ∀ a, hostRegs a → m.regs a) (hh : m.host)
    {port v : Nat} (hp : port < 4) (hv : v < 2048) : p.Only m (q.msix port v) := by
  unfold Panel.msix
  split
  · exact Frame.wr h (hr _ (by unfold hostRegs hostB; omega)) _
  · exact Frame.host h hh _

/-! Completion entries. -/

/-- The 32 bytes of a completion entry (Table 17.8). -/
def cqEntry (epoch : Nat) (ph : Bool) (tag status flags opcode sq sqHead : Nat) (result : List Byte) : List Byte :=
  toBytes 2 tag ++ toBytes 1 status ++ toBytes 1 (flags + b2n ph) ++ toBytes 2 opcode ++ toBytes 1 sq ++
    toBytes 1 0 ++ toBytes 2 sqHead ++ toBytes 2 epoch ++ toBytes 4 0 ++ (result ++ toBytes 16 0).take 16

@[simp] theorem length_cqEntry (epoch : Nat) (ph : Bool) (tag status flags opcode sq sqHead : Nat) (result : List Byte) :
    (cqEntry epoch ph tag status flags opcode sq sqHead result).length = 32 := by simp [cqEntry]

/-- The entry of a CQ after the one at its tail, around its ring. -/
def Panel.cqNext (p : Panel) (port q : Nat) : Nat := (p.qget port q R.qSts_cq_tail + 1) % p.cqN port q

/-- A CQ has at most 4,096 entries. -/
theorem cqNext_lt (p : Panel) (port q : Nat) : p.cqNext port q < 2 ^ 12 := by
  have size : p.qget port q R.cqCfg_size < 2 ^ 12 := bits_lt _ _ _
  have next : p.cqNext port q < p.cqN port q := Nat.mod_lt _ (Nat.succ_pos _)
  have n : p.cqN port q = max (p.qget port q R.cqCfg_size) 1 + 1 := rfl
  omega

/-- The CQ after an entry is written: the entry, the tail, and the phase where the tail comes round to 0 (R430). -/
def Panel.cqPut (p : Panel) (port q : Nat) (entry : List Byte) : Panel :=
  let put := (p.hostWr port (p.cqBase port q + 32 * p.qget port q R.qSts_cq_tail) entry).qset port q R.qSts_cq_tail (p.cqNext port q)
  if p.cqNext port q = 0 then
    { put with host := { put.host with phase := sset (fun _ => true) put.host.phase (qKey port q) (!p.cqPhase port q) } }
  else put

section Put

variable (p : Panel) (port q : Nat) (entry : List Byte)

/-- What an entry changes of the host's side; the phase inverts when the tail comes round to 0. -/
theorem cqPut_host : (p.cqPut port q entry).host =
    { (p.hostWr port (p.cqBase port q + 32 * p.qget port q R.qSts_cq_tail) entry).host with
      phase := if p.cqNext port q = 0 then sset (fun _ => true) p.host.phase (qKey port q) (!p.cqPhase port q) else p.host.phase } := by
  unfold Panel.cqPut
  rw [qset_eq, fset_eq]
  dsimp only
  split
  · rw [wr_host]
    rfl
  · rw [wr_host]
    rfl

theorem cqPut_phase : (p.cqPut port q entry).cqPhase port q = if p.cqNext port q = 0 then !p.cqPhase port q else p.cqPhase port q := by
  unfold Panel.cqPhase
  rw [cqPut_host]
  dsimp only
  split
  · exact sget_sset_self _ _ _
  · rfl

/-- An entry changes of the registers its queue's tail alone. -/
theorem rd_cqPut (a : Nat) : (p.cqPut port q entry).rd a = if a = hostB port + 0x20 * q + R.qSts_cq_tail.off then
    setBits (p.rd a) R.qSts_cq_tail.hi R.qSts_cq_tail.lo (p.cqNext port q) else p.rd a := by
  have h : (p.cqPut port q entry).regs = ((p.hostWr port (p.cqBase port q + 32 * p.qget port q R.qSts_cq_tail) entry).qset port q
      R.qSts_cq_tail (p.cqNext port q)).regs := by
    unfold Panel.cqPut
    split <;> rfl
  rw [Panel.rd, h, ← Panel.rd, qset_eq, fset_eq, rd_wr]
  split
  · next e => rw [e, hostWr_rd]
  · rw [hostWr_rd]

/-- The tail moves to the next entry. -/
theorem cqPut_tail : (p.cqPut port q entry).qget port q R.qSts_cq_tail = p.cqNext port q := by
  unfold Panel.qget Panel.fget
  rw [rd_cqPut, if_pos rfl]
  exact bits_setBits _ (by decide) (cqNext_lt p port q)

/-- The other registers' fields of the queue are as they were. -/
theorem cqPut_qget {f : Fld} (h : f.off ≠ R.qSts_cq_tail.off) : (p.cqPut port q entry).qget port q f = p.qget port q f := by
  unfold Panel.qget Panel.fget
  rw [rd_cqPut, if_neg (by omega)]

theorem cqPut_only {p₀ : Panel} {m : May} (h : p₀.Only m p) (hr : ∀ a, hostRegs a → m.regs a) (hh : m.host) (hp : port < 4)
    (hq : q < 64) : p₀.Only m (p.cqPut port q entry) := by
  have put : p₀.Only m ((p.hostWr port (p.cqBase port q + 32 * p.qget port q R.qSts_cq_tail) entry).qset port q R.qSts_cq_tail
      (p.cqNext port q)) :=
    Frame.wr (Frame.host h hh _) (hr _ (by simp only [hostRegs, hostB, R.qSts_cq_tail]; omega)) _
  unfold Panel.cqPut
  split
  · exact Frame.host put hh _
  · exact put

/-- A completion entry is put in its CQ, and its vector sent if ien is 1 (R430, R434). -/
theorem cqe_eq (tag status flags opcode sq sqHead : Nat) (result : List Byte) :
    p.cqe port q tag status flags opcode sq sqHead result =
      let put := p.cqPut port q (cqEntry p.epoch (p.cqPhase port q) tag status flags opcode sq sqHead result)
      if p.qget port q R.cqCfg_ien = 1 then put.msix port (p.qget port q R.cqCfg_vec) else put := by
  dsimp only
  rw [← cqPut_qget p port q _ (f := R.cqCfg_ien) (by decide), ← cqPut_qget p port q _ (f := R.cqCfg_vec) (by decide)]
  rfl

end Put

section Entry

variable {p : Panel} {port q tag status flags opcode sq sqHead : Nat} {result : List Byte}

/-- A completion entry changes the host's side and registers of the host ports' blocks. -/
theorem cqe_only {p₀ : Panel} {m : May} (h : p₀.Only m p) (hr : ∀ a, hostRegs a → m.regs a) (hh : m.host) (hp : port < 4)
    (hq : q < 64) :
    p₀.Only m (p.cqe port q tag status flags opcode sq sqHead result) := by
  rw [cqe_eq]
  have put := cqPut_only p port q (cqEntry p.epoch (p.cqPhase port q) tag status flags opcode sq sqHead result) h hr hh hp hq
  dsimp only
  split
  · exact msix_only put hr hh hp (bits_lt _ _ _)
  · exact put

@[simp] theorem cqe_mem : (p.cqe port q tag status flags opcode sq sqHead result).host.mem =
    (p.hostWr port (p.cqBase port q + 32 * p.qget port q R.qSts_cq_tail)
      (cqEntry p.epoch (p.cqPhase port q) tag status flags opcode sq sqHead result)).host.mem := by
  rw [cqe_eq]
  dsimp only
  split
  · rw [msix_mem, cqPut_host]
  · rw [cqPut_host]

@[simp] theorem cqe_cmds : (p.cqe port q tag status flags opcode sq sqHead result).host.cmds = p.host.cmds := by
  rw [cqe_eq]
  dsimp only
  split
  · rw [msix_cmds, cqPut_host, hostWr_cmds]
  · rw [cqPut_host, hostWr_cmds]

theorem cqe_phase : (p.cqe port q tag status flags opcode sq sqHead result).cqPhase port q =
    if p.cqNext port q = 0 then !p.cqPhase port q else p.cqPhase port q := by
  rw [cqe_eq, ← cqPut_phase]
  dsimp only
  split
  · rw [Panel.cqPhase, msix_phase, ← Panel.cqPhase]
  · rfl

theorem cqe_tail (hq : q < 64) : (p.cqe port q tag status flags opcode sq sqHead result).qget port q R.qSts_cq_tail = p.cqNext port q := by
  rw [cqe_eq, ← cqPut_tail]
  dsimp only
  split
  · unfold Panel.qget Panel.fget
    rw [rd_msix (by simp only [R.qSts_cq_tail]; omega)]
  · rfl

/-- The vector of a CQ with ien is sent while its table entry is not masked (R488). -/
theorem cqe_msix (ien : p.qget port q R.cqCfg_ien = 1)
    (unmasked : bit (p.rd (hostB port + 0x8000 + 16 * p.qget port q R.cqCfg_vec + 12)) 0 = false) :
    (p.cqe port q tag status flags opcode sq sqHead result).host.msix = p.host.msix ++ [(port, p.qget port q R.cqCfg_vec)] := by
  rw [cqe_eq]
  dsimp only
  rw [if_pos ien, msix_of_unmasked]
  · rw [cqPut_host, hostWr_msix]
  · rw [rd_cqPut, if_neg (by simp only [R.qSts_cq_tail]; omega), unmasked]

end Entry

end Sys2Proof.Machine
end

section
/-!
SUPPORT. How Ranger begins a command and how the command completes (R430, R432 to R438): one lemma for each way a command starts,
what its completion leaves, and what its entry is.
-/
namespace Sys2Proof.Machine

open Sys2Proof

/-! A command that has started. -/

/-- The command as it stands once Ranger has started it. -/
def Cmd.begun (c : Cmd) : Cmd := { c with started := true }

@[simp] theorem begun_key (c : Cmd) : c.begun.key = c.key := rfl

/-- The panel with a command of it started. -/
def Panel.begun (p : Panel) (c : Cmd) : Panel := p.setCmd c.begun

section Read

variable (p : Panel) (c : Cmd)

@[simp] theorem panelBegun_rd (a : Nat) : (p.begun c).rd a = p.rd a := rfl
@[simp] theorem panelBegun_tget (t : Nat) (f : Fld) : (p.begun c).tget t f = p.tget t f := rfl
@[simp] theorem panelBegun_panelId : (p.begun c).panelId = p.panelId := rfl
@[simp] theorem panelBegun_activeK : (p.begun c).activeK = p.activeK := rfl
@[simp] theorem panelBegun_fenced (x : Cid) : (p.begun c).fenced x = p.fenced x := rfl
@[simp] theorem panelBegun_cmds : (p.begun c).host.cmds.length = p.host.cmds.length := List.length_map _

end Read

/-- Starting a command changes the commands in flight alone. -/
theorem begun_host (s : State) (c : Cmd) : (s.p.begun c).host = { s.p.host with cmds := startedCmds s c } := rfl

theorem begun_only {p q : Panel} {m : May} {c : Cmd} (h : (p.begun c).Only m q) : p.Only { m with host := True } q :=
  Frame.trans (Frame.host (Frame.refl _ p) trivial _) { h with host := fun n => absurd trivial n }

/-- A command that begins is the one in flight under its own port and tag. -/
theorem cmd_of_begin {p : Panel} {op : Nat} {id : CmdId} {c : Cmd} (h : p.begin op id = some c) : p.cmd c.key = some c := by
  unfold Panel.begin at h
  split at h
  · cases h
  · next d hd =>
    have key : d.key = (id.port.val, id.tag.toNat) := by simpa using List.find?_some hd
    split at h
    · cases h
    · cases h
      rw [key, hd]

/-- Started, it is still found there. -/
theorem cmd_begun {p : Panel} {c : Cmd} (h : p.cmd c.key = some c) : (p.begun c).cmd c.key = some c.begun := by
  have look (l : List Cmd) (hl : l.find? (fun d => d.key == c.key) = some c) :
      (l.map (fun d => if d.key = c.begun.key then c.begun else d)).find? (fun d => d.key == c.key) = some c.begun := by
    induction l with
    | nil => cases hl
    | cons d l ih =>
      by_cases hd : d.key = c.key
      · simp [hd]
      · have : l.find? (fun d => d.key == c.key) = some c := by simpa [hd] using hl
        simpa [hd] using ih this
  exact look _ h

/-- The other commands in flight once it has completed. -/
theorem filter_startedCmds (s : State) (c : Cmd) :
    (startedCmds s c).filter (fun d => d.key != c.key) = s.p.host.cmds.filter (fun d => d.key != c.key) := by
  unfold startedCmds
  induction s.p.host.cmds with
  | nil => rfl
  | cons d l ih =>
    by_cases hd : d.key = c.key
    · have : ({ c with started := true } : Cmd).key = c.key := rfl
      simp only [List.map_cons, if_pos hd]
      simpa [hd, this] using ih
    · simpa [hd] using ih

theorem port_of_startedCmds {s : State} {c d : Cmd} (h : CmdsInRange s) (hc : c ∈ s.p.host.cmds) (hd : d ∈ startedCmds s c) :
    d.port < 4 := by
  obtain ⟨e, he, rfl⟩ := List.mem_map.1 hd
  split
  · exact (h.1 c hc).1
  · exact (h.1 e he).1

/-! Starting. -/

section Start

variable {p : Panel} {op : Nat} {id : CmdId} {c : Cmd} {checks : Cmd → Panel → List (Bool × Nat)} {run : Cmd → Panel → Panel}

/-- A command that cannot begin does nothing. -/
theorem start_none (h : p.begin op id = none) : p.start op id checks run = p := by
  simp [Panel.start, h]

/-- A command completes with the status of the first check that fails. -/
theorem start_refused {st : Nat} (h : p.begin op id = some c) (hc : (checks c p).find? (·.1) = some (true, st)) :
    p.start op id checks run = p.cmdEnd c.key st [] := by
  simp [Panel.start, Panel.checked, h, hc]

/-- A command that passes its checks and conflicts with no other runs. -/
theorem start_begun (h : p.begin op id = some c) (hc : (checks c p).find? (·.1) = none) (hb : p.tileBusy c = false) :
    p.start op id checks run = run c.begun (p.begun c) := by
  simp only [Panel.start, Panel.checked, h, hc, hb]
  rfl

end Start

/-! Completing. -/

/-- What the completion of a command changes. -/
def May.ending : May := { regs := hostRegs, host := True }

/-- The completion of a command writes its entry and takes it from those in flight. -/
theorem cmdEnd_only {p : Panel} (h : ∀ c ∈ p.host.cmds, c.port < 4) (k : Nat × Nat) (st : Nat) (res : List Byte) :
    p.Only May.ending (p.cmdEnd k st res) := by
  unfold Panel.cmdEnd
  split
  · exact Frame.refl _ p
  · next c hc =>
    have gone := Frame.host (Frame.refl May.ending p) trivial { p.host with cmds := p.host.cmds.filter (fun d => d.key != k) }
    dsimp only
    split
    · exact gone
    · exact cqe_only gone (fun _ ha => ha) trivial (h c (List.mem_of_find?_eq_some hc)) (bits_lt _ _ _)

section Taken

variable {s : State} {op : Nat} {id : CmdId} {c : Cmd}

theorem cmd_of_taken (h : Taken s op id c) : s.p.cmd c.key = some c := cmd_of_begin h.1

/-- The descriptor of a command taken up has the form that its opcode wants. -/
theorem soiled_of_taken {f : Reads × List Nat} (h : Taken s op id c) (hf : opForm c op = some f) : c.soiled f.1 f.2 = false := by
  obtain ⟨-, ⟨g, hg, hs⟩, -⟩ := h
  cases hf.symm.trans hg
  exact hs

/-- A command taken up that passes its checks runs. -/
theorem onPanel_start {checks : Cmd → Panel → List (Bool × Nat)} {run : Cmd → Panel → Panel} (h : Taken s op id c)
    (hc : (checks c s.p).find? (·.1) = none) :
    onPanel (fun p => p.start op id checks run) s = .next { s with p := run c.begun (s.p.begun c) } := by
  rw [onPanel_next, start_begun h.1 hc h.2.2.1]

/-- A command taken up that passes its checks runs, and completes as its run says: nothing changes but what the run names and its
completion. -/
theorem completes_of_run {i : Instr} {checks : Cmd → Panel → List (Bool × Nat)} {run : Cmd → Panel → Panel} {m : May} {q : Panel}
    {st : Nat} {res : List Byte} (he : exec i s = onPanel (fun p => p.start op id checks run) s) (h : Taken s op id c)
    (hc : (checks c s.p).find? (·.1) = none) (hm : ¬ m.host) (hq : (s.p.begun c).Only m q)
    (hr : run c.begun (s.p.begun c) = q.cmdEnd c.key st res) :
    ∃ t, exec i s = .next t ∧ Completes m c st res s t ∧ q.Only May.ending t.p := by
  have range := h.2.2.2.1
  have host : q.host = { s.p.host with cmds := startedCmds s c } := (hq.host hm).trans (begun_host s c)
  have ports : ∀ d ∈ q.host.cmds, d.port < 4 := by
    rw [host]
    exact fun d hd => port_of_startedCmds range (List.mem_of_find?_eq_some (cmd_of_taken h)) hd
  rw [he, onPanel_start h hc, hr]
  exact ⟨_, rfl, ⟨rfl, rfl, q, begun_only hq, host, rfl⟩, cmdEnd_only ports _ _ _⟩

end Taken

/-! The entry. -/

/-- The panel without the command in flight under a port and tag. -/
def Panel.dropCmd (p : Panel) (k : Nat × Nat) : Panel :=
  { p with host := { p.host with cmds := p.host.cmds.filter (fun d => d.key != k) } }

section Drop

variable (p : Panel) (k : Nat × Nat) (port q : Nat)

@[simp] theorem dropCmd_qget (f : Fld) : (p.dropCmd k).qget port q f = p.qget port q f := rfl
@[simp] theorem dropCmd_cqBase : (p.dropCmd k).cqBase port q = p.cqBase port q := rfl
@[simp] theorem dropCmd_cqNext : (p.dropCmd k).cqNext port q = p.cqNext port q := rfl
@[simp] theorem dropCmd_cqPhase : (p.dropCmd k).cqPhase port q = p.cqPhase port q := rfl
@[simp] theorem dropCmd_epoch : (p.dropCmd k).epoch = p.epoch := rfl
@[simp] theorem dropCmd_mem : (p.dropCmd k).host.mem = p.host.mem := rfl
@[simp] theorem dropCmd_msix : (p.dropCmd k).host.msix = p.host.msix := rfl

end Drop

/-- The end of a command whose port has not been reset. -/
theorem cmdEnd_of_cmd {p : Panel} {k : Nat × Nat} {c : Cmd} (h : p.cmd k = some c) (loud : c.mute = false) (st : Nat) (res : List Byte) :
    p.cmdEnd k st res = (p.dropCmd k).cqe c.port ((p.dropCmd k).qget c.port c.sq R.sqCfg_cq) c.tag st 0 c.opcode c.sq
      ((p.dropCmd k).qget c.port c.sq R.qSts_sq_head) res := by
  unfold Panel.cmdEnd
  rw [h]
  exact if_neg (by simp [loud])

/-- A started command dropped leaves the others as they were. -/
theorem dropCmd_begun (s : State) (c : Cmd) : (s.p.begun c).dropCmd c.key = s.p.dropCmd c.key := by
  unfold Panel.dropCmd
  rw [begun_host, filter_startedCmds]
  rfl

section Posted

variable {s : State} {op : Nat} {id : CmdId} {c : Cmd}

/-- A command that runs and completes leaves the commands in flight and writes its entry. -/
theorem cmdEnd_begun (h : Taken s op id c) (loud : c.mute = false) (st : Nat) (res : List Byte) :
    (s.p.begun c).cmdEnd c.key st res = (s.p.dropCmd c.key).cqe c.port (s.p.qget c.port c.sq R.sqCfg_cq) c.tag st 0 c.opcode c.sq
      (s.p.qget c.port c.sq R.qSts_sq_head) res := by
  rw [cmdEnd_of_cmd (c := c.begun) (cmd_begun (cmd_of_taken h)) loud, dropCmd_begun]
  rfl

/-- What a completion writes, where its entry does not pass 2^64 (R430, R434). -/
theorem posted_cmdEnd (h : Taken s op id c) (loud : c.mute = false)
    (room : s.p.cqBase c.port (s.p.qget c.port c.sq R.sqCfg_cq) + 131072 ≤ 2 ^ 64) (st : Nat) (res : List Byte) :
    Posted c st res s { s with p := (s.p.begun c).cmdEnd c.key st res } := by
  have hport : c.port < 4 := (h.2.2.2.1.1 c (List.mem_of_find?_eq_some (cmd_of_taken h))).1
  have hq : s.p.qget c.port c.sq R.sqCfg_cq < 64 := bits_lt _ _ _
  have htail : s.p.qget c.port (s.p.qget c.port c.sq R.sqCfg_cq) R.qSts_cq_tail < 2 ^ 12 := bits_lt _ _ _
  rw [cmdEnd_begun h loud]
  unfold Posted
  dsimp only
  generalize s.p.qget c.port c.sq R.sqCfg_cq = q at *
  have gone : s.p.Only { regs := hostRegs, host := True } (s.p.dropCmd c.key) := Frame.host (Frame.refl _ s.p) trivial _
  have mem := cqe_mem (p := s.p.dropCmd c.key) (port := c.port) (q := q) (tag := c.tag) (status := st) (flags := 0) (opcode := c.opcode)
    (sq := c.sq) (sqHead := s.p.qget c.port c.sq R.qSts_sq_head) (result := res)
  rw [dropCmd_cqBase, dropCmd_qget, dropCmd_epoch, dropCmd_cqPhase] at mem
  refine ⟨?_, fun k hk => ?_, ?_, ?_, ?_, fun ien unmasked => ?_, rfl, rfl,
    cqe_only gone (fun _ ha => ha) trivial hport hq⟩
  · have written := hostRd_hostWr (s.p.dropCmd c.key) c.port (s.p.cqBase c.port q + 32 * s.p.qget c.port q R.qSts_cq_tail)
      (cqEntry s.p.epoch (s.p.cqPhase c.port q) c.tag st 0 c.opcode c.sq (s.p.qget c.port c.sq R.qSts_sq_head) res)
      (by rw [length_cqEntry]; omega)
    rw [length_cqEntry] at written
    rw [hostRd_congr mem, written, cqEntry, Nat.zero_add]
    rfl
  · rw [mem, hostWr_byte, dropCmd_mem, dif_neg (by rw [length_cqEntry]; omega)]
  · rw [cqe_tail hq, dropCmd_cqNext]
    rfl
  · rw [cqe_phase, dropCmd_cqNext, dropCmd_cqPhase]
    rfl
  · rw [cqe_cmds]
    exact List.filter_congr fun d _ => by rw [Bool.eq_iff_iff, bne_iff_ne, decide_eq_true_iff]
  · rw [cqe_msix (p := s.p.dropCmd c.key) ien unmasked, dropCmd_msix, dropCmd_qget]

end Posted

end Sys2Proof.Machine
end

section
/-!
PROOFS. The forms of Ranger's commands: one that cannot begin does nothing, and one with a malformed descriptor completes with
BAD_PARAM (R10, R432, R433); PANEL_QUERY (R442).
-/
namespace Sys2Proof.Machine

open Sys2Proof

/-- A command as R10, R432 and R433 take it: with none to begin nothing happens, and one that is not well formed completes with
BAD_PARAM alone. -/
def TakesForms (op : Nat) (id : CmdId) (i : Instr) : Prop :=
  ∀ s : State, (s.p.begin op id = none → exec i s = .next s) ∧
    ∀ c, s.p.begin op id = some c → ¬ Formed c op → exec i s = .next { s with p := s.p.cmdEnd c.key stBadParam [] }

/-- Of a descriptor that is not well formed a field is soiled. -/
theorem soiled_of_not_formed {c : Cmd} {op : Nat} {f : Reads × List Nat} (hf : opForm c op = some f) (h : ¬ Formed c op) :
    c.soiled f.1 f.2 = true :=
  eq_true_of_ne_false fun hs => h ⟨f, hf, hs⟩

section Takes

variable {op : Nat} {id : CmdId} {i : Instr} {checks : Cmd → Panel → List (Bool × Nat)}

/-- A list of checks whose first is that of the form. -/
def FormFirst (op : Nat) (checks : Cmd → Panel → List (Bool × Nat)) : Prop :=
  ∀ (c : Cmd) (p : Panel), ¬ Formed c op → (checks c p).head? = some (true, stBadParam)

theorem find_of_head {l : List (Bool × Nat)} {st : Nat} (h : l.head? = some (true, st)) : l.find? (·.1) = some (true, st) := by
  cases l with
  | nil => cases h
  | cons e l =>
    cases h
    rfl

theorem takesForms_onPanel {run : Cmd → Panel → Panel} (he : ∀ s, exec i s = onPanel (fun p => p.start op id checks run) s)
    (hc : FormFirst op checks) : TakesForms op id i := fun s =>
  ⟨fun h => by rw [he, onPanel_next, start_none h], fun c h hf => by
    rw [he, onPanel_next, start_refused h (find_of_head (hc c s.p hf))]⟩

theorem takesForms_onFused (e : State → Host.Outcome State Fault Refusal) {checks : Fuses → Cmd → Panel → List (Bool × Nat)}
    {run : Fuses → Cmd → Panel → Panel} (he : ∀ s, exec i s = e s)
    (hs : ∀ s, e s = onFused (fun f p => p.start op id (checks f) (run f)) s) (hc : ∀ f, FormFirst op (checks f)) :
    TakesForms op id i := fun s =>
  ⟨fun h => by rw [he, hs, onFused_next, start_none h], fun c h hf => by
    rw [he, hs, onFused_next, start_refused h (find_of_head (hc s.fuses c s.p hf))]⟩

end Takes

/-- IMAGE_LOAD takes its form itself, as it may burn fuses. -/
theorem takesForms_imageLoad (id : CmdId) (err : Bool) : TakesForms 0x20 id (.imageLoad id err) := by
  intro s
  have he : exec (.imageLoad id err) s = execImageLoad id err s := rfl
  refine ⟨fun h => ?_, fun c h hf => ?_⟩
  · simp only [he, execImageLoad, onFuses, h]
  · have bad : (imageChecks c s.p).find? (·.1) = some (true, stBadParam) :=
      find_of_head (by simp [imageChecks, soiled_of_not_formed rfl hf])
    simp only [he, execImageLoad, onFuses, h, bad]

/-- POWER_STATE reads the target by its level, and no level above 2 is listed. -/
theorem formFirst_power : FormFirst 0x40 powerChecks := by
  intro c p hc
  have form : opForm c 0x40 = if c.p 0 = 0 then some ({ t := true, r := true }, [0, 1])
    else if c.p 0 = 1 then some ({ t := true }, [0, 1])
    else if c.p 0 = 2 then some ({}, [0, 1]) else none := rfl
  unfold powerChecks
  split
  · next h => simp [soiled_of_not_formed (form.trans (if_pos h)) hc]
  · next h => simp [soiled_of_not_formed (form.trans (by rw [h]; rfl)) hc]
  · next h => simp [soiled_of_not_formed (form.trans (by rw [h]; rfl)) hc]
  · rfl

/-- RESET_SCOPE reads the target by its scope code. -/
theorem formFirst_scope : FormFirst 0x50 scopeChecks := by
  intro c p hc
  have form : opForm c 0x50 = (scopeReads (c.p 0)).map (fun r => (r, [0])) := rfl
  unfold scopeChecks
  cases hr : scopeReads (c.p 0) with
  | none => rfl
  | some r => simp [soiled_of_not_formed (form.trans (by rw [hr]; rfl)) hc]

/-- Every opcode of Table 17.10 takes forms as R433 has it: every one but IMAGE_LOAD is a
Panel.start whose first check is that of the form. -/
theorem takesForms_of_opCommand {op : Nat} {id : CmdId} {err : Bool} {i : Instr} (h : opCommand id err op = some i) :
    TakesForms op id i := by
  unfold opCommand at h
  split at h <;> cases h
  case h_9 => exact takesForms_imageLoad id err
  case h_17 => exact takesForms_onFused (execPowerState id) (fun _ => rfl) (fun _ => rfl) fun _ => formFirst_power
  case h_21 => exact takesForms_onPanel (fun _ => rfl) formFirst_scope
  case h_30 =>
    exact takesForms_onFused (execFabricDiscover id) (fun _ => rfl) (fun _ => rfl) fun _ c _ hc => by simp [soiled_of_not_formed rfl hc]
  case h_32 => exact takesForms_onFused (execAttest id) (fun _ => rfl) (fun _ => rfl) fun _ c _ hc => by simp [soiled_of_not_formed rfl hc]
  all_goals
    refine takesForms_onPanel (fun _ => rfl) fun c p hc => ?_
    have bad := soiled_of_not_formed rfl hc
    simp_all [Panel.recovery, progChecks, launchChecks, copyChecks, routeChecks]

/-- PANEL_QUERY posts what it is asked (R442); that every tile's unfenced cores count is log 71, a choice of the model. -/
theorem panelQuery_posts {s : State} {id : CmdId} {c : Cmd} (h : Taken s 0x01 id c) (loud : c.mute = false)
    (room : s.p.cqBase c.port (s.p.qget c.port c.sq R.sqCfg_cq) + 131072 ≤ 2 ^ 64) :
    ∃ t, exec (.panelQuery id) s = .next t ∧
      Posted c 0 (toBytes 2 s.p.panelId ++ toBytes 1 (bits (s.p.rd (keeperB + R.panelState)) 1 0) ++ toBytes 1 s.p.activeK ++
        toBytes 1 ((List.range 144).filter (fun n => s.p.tget n R.tileSts_ready = 1)).length ++ [0] ++
        toBytes 2 ((List.range 9216).filter (fun k => !s.p.fenced (cidOf k))).length ++
        toBytes 4 (s.p.rd (globB + R.bootSts)).toNat ++ toBytes 2 s.p.host.cmds.length) s t := by
  refine ⟨_, onPanel_start h (by simp [soiled_of_taken h rfl]), ?_⟩
  have posted := posted_cmdEnd h loud room 0
  simp only [Panel.ok, begun_key, panelBegun_panelId, panelBegun_rd, panelBegun_activeK, panelBegun_tget,
    panelBegun_fenced, panelBegun_cmds]
  exact posted _

theorem rangerForms_holds : rangerForms := by
  intro s op id err
  refine ⟨fun i hi hb => (takesForms_of_opCommand hi s).1 hb, fun i c hi hb hf => (takesForms_of_opCommand hi s).2 c hb hf,
    fun c h loud room => panelQuery_posts h loud room⟩

end Sys2Proof.Machine
end

section
/-!
SUPPORT. A step repeated over a list of units, and what the commands that complete at once do to a unit: FC_STICKY, the reaction
fields, CHECK_CTL and THERM_CTL (R329, R387, R392, R394).
-/
namespace Sys2Proof.Machine

open Sys2Proof

/-! A step repeated over a list. -/

section Each

variable {α β : Type} {f : Panel → α → Panel}

/-- What every step keeps, the repetition keeps. -/
theorem each_keeps (view : Panel → β) : ∀ (l : List α) (p : Panel), (∀ a ∈ l, ∀ p, view (f p a) = view p) →
    view (p.each l f) = view p
  | [], _, _ => rfl
  | a :: l, p, h =>
    (each_keeps view l (f p a) fun b hb => h b (List.mem_cons_of_mem _ hb)).trans (h a List.mem_cons_self p)

/-- Where each step changes the view of its own unit alone, every unit of the list is changed once. -/
theorem each_once (view : α → Panel → β) (Q : α → β → β → Prop) : ∀ (l : List α) (p : Panel), l.Nodup →
    (∀ a ∈ l, ∀ p, Q a (view a p) (view a (f p a))) → (∀ a ∈ l, ∀ b ∈ l, b ≠ a → ∀ p, view b (f p a) = view b p) →
    ∀ a ∈ l, Q a (view a p) (view a (p.each l f))
  | [], _, _, _, _ => fun a ha => absurd ha List.not_mem_nil
  | d :: l, p, hl, own, other => by
    have later : ∀ b ∈ l, b ∈ d :: l := fun b hb => List.mem_cons_of_mem _ hb
    obtain ⟨hd, hl⟩ := List.nodup_cons.1 hl
    intro a ha
    show Q a (view a p) (view a ((f p d).each l f))
    rcases List.mem_cons.1 ha with rfl | ha
    · rw [each_keeps (view a) l _ fun b hb q => other b (later b hb) a List.mem_cons_self (fun e => hd (e ▸ hb)) q]
      exact own a List.mem_cons_self p
    · rw [← other d List.mem_cons_self a (later a ha) (fun e => hd (e ▸ ha)) p]
      exact each_once view Q l (f p d) hl (fun b hb => own b (later b hb)) (fun b hb e he => other b (later b hb) e (later e he)) a ha

end Each

/-! Fault collectors. -/

/-- Two collectors keep their registers at places of their own. -/
theorem stickyAddr_ne {n k : Nat} (hn : n ≤ 144) (hk : k ≤ 144) (h : k ≠ n) : stickyAddr k ≠ stickyAddr n := by
  unfold stickyAddr tileB keeperB R.fcSticky R.kFcSticky
  split <;> split <;> omega

theorem reactAddr_ne {n k a b : Nat} (hn : n ≤ 144) (hk : k ≤ 144) (h : k ≠ n) (ha : a < 16) (hb : b < 16) :
    reactAddr k + b ≠ reactAddr n + a := by
  unfold reactAddr tileB keeperB R.fcReact R.kFcReact
  split <;> split <;> omega

theorem not_hostRegs_stickyAddr {n : Nat} : ¬ hostRegs (stickyAddr n) := by
  unfold hostRegs stickyAddr tileB keeperB hostB R.fcSticky R.kFcSticky
  split <;> omega

theorem not_hostRegs_reactAddr {n a : Nat} : ¬ hostRegs (reactAddr n + a) := by
  unfold hostRegs reactAddr tileB keeperB hostB R.fcReact R.kFcReact
  split <;> omega

@[simp] theorem updColl_rd (p : Panel) (n a : Nat) (f : Coll → Coll) : (p.updColl n f).rd a = p.rd a := rfl

/-- A note changes no register. -/
@[simp] theorem sendNote_rd (p : Panel) (n a : Nat) : (p.sendNote n).rd a = p.rd a := rfl

theorem sendNote_only {p q : Panel} {m : May} (h : p.Only m q) (hm : m.msgs) {n : Nat} (hn : m.colls n) : p.Only m (q.sendNote n) :=
  Frame.updColl (Frame.send h hm _) hn _

/-- Bits cleared one after the other are clear, and the others are as they were. -/
theorem getLsbD_clear (l : List Nat) (hl : ∀ i ∈ l, i < 32) (w : W32) (j : Nat) :
    (l.foldl (fun v i => setBits v i i 0) w).getLsbD j = (w.getLsbD j && !l.contains j) := by
  induction l generalizing w with
  | nil => simp
  | cons i l ih =>
    rw [List.foldl_cons, ih (fun k hk => hl k (List.mem_cons_of_mem _ hk)), getLsbD_setBits _ _ _ _ _ (hl i List.mem_cons_self)]
    by_cases h : j = i
    · simp [h]
    · simp [h, show ¬ (i ≤ j ∧ j ≤ i) by omega]

/-- The sources that a write of FC_STICKY clears. -/
def Panel.clearedBy (p : Panel) (n m : Nat) : List Nat := (List.range 25).filter (fun i => m.testBit i && (p.sticky n).testBit i)

/-- A collector without them, the report apart. -/
def Panel.clearSticky (p : Panel) (n m : Nat) : Panel :=
  (p.wr (stickyAddr n) ((p.clearedBy n m).foldl (fun v i => setBits v i i 0) (p.rd (stickyAddr n)))).updColl n (fun k => { k with
    act := (p.clearedBy n m).foldl (fun v i => withBit v i false) k.act
    prst := (p.clearedBy n m).foldl (fun v i => withBit v i false) k.prst })

/-- A write of FC_STICKY with which no event arrives clears bits, with their reactions as taken, and is reported where it does (R392). -/
theorem stickyWrite_zero (p : Panel) (n m c : Nat) : p.stickyWrite n m 0 c =
    if n < 144 ∧ p.clearedBy n m ≠ [] then (p.clearSticky n m).sendNote n else p.clearSticky n m := by
  have again : (List.range 25).filter (fun i => m.testBit i && (0 : Nat).testBit i) = [] :=
    List.filter_eq_nil_iff.2 fun i _ => by rw [Nat.zero_testBit, Bool.and_false]; exact Bool.false_ne_true
  have cleared : (List.range 25).filter (fun i => m.testBit i && !(0 : Nat).testBit i && (p.sticky n).testBit i) = p.clearedBy n m :=
    List.filter_congr fun i _ => by rw [Nat.zero_testBit, Bool.not_false, Bool.and_true]
  unfold Panel.stickyWrite
  rw [again, cleared]
  simp only [and_true]
  rfl

theorem rd_stickyWrite (p : Panel) (n m c a : Nat) : (p.stickyWrite n m 0 c).rd a =
    if a = stickyAddr n then (p.clearedBy n m).foldl (fun v i => setBits v i i 0) (p.rd a) else p.rd a := by
  have cleared : (p.clearSticky n m).rd a =
      if a = stickyAddr n then (p.clearedBy n m).foldl (fun v i => setBits v i i 0) (p.rd a) else p.rd a := by
    rw [Panel.clearSticky, updColl_rd, rd_wr]
    split
    · next e => rw [e]
    · rfl
  rw [stickyWrite_zero]
  split
  · rw [sendNote_rd, cleared]
  · exact cleared

theorem testBit_sticky (p : Panel) (n i : Nat) : (p.sticky n).testBit i = (decide (i < 25) && (p.rd (stickyAddr n)).getLsbD i) := by
  rw [Panel.sticky, testBit_bits, Nat.zero_add]

theorem sticky_stickyWrite (p : Panel) (n m c : Nat) {i : Nat} (hi : i < 25) :
    ((p.stickyWrite n m 0 c).sticky n).testBit i = ((p.sticky n).testBit i && !m.testBit i) := by
  have small : ∀ k ∈ p.clearedBy n m, k < 32 := fun k hk => by
    have := List.mem_range.1 (List.mem_filter.1 hk).1
    omega
  rw [testBit_sticky, rd_stickyWrite, if_pos rfl, getLsbD_clear _ small, testBit_sticky]
  have mem : (p.clearedBy n m).contains i = (m.testBit i && (p.rd (stickyAddr n)).getLsbD i) := by
    rw [Bool.eq_iff_iff]
    simp [Panel.clearedBy, testBit_sticky, hi]
  rw [mem]
  cases m.testBit i <;> cases (p.rd (stickyAddr n)).getLsbD i <;> simp [hi]

theorem stickyWrite_only {p q : Panel} {m : May} (h : p.Only m q) {n : Nat} (hr : m.regs (stickyAddr n)) (hc : m.colls n) (hm : m.msgs)
    (v c : Nat) : p.Only m (q.stickyWrite n v 0 c) := by
  have cleared : p.Only m (q.clearSticky n v) := Frame.updColl (Frame.wr h hr _) hc _
  rw [stickyWrite_zero]
  split
  · exact sendNote_only cleared hm hc
  · exact cleared

/-! Reactions. -/

/-- A reaction field replaced is that source's alone. -/
theorem reaction_wr (p : Panel) (n code : Nat) (hcode : code < 8) (i j : Nat) :
    (p.wr (reactAddr n + 4 * (i / 8)) (setBits (p.rd (reactAddr n + 4 * (i / 8))) (3 * (i % 8) + 2) (3 * (i % 8)) code)).reaction n j =
      if j = i then code else p.reaction n j := by
  unfold Panel.reaction
  rw [rd_wr]
  by_cases h : j = i
  · rw [h, if_pos rfl, if_pos rfl, bits_setBits _ (by omega) (by rw [show 3 * (i % 8) + 2 + 1 - 3 * (i % 8) = 3 by omega]; exact hcode)]
  · rw [if_neg h]
    by_cases ha : j / 8 = i / 8
    · rw [ha, if_pos rfl, bits_setBits_ne _ (by omega) (by omega)]
    · rw [if_neg (by omega)]

/-- The reaction fields of some sources replaced. -/
theorem reaction_each (n code : Nat) (hcode : code < 8) (j : Nat) : ∀ (l : List Nat) (p : Panel),
    (p.each l (fun p i => p.wr (reactAddr n + 4 * (i / 8))
      (setBits (p.rd (reactAddr n + 4 * (i / 8))) (3 * (i % 8) + 2) (3 * (i % 8)) code))).reaction n j =
      if j ∈ l then code else p.reaction n j
  | [], _ => by simp [Panel.each]
  | i :: l, p => by
    refine (reaction_each n code hcode j l _).trans ?_
    rw [reaction_wr p n code hcode]
    by_cases hj : j ∈ l <;> by_cases h : j = i <;> simp [hj, h]

/-- The reaction fields of some sources replaced, the report of the pins apart. -/
def Panel.putReactions (p : Panel) (n mask code : Nat) : Panel :=
  p.each ((List.range 25).filter (fun i => mask.testBit i)) (fun p i => p.wr (reactAddr n + 4 * (i / 8))
    (setBits (p.rd (reactAddr n + 4 * (i / 8))) (3 * (i % 8) + 2) (3 * (i % 8)) code))

theorem setReactions_eq (p : Panel) (n mask code : Nat) : p.setReactions n mask code =
    if n < 144 ∧ (p.tile n).rails = false then p else (p.putReactions n mask code).pinNote n (p.pinVec n) := rfl

theorem pinNote_keeps {β : Type} (view : Panel → β) (h : ∀ p n, view (p.sendNote n) = view p) (p : Panel) (n old : Nat) :
    view (p.pinNote n old) = view p := by
  unfold Panel.pinNote
  split
  · exact h p n
  · rfl

/-- What nothing but a write of the reaction fields of n changes, setting reactions of n does not change. -/
theorem setReactions_keeps {β : Type} (view : Panel → β) (n mask code : Nat) (hn : ∀ p n, view (p.sendNote n) = view p)
    (hw : ∀ p i v, i < 25 → view (p.wr (reactAddr n + 4 * (i / 8)) v) = view p) (p : Panel) :
    view (p.setReactions n mask code) = view p := by
  rw [setReactions_eq]
  split
  · rfl
  · rw [pinNote_keeps view hn]
    exact each_keeps view _ _ fun i hi p => hw p i _ (List.mem_range.1 (List.mem_filter.1 hi).1)

/-- The masked sources of a collector with power take the code, and the others keep theirs (R387). -/
theorem reaction_setReactions {p : Panel} {n mask code : Nat} (hcode : code < 8) (live : n = 144 ∨ (p.tile n).rails = true) {i : Nat}
    (hi : i < 25) : (p.setReactions n mask code).reaction n i = if mask.testBit i then code else p.reaction n i := by
  have powered : ¬ (n < 144 ∧ (p.tile n).rails = false) := by
    rintro ⟨tile, dark⟩
    rcases live with keeper | rails
    · omega
    · exact absurd (rails.symm.trans dark) (by decide)
  rw [setReactions_eq, if_neg powered, pinNote_keeps (fun q => q.reaction n i) (fun _ _ => rfl)]
  exact (reaction_each n code hcode i _ p).trans (by simp [hi])

theorem setReactions_only {p q : Panel} {m : May} (h : p.Only m q) {n : Nat}
    (hr : ∀ a, reactAddr n ≤ a → a < reactAddr n + 16 → m.regs a) (hc : m.colls n) (hm : m.msgs) (mask code : Nat) :
    p.Only m (q.setReactions n mask code) := by
  have put : p.Only m (q.putReactions n mask code) := Frame.each _ h fun i hi r hr' => by
    have := List.mem_range.1 (List.mem_filter.1 hi).1
    exact Frame.wr hr' (hr _ (by omega) (by omega)) _
  rw [setReactions_eq]
  split
  · exact h
  · unfold Panel.pinNote
    split
    · exact sendNote_only put hm hc
    · exact put

/-! Check policies. -/

/-- The effective policy that a word of CHECK_CTL asks for (R394). -/
def wantedEff (w : W32) : Nat := if bits w 8 8 = 1 then 3 else bits w 1 0

/-- CHECK_CTL with the effective policy that it asks for. -/
def withEff (w : W32) : W32 := if wantedEff w = bits w 5 4 then w else setBits w 5 4 (wantedEff w)

/-- Recomputing the effective policy of a tile writes its CHECK_CTL, and restarts its cores' numbering where it changes. -/
theorem checkEff_eq (p : Panel) (t : Nat) : p.checkEff t =
    let w := p.rd (tileB t + R.checkCtl)
    if wantedEff w = bits w 5 4 then p
    else (p.wr (tileB t + R.checkCtl) (setBits w 5 4 (wantedEff w))).each (List.range 64) (fun p c =>
      p.updSeq (cid t c) (fun q => { q with tiles := 0, chkDue := chkDueAt (wantedEff w) 0 c })) := rfl

theorem rd_checkEff (p : Panel) (t a : Nat) :
    (p.checkEff t).rd a = if a = tileB t + R.checkCtl then withEff (p.rd a) else p.rd a := by
  have seqs (q : Panel) (g : Nat → Seq → Seq) : (q.each (List.range 64) (fun p c => p.updSeq (cid t c) (g c))).rd a = q.rd a :=
    each_keeps (fun p => p.rd a) _ q fun _ _ _ => rfl
  rw [checkEff_eq]
  dsimp only
  by_cases ha : a = tileB t + R.checkCtl
  · rw [if_pos ha, ha, withEff]
    split
    · rfl
    · rw [← ha, seqs, rd_wr, if_pos rfl]
  · rw [if_neg ha]
    split
    · rfl
    · rw [seqs, rd_wr, if_neg ha]

theorem checkEff_only {p q : Panel} {m : May} (h : p.Only m q) {t : Nat} (ht : t < 144) (hr : m.regs (tileB t + R.checkCtl))
    (hc : ∀ y : Cid, y.t.val = t → m.cores y) : p.Only m (q.checkEff t) := by
  rw [checkEff_eq]
  dsimp only
  split
  · exact h
  · exact Frame.each _ (Frame.wr h hr _) fun c _ r hr' => Frame.setCore hr' (hc (cid t c) (Nat.mod_eq_of_lt ht)) _

/-- CHECK_CTL of a tile after its policy is set (R394). -/
theorem rd_setPolicy (p : Panel) (t v a : Nat) : ((p.tset t R.checkCtl_policy v).checkEff t).rd a =
    if a = tileB t + R.checkCtl then withEff (setBits (p.rd a) 1 0 v) else p.rd a := by
  rw [rd_checkEff, tset_eq, fset_eq, rd_wr, show R.checkCtl_policy.off = R.checkCtl from rfl]
  by_cases ha : a = tileB t + R.checkCtl
  · rw [if_pos ha, if_pos ha, if_pos ha, ha]
    rfl
  · rw [if_neg ha, if_neg ha, if_neg ha]

/-- The policy written and the effective policy recomputed. -/
theorem checkPolicy_word (w : W32) {v : Nat} (hv : v < 4) : bits (withEff (setBits w 1 0 v)) 1 0 = v ∧
    bits (withEff (setBits w 1 0 v)) 5 4 = if bits w 8 8 = 1 then 3 else v := by
  have policy : bits (setBits w 1 0 v) 1 0 = v := bits_setBits w (by decide) hv
  have suspect : bits (setBits w 1 0 v) 8 8 = bits w 8 8 := bits_setBits_ne w (by decide) (by decide)
  have wanted : wantedEff (setBits w 1 0 v) = if bits w 8 8 = 1 then 3 else v := by rw [wantedEff, policy, suspect]
  have small : wantedEff (setBits w 1 0 v) < 2 ^ (5 + 1 - 4) := by rw [wanted]; split <;> omega
  unfold withEff
  split
  · next h => exact ⟨policy, h.symm.trans wanted⟩
  · exact ⟨(bits_setBits_ne _ (by decide) (by decide)).trans policy, (bits_setBits _ (by decide) small).trans wanted⟩

/-! Thermal policies. -/

/-- THERM_CTL as a command writes it (Table 12.11). -/
def thermWord (v : W32) : W32 := setBits (v &&& 0x8FFF00FF) 7 0 (max 60 (min 100 (bits v 7 0)))

theorem thermWrite_eq (p : Panel) (t : Nat) (v : W32) : p.thermWrite t v = p.wr (tileB t + R.thermCtl) (thermWord v) := rfl

/-- The hold temperature is taken between 60 and 100 °C. -/
theorem thermWord_hold (v : W32) : bits (thermWord v) 7 0 = max 60 (min 100 (bits v 7 0)) :=
  bits_setBits _ (by decide) (by omega)

/-- The bits above are as written, the reserved ones having been 0. -/
theorem thermWord_bit {n i : Nat} (h : n &&& 0x7000FF00 = 0) (lo : 8 ≤ i) (hi : i < 32) :
    (thermWord (w32 n)).getLsbD i = n.testBit i := by
  have reserved : (n &&& 0x7000FF00).testBit i = false := by rw [h]; exact Nat.zero_testBit i
  have split : ∀ i : Fin 32, 8 ≤ i.val → (0x7000FF00 : Nat).testBit i = !(0x8FFF00FF : W32).getLsbD i := by decide
  rw [thermWord, getLsbD_setBits _ _ _ _ _ (by decide), if_neg (by omega), BitVec.getLsbD_and, w32, BitVec.getLsbD_ofNat]
  rw [Nat.testBit_and, split ⟨i, hi⟩ lo] at reserved
  cases hn : n.testBit i <;> simp_all

end Sys2Proof.Machine
end

section
/-!
PROOFS. The queries and settings of Ranger that complete at once (R329, R335, R387, R392, R394, R442, R473, R474).
-/
namespace Sys2Proof.Machine

open Sys2Proof

variable {s : State} {id : CmdId} {c : Cmd}

/-! The targets. -/

theorem collsOf_le (h : namesColls c) : ∀ n ∈ collsOf c, n ≤ 144 := by
  intro n hn
  unfold collsOf at hn
  split at hn
  · exact Nat.le_of_lt (List.mem_range.1 hn)
  · split at hn
    · exact Nat.le_of_eq (List.mem_singleton.1 hn)
    · next h1 h2 =>
      rw [List.mem_singleton.1 hn]
      rcases h with h | h | h
      · omega
      · exact absurd h h2
      · exact absurd h h1

/-- Such a target is well formed. -/
theorem namesColls_check (h : namesColls c) : decide (144 ≤ c.tile ∧ c.tile < 0xFE) = false := by
  unfold namesColls at h
  simp only [decide_eq_false_iff_not]
  omega

theorem collsOf_nodup (c : Cmd) : (collsOf c).Nodup := by
  unfold collsOf
  split
  · exact List.nodup_range
  · split <;> exact List.pairwise_singleton _ _

/-- The target of a command of tiles is every tile, or one that is not gone. -/
def NamesTiles (p : Panel) (c : Cmd) : Prop := c.tile < 144 ∧ p.gone c.tile = false ∨ c.tile = 0xFF

theorem named_lt {p : Panel} (h : NamesTiles p c) : ∀ n ∈ p.named c, n < 144 := by
  intro n hn
  unfold Panel.named at hn
  split at hn
  · exact List.mem_range.1 (List.mem_filter.1 hn).1
  · next h1 =>
    rw [List.mem_singleton.1 hn]
    exact (h.resolve_right h1).1

theorem named_nodup (p : Panel) (c : Cmd) : (p.named c).Nodup := by
  unfold Panel.named
  split
  · exact List.nodup_range.filter _
  · exact List.pairwise_singleton _ _

/-- Such a target is well formed and in no conflict. -/
theorem namesTiles_checks {p : Panel} (h : NamesTiles p c) : c.badT = false ∧ p.goneOne c = false := by
  unfold Cmd.badT Panel.goneOne
  rcases h with ⟨h, hg⟩ | h
  · exact ⟨by simp [show ¬ 144 ≤ c.tile by omega], by simp [hg]⟩
  · simp [h]

/-! Queries. -/

theorem healthRead_completes (h : Taken s 0x02 id c) (tile : c.tile < 144) :
    ∃ t, exec (.healthRead id) s = .next t ∧ Completes {} c 0 (s.p.healthOf c.tile) s t := by
  have passes : decide (144 ≤ c.tile) = false := by simp [tile]
  obtain ⟨t, ht, done, -⟩ := completes_of_run (i := .healthRead id) (m := {}) rfl h
    (by simp [soiled_of_taken h rfl, passes]) (fun e => e) (Frame.refl _ _) rfl
  exact ⟨t, ht, done⟩

theorem faultRead_completes {n acts : Nat} (h : Taken s 0x70 id c) (target : c.tile < 144 ∧ n = c.tile ∨ c.tile = 0xFE ∧ n = 144)
    (hacts : ∀ i, acts.testBit i = (decide (i < 25) && (s.p.sticky n).testBit i && decide (s.p.reaction n i ≠ 0))) :
    ∃ t, exec (.faultRead id) s = .next t ∧
      Completes {} c 0 (toBytes 4 (s.p.sticky n) ++ toBytes 4 acts ++ toBytes 4 (s.p.pinVec n)) s t := by
  have passes : decide (144 ≤ c.tile ∧ c.tile ≠ 0xFE) = false := decide_eq_false (by omega)
  have coll : (if c.tile = 0xFE then 144 else c.tile) = n := by split <;> omega
  have taken : (List.range 25).foldl (fun v i => if (s.p.sticky n).testBit i && s.p.reaction n i != 0 then v + 2 ^ i else v) 0 = acts := by
    refine Nat.eq_of_testBit_eq fun i => ?_
    rw [testBit_powSum, hacts, Bool.and_assoc]
    congr 2
    rw [Bool.eq_iff_iff, bne_iff_ne, decide_eq_true_iff]
  obtain ⟨t, ht, done, -⟩ := completes_of_run (i := .faultRead id) (m := {}) rfl h
    (by simp [soiled_of_taken h rfl, passes]) (fun e => e) (Frame.refl _ _) rfl
  refine ⟨t, ht, ?_⟩
  subst taken coll
  exact done

/-! Faults. -/

/-- FC_STICKY of the collectors of a list written: each loses the bits of the mask (R392). -/
theorem sticky_clearEach (m : Nat) {l : List Nat} (hl : l.Nodup) (le : ∀ n ∈ l, n ≤ 144) (p : Panel) : ∀ n ∈ l, ∀ i, i < 25 →
    ((p.each l (fun p n => p.stickyWrite n m 0 0)).sticky n).testBit i = ((p.sticky n).testBit i && !m.testBit i) :=
  each_once (fun n p => p.sticky n) (fun _ a b => ∀ i, i < 25 → b.testBit i = (a.testBit i && !m.testBit i)) l p hl
    (fun n _ p _ hi => sticky_stickyWrite p n m 0 hi)
    (fun n hn k hk hne p => by unfold Panel.sticky; rw [rd_stickyWrite, if_neg (stickyAddr_ne (le n hn) (le k hk) hne)])

/-- What FAULT_CLEAR may change. -/
def May.clears (c : Cmd) : May :=
  { regs := fun a => ∃ n ∈ collsOf c, a = stickyAddr n, colls := fun n => n ∈ collsOf c, msgs := True }

/-- FAULT_CLEAR (R392). -/
theorem faultClear_completes (h : Taken s 0x71 id c) (target : namesColls c) (mask : c.pn 0 4 < 2 ^ 25) :
    ∃ t, exec (.faultClear id) s = .next t ∧
      (∀ n ∈ collsOf c, ∀ i, i < 25 → (t.p.sticky n).testBit i = ((s.p.sticky n).testBit i && !(c.pn 0 4).testBit i)) ∧
      Completes (May.clears c) c 0 [] s t := by
  have only : (s.p.begun c).Only (May.clears c) ((s.p.begun c).each (collsOf c) (fun p n => p.stickyWrite n (c.pn 0 4) 0 0)) :=
    Frame.each _ (Frame.refl _ _) fun n hn r hr => stickyWrite_only hr ⟨n, hn, rfl⟩ hn trivial _ _
  obtain ⟨t, ht, done, ending⟩ := completes_of_run (i := .faultClear id) rfl h
    (by simpa [soiled_of_taken h rfl, namesColls_check target] using mask) (fun e => e) only rfl
  refine ⟨t, ht, fun n hn i hi => ?_, done⟩
  rw [testBit_sticky, ending.regs _ not_hostRegs_stickyAddr, ← testBit_sticky]
  exact sticky_clearEach _ (collsOf_nodup c) (collsOf_le target) (s.p.begun c) n hn i hi

/-- What setting reactions reads and writes of a collector: whether its tile has power, and its reaction fields. -/
def reactionView (n : Nat) (p : Panel) : Bool × (Fin 25 → Nat) := ((p.tile n).rails, fun i => p.reaction n i)

/-- The reaction fields of the collectors of a list set: those of each that has power take the code (R387). -/
theorem reaction_setEach (m : Nat) {code : Nat} (hcode : code < 8) {l : List Nat} (hl : l.Nodup) (le : ∀ n ∈ l, n ≤ 144) (p : Panel) :
    ∀ n ∈ l, n = 144 ∨ (p.tile n).rails = true → ∀ i : Fin 25,
      (p.each l (fun p n => p.setReactions n m code)).reaction n i = if m.testBit i then code else p.reaction n i :=
  each_once reactionView (fun n a b => n = 144 ∨ a.1 = true → ∀ i : Fin 25, b.2 i = if m.testBit i then code else a.2 i) l p hl
    (fun _ _ _ live i => reaction_setReactions hcode live i.isLt)
    (fun n hn k hk hne => setReactions_keeps (reactionView k) n m code (fun _ _ => rfl) fun p i v hi => by
      have apart : ∀ j : Fin 25, (p.wr (reactAddr n + 4 * (i / 8)) v).reaction k j = p.reaction k j := fun j => by
        unfold Panel.reaction
        rw [rd_wr, if_neg (reactAddr_ne (le n hn) (le k hk) hne (by omega) (by omega))]
      exact Prod.ext rfl (funext apart))

theorem meas_congr {p q : Panel} (h : p.keep = q.keep) (i : Nat) : p.meas i = q.meas i := by
  unfold Panel.meas
  rw [h]

/-- A command recorded extends measurement 7 (R473). -/
theorem meas_record (p : Panel) (c : Cmd) : (p.record c).meas 7 = sha256 (p.meas 7 ++ toBytes 64 c.desc.toNat) :=
  sget_sset_self _ _ _

/-- Recording a command changes the keeper's state alone. -/
theorem record_only {p q : Panel} {m : May} (h : p.Only m q) (c : Cmd) : p.Only { m with keep := True } (q.record c) := by
  have wide : p.Only { m with keep := True } q := { h with keep := fun n => absurd trivial n }
  unfold Panel.record Panel.extend Panel.setMeas
  exact Frame.updKeep wide trivial _

@[simp] theorem record_rd (p : Panel) (c : Cmd) (a : Nat) : (p.record c).rd a = p.rd a := rfl

/-- What the reactions that REACTION_SET sets may change. -/
def May.reactions (c : Cmd) : May :=
  { regs := fun a => ∃ n ∈ collsOf c, reactAddr n ≤ a ∧ a < reactAddr n + 16, colls := fun n => n ∈ collsOf c, msgs := True }

/-- REACTION_SET (R387, R473). -/
theorem reactionSet_completes (h : Taken s 0x72 id c) (target : namesColls c) (mask : c.pn 0 4 < 2 ^ 25) (code : c.p 4 ≤ 5) :
    ∃ t, exec (.reactionSet id) s = .next t ∧
      (∀ n ∈ collsOf c, n = 144 ∨ (s.p.tile n).rails = true → ∀ i, i < 25 →
        t.p.reaction n i = if (c.pn 0 4).testBit i then c.p 4 else s.p.reaction n i) ∧
      t.p.meas 7 = sha256 (s.p.meas 7 ++ toBytes 64 c.desc.toNat) ∧
      Completes { May.reactions c with keep := True } c 0 [] s t := by
  have set : (s.p.begun c).Only (May.reactions c) ((s.p.begun c).each (collsOf c) (fun p n => p.setReactions n (c.pn 0 4) (c.p 4))) :=
    Frame.each _ (Frame.refl _ _) fun n hn r hr => setReactions_only hr (fun a lo hi => ⟨n, hn, lo, hi⟩) hn trivial _ _
  obtain ⟨t, ht, done, ending⟩ := completes_of_run (i := .reactionSet id) rfl h
    (by simpa [soiled_of_taken h rfl, namesColls_check target] using ⟨mask, code⟩) (fun e => e)
    (record_only set c.begun) rfl
  refine ⟨t, ht, fun n hn live i hi => ?_, ?_, done⟩
  · unfold Panel.reaction
    rw [ending.regs _ not_hostRegs_reactAddr, record_rd]
    exact reaction_setEach _ (by omega) (collsOf_nodup c) (collsOf_le target) (s.p.begun c) n hn live ⟨i, hi⟩
  · rw [meas_congr (ending.keep fun e => e), meas_record, meas_congr (set.keep fun e => e)]
    rfl

/-! Policies and budgets. -/

/-- What the policies that CHECK_POLICY sets may change. -/
def May.policies (p : Panel) (c : Cmd) : May :=
  { regs := fun a => ∃ n ∈ p.named c, a = tileB n + R.checkCtl, cores := fun y => y.t.val ∈ p.named c }

/-- Two tiles keep a register at places of their own. -/
theorem tileB_ne {n k o : Nat} (h : k ≠ n) : tileB k + o ≠ tileB n + o := by
  unfold tileB
  omega

theorem not_hostRegs_tileB {n o : Nat} : ¬ hostRegs (tileB n + o) := by
  unfold hostRegs tileB hostB
  omega

/-- CHECK_CTL of the tiles of a list after their policy is set. -/
theorem rd_setPolicyEach (v : Nat) {l : List Nat} (hl : l.Nodup) (p : Panel) : ∀ n ∈ l,
    (p.each l (fun p t => (p.tset t R.checkCtl_policy v).checkEff t)).rd (tileB n + R.checkCtl) =
      withEff (setBits (p.rd (tileB n + R.checkCtl)) 1 0 v) :=
  each_once (fun n p => p.rd (tileB n + R.checkCtl)) (fun _ a b => b = withEff (setBits a 1 0 v)) l p hl
    (fun _ _ p => by rw [rd_setPolicy, if_pos rfl])
    (fun _ _ _ _ hne p => by rw [rd_setPolicy, if_neg (tileB_ne hne)])

/-- CHECK_POLICY (R394, R473). -/
theorem checkPolicy_completes (h : Taken s 0x60 id c) (target : NamesTiles s.p c) (policy : c.p 0 < 4) :
    ∃ t, exec (.checkPolicy id) s = .next t ∧
      (∀ n ∈ s.p.named c, t.p.tget n R.checkCtl_policy = c.p 0 ∧
        t.p.tget n R.checkCtl_eff = if s.p.tget n R.checkCtl_suspect = 1 then 3 else c.p 0) ∧
      t.p.meas 7 = sha256 (s.p.meas 7 ++ toBytes 64 c.desc.toNat) ∧
      Completes { May.policies s.p c with keep := True } c 0 [] s t := by
  have lt := named_lt target
  have set : (s.p.begun c).Only (May.policies s.p c)
      ((s.p.begun c).each (s.p.named c) (fun p t => (p.tset t R.checkCtl_policy (c.p 0)).checkEff t)) :=
    Frame.each _ (Frame.refl _ _) fun n hn r hr =>
      checkEff_only (Frame.wr hr ⟨n, hn, rfl⟩ _) (lt n hn) ⟨n, hn, rfl⟩ fun y hy => (hy ▸ hn : y.t.val ∈ s.p.named c)
  obtain ⟨t, ht, done, ending⟩ := completes_of_run (i := .checkPolicy id) rfl h
    (by simpa [soiled_of_taken h rfl, namesTiles_checks target] using policy) (fun e => e)
    (record_only set c.begun) rfl
  refine ⟨t, ht, fun n hn => ?_, ?_, done⟩
  · have word : t.p.rd (tileB n + R.checkCtl) = withEff (setBits (s.p.rd (tileB n + R.checkCtl)) 1 0 (c.p 0)) := by
      rw [ending.regs _ not_hostRegs_tileB, record_rd, rd_setPolicyEach (c.p 0) (named_nodup s.p c) (s.p.begun c) n hn, panelBegun_rd]
    obtain ⟨hp, he⟩ := checkPolicy_word (s.p.rd (tileB n + R.checkCtl)) policy
    exact ⟨(congrArg (bits · 1 0) word).trans hp, (congrArg (bits · 5 4) word).trans he⟩
  · rw [meas_congr (ending.keep fun e => e), meas_record, meas_congr (set.keep fun e => e)]
    rfl

/-- What BUDGET_SET may change. -/
def May.budget : May := { regs := fun a => a = keeperB + R.panelBudget ∨ a = keeperB + R.panelBudgetEff ∨ a = keeperB + R.coolSts }

/-- The panel with its budgets set. -/
def Panel.setBudgets (p : Panel) (panel tile : Nat) : Panel :=
  ((p.kset R.panelBudget_panel panel).kset R.panelBudget_tile_max tile).showBudget

theorem setBudgets_only (p : Panel) (panel tile : Nat) : p.Only May.budget (p.setBudgets panel tile) := by
  have budget : May.budget.regs (keeperB + R.panelBudget) := Or.inl rfl
  exact Frame.wr (Frame.wr (Frame.wr (Frame.wr (Frame.refl _ p) budget _) budget _) (Or.inr (Or.inl rfl)) _) (Or.inr (Or.inr rfl)) _

/-- PANEL_BUDGET once both budgets are set. -/
def budgetWord (w : W32) (panel tile : Nat) : W32 := setBits (setBits w 15 0 panel) 24 16 tile

theorem budgetWord_fields (w : W32) {panel tile : Nat} (hp : panel < 65536) (ht : tile < 512) :
    bits (budgetWord w panel tile) 15 0 = panel ∧ bits (budgetWord w panel tile) 24 16 = tile :=
  ⟨(bits_setBits_ne _ (by decide) (by decide)).trans (bits_setBits _ (by decide) hp), bits_setBits _ (by decide) ht⟩

/-- What the budget registers read once the budgets are set (R335, R341). -/
theorem rd_setBudgets (p : Panel) {panel tile : Nat} (hp : panel < 65536) (ht : tile < 512) :
    (p.setBudgets panel tile).rd (keeperB + R.panelBudget) = budgetWord (p.rd (keeperB + R.panelBudget)) panel tile ∧
      (p.setBudgets panel tile).rd (keeperB + R.panelBudgetEff) = w32 (panel * (10 - p.keep.lowered) / 10) := by
  have word : ((p.kset R.panelBudget_panel panel).kset R.panelBudget_tile_max tile).rd (keeperB + R.panelBudget) =
      budgetWord (p.rd (keeperB + R.panelBudget)) panel tile := by
    rw [kset_eq, kset_eq, fset_eq, fset_eq, rd_wr, rd_wr]
    rfl
  have eff : ((p.kset R.panelBudget_panel panel).kset R.panelBudget_tile_max tile).effBudget = panel * (10 - p.keep.lowered) / 10 := by
    have field : ((p.kset R.panelBudget_panel panel).kset R.panelBudget_tile_max tile).kget R.panelBudget_panel = panel :=
      (congrArg (bits · 15 0) word).trans (budgetWord_fields _ hp ht).1
    rw [Panel.effBudget, field]
    rfl
  unfold Panel.setBudgets Panel.showBudget
  refine ⟨?_, ?_⟩
  · rw [kset_eq (Panel.wr _ _ _), fset_eq, rd_wr, if_neg (by decide), rd_wr, if_neg (by decide), word]
  · rw [kset_eq (Panel.wr _ _ _), fset_eq, rd_wr, if_neg (by decide), rd_wr, if_pos rfl, eff]

/-- BUDGET_SET (R335). -/
theorem budgetSet_completes (h : Taken s 0x43 id c) (p1 : 10000 ≤ c.pn 0 2) (p2 : c.pn 0 2 ≤ 41676) (t1 : 60 ≤ c.pn 2 2)
    (t2 : c.pn 2 2 ≤ 310) :
    ∃ t, exec (.budgetSet id) s = .next t ∧ t.p.kget R.panelBudget_panel = c.pn 0 2 ∧ t.p.kget R.panelBudget_tile_max = c.pn 2 2 ∧
      t.p.rd (keeperB + R.panelBudgetEff) = w32 (c.pn 0 2 * (10 - s.p.keep.lowered) / 10) ∧ Completes May.budget c 0 [] s t := by
  have kept : ∀ o, o < 0x10000 → ¬ hostRegs (keeperB + o) := fun o _ => by unfold hostRegs keeperB hostB; omega
  obtain ⟨t, ht, done, ending⟩ := completes_of_run (i := .budgetSet id) rfl h
    (by simpa [soiled_of_taken h rfl] using ⟨p1, p2, t1, t2⟩) (fun e => e) (setBudgets_only (s.p.begun c) (c.pn 0 2) (c.pn 2 2)) rfl
  obtain ⟨word, eff⟩ := rd_setBudgets (s.p.begun c) (panel := c.pn 0 2) (tile := c.pn 2 2) (by omega) (by omega)
  obtain ⟨panel, tile⟩ := budgetWord_fields (s.p.rd (keeperB + R.panelBudget)) (panel := c.pn 0 2) (tile := c.pn 2 2)
    (by omega) (by omega)
  have word := (ending.regs _ (kept R.panelBudget (by decide))).trans word
  exact ⟨t, ht, (congrArg (bits · 15 0) word).trans panel, (congrArg (bits · 24 16) word).trans tile,
    (ending.regs _ (kept R.panelBudgetEff (by decide))).trans eff, done⟩

/-- What THERMAL_POLICY may change. -/
def May.therm (p : Panel) (c : Cmd) : May :=
  { regs := fun a => ∃ n ∈ p.named c, a = tileB n + R.thermCtl, tiles := fun n => n ∈ p.named c }

/-- A tile's thermal policy set: THERM_CTL, and with fresh the coefficients of its record. -/
def Panel.setTherm (p : Panel) (t : Nat) (v : W32) (fresh : Nat) : Panel :=
  if fresh = 1 then (p.thermWrite t v).startCoef t else p.thermWrite t v

section Therm

variable (p : Panel) (t : Nat)

theorem startCoef_rd (a : Nat) : (p.startCoef t).rd a = p.rd a := by
  unfold Panel.startCoef Panel.rd
  rw [updTile_regs]

/-- Of a tile the record's coefficients replace the coefficients alone. -/
theorem startCoef_tile (k : Nat) : (p.startCoef t).tile k =
    if k = t then { p.tile k with coef := ((p.startCoef t).tile k).coef } else p.tile k := by
  unfold Panel.startCoef
  rw [tile_updTile]
  split
  · next e => rw [e]
  · rfl

theorem thermWrite_tile (v : W32) (k : Nat) : (p.thermWrite t v).tile k = p.tile k := by
  unfold Panel.tile
  rw [thermWrite_eq, wr_tiles]

variable (v : W32) (fresh : Nat)

theorem rd_setTherm (a : Nat) : (p.setTherm t v fresh).rd a = if a = tileB t + R.thermCtl then thermWord v else p.rd a := by
  unfold Panel.setTherm
  split
  · rw [startCoef_rd, thermWrite_eq, rd_wr]
  · rw [thermWrite_eq, rd_wr]

theorem tile_setTherm (k : Nat) : (p.setTherm t v fresh).tile k =
    if k = t then { p.tile k with coef := ((p.setTherm t v fresh).tile k).coef } else p.tile k := by
  unfold Panel.setTherm
  split
  · rw [startCoef_tile, thermWrite_tile]
    split <;> rfl
  · rw [thermWrite_tile, ite_self]

/-- Without fresh the tile is as it was. -/
theorem tile_setTherm_kept (h : fresh ≠ 1) (k : Nat) : (p.setTherm t v fresh).tile k = p.tile k := by
  unfold Panel.setTherm
  rw [if_neg h, thermWrite_tile]

end Therm

theorem setTherm_only {p q : Panel} {m : May} (h : p.Only m q) {t : Nat} (hr : m.regs (tileB t + R.thermCtl)) (ht : m.tiles t) (v : W32)
    (fresh : Nat) : p.Only m (q.setTherm t v fresh) := by
  unfold Panel.setTherm
  split
  · exact Frame.updTile (Frame.wr h hr _) ht _
  · exact Frame.wr h hr _

/-- The tiles of a list after their thermal policy is set (R329). -/
theorem setThermEach (v : W32) (fresh : Nat) {l : List Nat} (hl : l.Nodup) (p : Panel) : ∀ n ∈ l,
    let q := p.each l (fun p t => p.setTherm t v fresh)
    q.rd (tileB n + R.thermCtl) = thermWord v ∧ (fresh ≠ 1 → q.tile n = p.tile n) ∧
      q.tile n = { p.tile n with coef := (q.tile n).coef } :=
  each_once (fun n p => (p.rd (tileB n + R.thermCtl), p.tile n))
    (fun _ a b => b.1 = thermWord v ∧ (fresh ≠ 1 → b.2 = a.2) ∧ b.2 = { a.2 with coef := b.2.coef }) l p hl
    (fun n _ p => ⟨by rw [rd_setTherm, if_pos rfl], fun h => tile_setTherm_kept p n v fresh h n,
      (tile_setTherm p n v fresh n).trans (if_pos rfl)⟩)
    (fun n _ k _ hne p => Prod.ext (by dsimp only; rw [rd_setTherm, if_neg (tileB_ne hne)])
      ((tile_setTherm p n v fresh k).trans (if_neg hne)))

/-- The low byte of a parameter word is its first byte. -/
theorem bits_pn (c : Cmd) (a : Nat) : bits (w32 (c.pn a 4)) 7 0 = c.pn a 1 := by
  refine Nat.eq_of_testBit_eq fun i => ?_
  simp only [testBit_bits, Cmd.pn, w32, BitVec.getLsbD_ofNat]
  rw [show 128 + 8 * a + 8 * 4 - 1 + 1 - (128 + 8 * a) = 32 by omega, show 128 + 8 * a + 8 * 1 - 1 + 1 - (128 + 8 * a) = 8 by omega,
    Nat.zero_add]
  by_cases hi : i < 8
  · simp [hi, show i < 32 by omega]
  · simp [hi]

/-- THERMAL_POLICY (R329): with fresh the tile's coefficients alone are reloaded (log 77, a choice of the model). -/
theorem thermalPolicy_completes (h : Taken s 0x42 id c) (target : NamesTiles s.p c) (reserved : c.pn 0 4 &&& 0x7000FF00 = 0)
    (fresh : c.p 4 ≤ 1) : ∃ t, exec (.thermalPolicy id) s = .next t ∧
      (∀ n ∈ s.p.named c, t.p.tget n R.thermCtl_hold = max 60 (min 100 (c.pn 0 1)) ∧
        (∀ i : Nat, 8 ≤ i → i < 32 → (t.p.rd (tileB n + R.thermCtl)).getLsbD i = (c.pn 0 4).testBit i) ∧
        (c.p 4 = 0 → t.p.tile n = s.p.tile n) ∧ t.p.tile n = { s.p.tile n with coef := (t.p.tile n).coef }) ∧
      Completes (May.therm s.p c) c 0 [] s t := by
  have set : (s.p.begun c).Only (May.therm s.p c)
      ((s.p.begun c).each (s.p.named c) (fun p t => p.setTherm t (w32 (c.pn 0 4)) (c.p 4))) :=
    Frame.each _ (Frame.refl _ _) fun n hn r hr => setTherm_only hr ⟨n, hn, rfl⟩ hn _ _
  obtain ⟨t, ht, done, ending⟩ := completes_of_run (i := .thermalPolicy id) rfl h
    (by simpa [soiled_of_taken h rfl, namesTiles_checks target, reserved] using fresh) (fun e => e) set rfl
  refine ⟨t, ht, fun n hn => ?_, done⟩
  obtain ⟨word, same, coef⟩ := setThermEach (w32 (c.pn 0 4)) (c.p 4) (named_nodup s.p c) (s.p.begun c) n hn
  have word := (ending.regs _ not_hostRegs_tileB).trans word
  have tile := ending.tiles n (fun e => e)
  refine ⟨?_, fun i lo hi => ?_, fun h0 => ?_, ?_⟩
  · exact (congrArg (bits · 7 0) word).trans ((thermWord_hold _).trans (by rw [bits_pn]))
  · rw [word, thermWord_bit reserved lo hi]
  · exact tile.trans (same (by omega))
  · rw [tile]
    exact coef

/-- MEASURE_READ writes the measurement to host memory, or completes with HW_FAULT where a PCIe error meets it (R442, R474). -/
theorem measureRead_completes (err : Bool) (h : Taken s 0xA1 id c) (which : c.p 0 ≤ 7) (done : s.p.bootDone 1 = true) :
    ∃ t, exec (.measureRead id err) s = .next t ∧ (err = true → Completes {} c stHwFault [] s t) ∧
      (err = false → t.pending = s.pending ∧ t.fuses = s.fuses ∧ ∃ q : Panel, s.p.Only { host := True } q ∧
        q.host.cmds = startedCmds s c ∧ t.p = q.cmdEnd c.key 0 [] ∧
        (c.pn 8 8 + (s.p.meas (c.p 0)).length ≤ 2 ^ 64 →
          q.hostRd c.port (c.pn 8 8) (s.p.meas (c.p 0)).length = s.p.meas (c.p 0))) := by
  refine ⟨_, onPanel_start h (by simpa [soiled_of_taken h rfl, done] using which), fun e => ?_, fun e => ?_⟩
  · subst e
    exact ⟨rfl, rfl, s.p.begun c, begun_only (Frame.refl {} _), rfl, rfl⟩
  · subst e
    exact ⟨rfl, rfl, (s.p.begun c).hostWr c.port (c.pn 8 8) (s.p.meas (c.p 0)),
      Frame.host (Frame.host (Frame.refl _ s.p) trivial _) trivial _,
      rfl, rfl, fun room => hostRd_hostWr _ _ _ _ room⟩

theorem immediateCommands_holds : immediateCommands := fun _ _ _ =>
  ⟨healthRead_completes, fun _ _ => faultRead_completes, faultClear_completes, reactionSet_completes, checkPolicy_completes,
    budgetSet_completes, thermalPolicy_completes, measureRead_completes⟩

/-- Settles O51: every opcode takes forms in one way, and a command that completes at once is a run between its start and its
completion, whose effects are put together. -/
theorem rangerFormsAndQueries : Obligations.RangerFormsAndQueries := ⟨rangerForms_holds, immediateCommands_holds⟩

end Sys2Proof.Machine
end

section
/-!
SUPPORT. The state right after reset: every map of it is empty, so each unit reads as its own reset value; the seed of a core's
generator (R55, R496); the invariants that the statements name.
-/
namespace Sys2Proof.Machine

open Sys2Proof

/-! What reset leaves reads as each unit's reset value. -/

@[simp] theorem reset_rd (a : Nat) : State.reset.p.rd a = regReset a := rfl
@[simp] theorem reset_ctr (a : Nat) : State.reset.p.ctr a = .zero := rfl
@[simp] theorem reset_tile (n : Nat) : State.reset.p.tile n = .zero := rfl
@[simp] theorem reset_die (d : Nat) : State.reset.p.die d = .zero := rfl
@[simp] theorem reset_keep : State.reset.p.keep = .zero := rfl
@[simp] theorem reset_portUp (n : Nat) : State.reset.p.portUp n = false := rfl

/-- A sequencer's token counters hold their reset values (R99). -/
@[simp] theorem reset_token (x : Cid) (k : Nat) : (State.reset.p.core x).seq.token k = tokReset k := rfl

/-! The seed of a core's generator. -/

/-- The seed by the tile's place in the grid, on panel id 0. -/
theorem seedReset_eq (t c : Nat) : seedReset t c = 1 + 2 ^ 13 * tileX t + 2 ^ 9 * tileY t + 8 * c := by
  simp only [seedReset, Ep.addr, Ep.tileUnit]
  omega

/-- A core's reset seed fits the low word, and is never 0. -/
theorem seedReset_bounds {t c : Nat} (ht : t < 144) (hc : c < 64) : 0 < seedReset t c ∧ seedReset t c < 2 ^ 32 := by
  rw [seedReset_eq, tileX, tileY]
  omega

theorem regReset_srSeedLo (x : Cid) : regReset (coreB x.t x.c + R.srSeed) = w32 (seedReset x.t x.c) := by
  unfold regReset
  rw [blkOf_core x.t.isLt x.c.isLt (by decide)]
  rfl

theorem regReset_srSeedHi (x : Cid) : regReset (coreB x.t x.c + (R.srSeed + 4)) = 0 := by
  unfold regReset rowAt
  rw [blkOf_core x.t.isLt x.c.isLt (by decide)]
  rfl

/-- SR_SEED_LO after reset holds the whole seed, unreduced. -/
theorem reset_seedLo (x : Cid) : (State.reset.p.crd x R.srSeed).toNat = seedReset x.t x.c := by
  obtain ⟨-, lt⟩ := seedReset_bounds x.t.isLt x.c.isLt
  rw [crd_eq, reset_rd, regReset_srSeedLo, w32, BitVec.toNat_ofNat, Nat.mod_eq_of_lt lt]

theorem reset_seedHi (x : Cid) : State.reset.p.crd x (R.srSeed + 4) = 0 := by
  rw [crd_eq, reset_rd, regReset_srSeedHi]

/-- The generator holds a seed other than 0 as it is (R55, R496). -/
theorem lfsrSeed_toNat {n : Nat} (pos : 0 < n) (lt : n < 2 ^ 64) : (lfsrSeed (w64 n)).toNat = n := by
  have value : (w64 n).toNat = n := Nat.mod_eq_of_lt lt
  have ne : w64 n ≠ 0 := fun e => by simp [e] at value; omega
  rw [lfsrSeed, if_neg ne, value]

/-- A core that has drawn no bit has its generator as SR_SEED seeds it. -/
theorem lfsr_of_undrawn {p : Panel} {x : Cid} (h : (p.core x).lfsr = none) :
    p.lfsr x = lfsrSeed (w64 ((p.crd x R.srSeed).toNat + 2 ^ 32 * (p.crd x (R.srSeed + 4)).toNat)) := by
  unfold Panel.lfsr
  rw [h]

theorem reset_lfsr (x : Cid) : (State.reset.p.lfsr x).toNat = seedReset x.t x.c := by
  obtain ⟨pos, lt⟩ := seedReset_bounds x.t.isLt x.c.isLt
  rw [lfsr_of_undrawn rfl, reset_seedLo, reset_seedHi]
  exact lfsrSeed_toNat pos (by omega)

/-! The invariants. -/

/-- An empty map has the canonical form. -/
theorem swf_nil {α : Type} [DecidableEq α] (dflt : Nat → α) : swf dflt [] = true := rfl

theorem fusesInRange_reset : FusesInRange State.reset := ⟨swf_nil _, Nat.zero_le _, Nat.zero_le _⟩

theorem cmdsInRange_reset : CmdsInRange State.reset := ⟨fun _ h => absurd h List.not_mem_nil, List.nodup_nil⟩

/-- Every list that the ranges speak of is empty after reset, and nothing is mirrored or burnt. -/
theorem listsInRange_reset : ListsInRange State.reset := by
  refine ⟨fun _ h => absurd h List.not_mem_nil, fun _ h => absurd h List.not_mem_nil, fun _ _ h => absurd h List.not_mem_nil,
    fun _ h => absurd h List.not_mem_nil, fun m mirrored => ?_, fun b burning => ?_⟩
  · rw [reset_keep] at mirrored
    cases mirrored
  · rw [reset_keep] at burning
    cases burning

theorem memoryWf_reset : MemoryWf State.reset := by
  obtain ⟨mem, spad, cells⟩ := reset_memories
  exact ⟨mem ▸ swf_nil _, fun x => spad x ▸ swf_nil _, fun x => cells x ▸ swf_nil _⟩

/-- Every map of the panel and of the fuses is empty after reset. -/
theorem wf_reset : State.reset.wf = true := by
  simp [State.wf, Fuses.wf, Panel.wf, State.reset, Fuses.zero, Panel.zero, HostSt.zero, swf_nil]

/-- Settles O5: nothing is powered and every unit reads its reset value, the seeds by their addresses; the empty maps and lists meet
every invariant. -/
theorem resetState : Obligations.ResetState := by
  have seeds : ∀ x : Cid, seedReset x.t x.c = 1 + 2 ^ 13 * tileX x.t + 2 ^ 9 * tileY x.t + 8 * x.c :=
    fun x => seedReset_eq x.t x.c
  have tokens : ∀ (x : Cid) (k : Nat), k < 64 → (State.reset.p.core x).seq.token k = if k = 62 then 16 else 0 :=
    fun x k _ => by rw [reset_token, tokReset]
  have counters : ∀ a, (State.reset.p.ctr a).lo = 0 ∧ (State.reset.p.ctr a).hi = 0 :=
    fun a => by rw [reset_ctr]; decide
  exact ⟨rfl, rfl, fun d => by rw [reset_die]; rfl, fun n => ⟨by rw [reset_tile]; rfl, reset_portUp n⟩, rfl, rfl, rfl, tokens,
    fun x => ⟨(reset_seedLo x).trans (seeds x), reset_seedHi x, (reset_lfsr x).trans (seeds x)⟩, counters,
    fusesInRange_reset, cmdsInRange_reset, listsInRange_reset, memoryWf_reset, wf_reset⟩

end Sys2Proof.Machine
end
